-- ==== Sys2Proof/Word.lean ====
section
/-! DEFINITION. The words of the LK-4416: the byte of the message link and the twelve-bit sample of a panel port. -/

namespace Sys2Proof

/-- One byte of a frame on the message link (11 R181). -/
abbrev Byte := BitVec 8

/-- One twelve-bit sample of a panel frame (00 section 3.1, 10 R165). -/
abbrev Sample := BitVec 12

end Sys2Proof
end

