-- ==== Sys2Proof/Syntax.lean ====
section
/-! DEFINITION. The commands of the LK-4416: one constructor for each row of spec/opcode_table.json.

A request row (STATE_GET, MODE_SET, …) is the dispatch of the frame at the head of the inbound queue (11 R185): the
request's operands are that frame's payload, so its constructor carries none (assumption 1). -/

namespace Sys2Proof

/-- The 40 rows of the table, in the table's order. -/
inductive Instr where
  /-- RESET_PIN_ASSERT (R37): RESET_N goes low. -/
  | resetPinAssert
  /-- RESET_PIN_RELEASE (R37): RESET_N rises while the straps RATE1, RATE0 stand at the levels given. -/
  | resetPinRelease (straps : BitVec 2)
  /-- FRAME_RECEIVED (R183): the bytes of one frame arrive on RXD without a gap (assumption 5). -/
  | frameReceived (cls tag : Byte) (payload : List Byte) (check : BitVec 16)
  /-- RECEIVE_GAP_TIMEOUT (R182): more than 2 ms pass after the last byte of the frame in hand. -/
  | receiveGapTimeout
  /-- UNKNOWN_CLASS (R185): the dispatcher takes a frame whose CLASS is no request class. -/
  | unknownClass
  /-- STATE_GET (R36). -/
  | stateGet
  /-- MODE_SET (R23). -/
  | modeSet
  /-- MAP_COMMIT (R27). -/
  | mapCommit
  /-- MAP_CHECK_END (R33): the map check finishes its four passes. -/
  | mapCheckEnd
  /-- RESET_FULL (R38): the RESET request of kind FULL. -/
  | resetFull
  /-- RESET_SESSIONS (R39): the RESET request of kind SESSIONS. -/
  | resetSessions
  /-- LOAD_OPEN (R12). -/
  | loadOpen
  /-- LOAD_WRITE (R14). -/
  | loadWrite
  /-- LOAD_READ (R18). -/
  | loadRead
  /-- SEGMENT_SET (R117). -/
  | segmentSet
  /-- LISTING_SET (R124). -/
  | listingSet
  /-- SCREEN_SET (R147). -/
  | screenSet
  /-- ROUTE_ASK (R153). -/
  | routeAsk
  /-- DIRECTORY_ASK (R132). -/
  | directoryAsk
  /-- FENCE (R154). -/
  | fence
  /-- CANCEL (R155). -/
  | cancel
  /-- HOTSPOTS_SET (R175). -/
  | hotspotsSet
  /-- PANEL_SET (R164). -/
  | panelSet
  /-- PANEL_INJECT (R167). -/
  | panelInject
  /-- BASELINE_CAPTURE (R179). -/
  | baselineCapture
  /-- REPORT_MASK (R189). -/
  | reportMask
  /-- UNIT_PEEK (R77). -/
  | unitPeek
  /-- SETTLE_STEP (R61): the settle step in hand of a search unit. -/
  | settleStep (unit : Fin 2)
  /-- COMPOSITION_END (R94): the route composer has built the route of its job. -/
  | compositionEnd
  /-- ROUTE_FINALISATION (R95): the route composer finalises its job for the next requester. -/
  | routeFinalisation
  /-- SWEEP_EXAMINATION (R111): the sweep engine examines one cache entry. -/
  | sweepExamination
  /-- DIRECTORY_EXAMINATION (R139): the directory scan examines one listing. -/
  | directoryExamination
  /-- SESSION_EXPIRY (R149): the idle timer of a screen reaches its timeout. -/
  | sessionExpiry (screen : Fin 4)
  /-- TRANSMIT_START (R187): the transmit arbiter chooses the next frame. -/
  | transmitStart
  /-- TRANSMIT_COMPLETE (R183): the frame being sent has been sent. -/
  | transmitComplete
  /-- PANEL_FRAME_RECEIVED (R165): a panel port frame of these samples ends at its marker. -/
  | panelFrameReceived (panel : Fin 4) (samples : List Sample)
  /-- FRAME_PROCESSING_START (R165): a panel takes its buffered frame into processing. -/
  | frameProcessingStart (panel : Fin 4)
  /-- FRAME_PROCESSED (R172): a panel finishes the frame in processing. -/
  | frameProcessed (panel : Fin 4)
  /-- FRAME_TIMER_EXPIRY (R166): 250 ms have passed without a good frame. -/
  | frameTimerExpiry (panel : Fin 4)
  /-- LINK_BYTE_RECEIVED (R182): one byte arrives on RXD. -/
  | linkByteReceived (byte : Byte)
  deriving DecidableEq, Repr

end Sys2Proof
end

