-- ==== Sys2Proof/Config.lean ====
section
/-! DEFINITION. The numbers the spec fixes for the part: its identity, its capacities and its timeouts.
The spec leaves no result value open, so no free value (no opaque constant) stands here (assumption 25). -/

namespace Sys2Proof.Config

/-- Part code reported by STATE_GET and STARTED (02 R36, R37). -/
abbrev partCode : Nat := 4416
/-- Revision reported by STATE_GET and STARTED (02 R36, R37). -/
abbrev revision : Nat := 1

/-- Capacity of the waypoint table (01 R9). -/
abbrev waypointCapacity : Nat := 4096
/-- Capacity of the segment table (01 R9). -/
abbrev segmentCapacity : Nat := 16384
/-- Capacity of the listing table (01 R9). -/
abbrev listingCapacity : Nat := 2048
/-- Number of travel profiles (01 R9, 03 R40). -/
abbrev profileCapacity : Nat := 8
/-- Entries of a strength curve (01 R9). -/
abbrev curveCapacity : Nat := 256
/-- Cells of a panel frame and of a baseline (01 R9, 10 R165). -/
abbrev cellCount : Nat := 960
/-- Columns of the panel grid (10 R167). -/
abbrev gridColumns : Nat := 40
/-- Rows of the panel grid (10 R167). -/
abbrev gridRows : Nat := 24

/-- The largest payload of a frame (11 R181). -/
abbrev maxPayload : Nat := 1024
/-- Frames the inbound queue holds (11 R183). -/
abbrev inboundCapacity : Nat := 8
/-- Reply slots (11 R183). -/
abbrev replySlots : Nat := 24
/-- Report slots (11 R186). -/
abbrev reportSlots : Nat := 32
/-- Findings the findings list holds (02 R32). -/
abbrev findingCapacity : Nat := 16
/-- Entries an outstanding list holds (09 R150). -/
abbrev outstandingCapacity : Nat := 4
/-- Symbols a search text holds (09 R158). -/
abbrev textCapacity : Nat := 16
/-- Segment indices the sweep list holds (06 R110). -/
abbrev sweepCapacity : Nat := 8
/-- Entries of the route cache (06 R100). -/
abbrev cacheEntries : Nat := 512
/-- Steps a route record holds at most (05 R88). -/
abbrev maxSteps : Nat := 48
/-- Segments of a route that may be cached (04 R68). -/
abbrev maxCachedSegments : Nat := 128

/-- The mark "unreached" of a working cost (03 R51). -/
abbrev unreached : Nat := 16777215
/-- The greatest path cost (03 R51). -/
abbrev maxPathCost : Nat := 16777214

/-- Milliseconds of the receive gap, which must be exceeded (11 R182). -/
abbrev gapMs : Nat := 2
/-- Milliseconds of the frame timer (10 R166). -/
abbrev frameTimerMs : Nat := 250

end Sys2Proof.Config
end

