-- ==== Sys2Proof/Machine/State.lean ====
section
/-! DEFINITION. The state of the LK-4416 as plain data, block by block, and its value after reset. -/

namespace Sys2Proof.Machine

/-! ## Names shared by the blocks -/

/-- Result codes of replies (11 R185). -/
inductive ResultCode where
  | ok | partialDone | discarded | wrongMode | busy | badArgument | notFound | noRoute
  | noStableRoute | cancelled | aborted | badFilter | unknownClass | checkFailed
  deriving DecidableEq, Repr

/-- Device modes (02 R21). -/
inductive Mode where
  | loading | checking | service | frozen
  deriving DecidableEq, Repr

/-- Segment kinds in code order (01 R3). -/
inductive SegKind where
  | walk | escalator | stairs | lift | ramp | travelator | door | outdoor
  deriving DecidableEq, Repr

/-- A waypoint record (01 R2). The level is held as its code, the level plus 4; the landmark as its
10-bit number, 3FFh for none. -/
structure Waypoint where
  levelCode : BitVec 4
  landmark : BitVec 10
  deriving DecidableEq, Repr

/-- The reset value of a waypoint record: level 0, no landmark (01 R2). -/
def Waypoint.reset : Waypoint := { levelCode := 4#4, landmark := 0x3FF#10 }

/-- A segment record (01 R3). `closed` is the status: false OPEN, true CLOSED. -/
structure Segment where
  src : BitVec 12
  dst : BitVec 12
  kind : SegKind
  length : BitVec 13
  heading : BitVec 8
  delta : BitVec 5
  ride : BitVec 5
  closed : Bool
  deriving DecidableEq, Repr

/-- The reset value of a segment record (01 R4). -/
def Segment.reset : Segment :=
  { src := 0, dst := 0, kind := .walk, length := 1, heading := 0, delta := 0, ride := 0, closed := false }

/-- Listing statuses (07 section 7.5). -/
inductive ListingStatus where
  | opened | closed | hidden
  deriving DecidableEq, Repr

/-- A listing record (08 R129). -/
structure Listing where
  tenant : BitVec 32
  key : Vector Byte 16
  category : BitVec 6
  status : ListingStatus
  levelCode : BitVec 4
  entranceCount : BitVec 3
  attributes : BitVec 16
  entrances : Vector (BitVec 12) 4
  deriving DecidableEq, Repr

/-- The reset value of a listing record (08 R129). -/
def Listing.reset : Listing :=
  { tenant := 0, key := .replicate 16 0, category := 0, status := .opened, levelCode := 4#4
    entranceCount := 0, attributes := 0, entrances := .replicate 4 0 }

/-- A travel profile (03 R40). -/
structure Profile where
  weights : Vector Byte 8
  penalty : BitVec 16
  speed : Byte
  liftWait : Byte
  deriving DecidableEq, Repr

/-- The standard values of a profile (03 R41). -/
def Profile.standard : Profile :=
  { weights := #v[16, 20, 24, 32, 16, 14, 16, 20], penalty := 400, speed := 13, liftWait := 30 }

/-- The loadable tables (01 R9). -/
inductive TableId where
  | waypoints | segments | listings | profiles
  | curve (panel : Fin 4)
  | baseline (panel : Fin 4)
  deriving DecidableEq, Repr

/-- The open load cursor: a table and an index in it (01 R11). -/
structure Cursor where
  table : TableId
  index : Nat
  deriving DecidableEq, Repr

/-- Destination kinds (04 R54). -/
inductive DestKind where
  | listing | waypoint
  deriving DecidableEq, Repr

/-- A search key (04 R54). -/
structure Key where
  origin : BitVec 12
  kind : DestKind
  number : BitVec 16
  profile : Fin 8
  deriving DecidableEq, Repr

/-- The key of zeros that an IDLE unit holds (04 R57). -/
def Key.zero : Key := { origin := 0, kind := .listing, number := 0, profile := 0 }

/-- A reference to an outstanding entry: its screen and the identifier the entry took when it joined. -/
structure Ref where
  screen : Fin 4
  id : Nat
  deriving DecidableEq, Repr

/-- A non-empty directory filter term as its slot carries it (08 R134, 11 R191). -/
structure Term where
  field : Byte
  condition : Byte
  operand : BitVec 16
  deriving DecidableEq, Repr

/-- Four term slots, each empty or a term (08 section 8.5). -/
abbrev Terms := Vector (Option Term) 4

/-- Four empty slots. -/
abbrev Terms.empty : Terms := .replicate 4 none

/-! ## MOD -/

/-- Finding kinds of the map check in code order, 1..9 (02 section 2.5). -/
inductive FindingKind where
  | emptyMap | segmentEndpoint | segmentOrder | levelMismatch | kindLevel
  | entranceInvalid | keySymbol | keyOrder | originInvalid
  deriving DecidableEq, Repr

/-- A finding: its kind and the index it carries (02 R32). -/
structure Finding where
  kind : FindingKind
  index : Nat
  deriving DecidableEq, Repr

/-- A MAP_COMMIT whose reply waits for the map check: its tag and the label held aside (02 R27). -/
structure Commit where
  tag : Byte
  label : BitVec 64
  deriving DecidableEq, Repr

/-- Mode control (02 R21). -/
structure ModState where
  mode : Mode
  /-- The map label, its first byte the least significant. -/
  label : BitVec 64
  findings : List Finding
  findingCount : Nat
  commit : Option Commit
  /-- The tag of a MODE_SET FROZEN whose reply waits for the settle steps in hand (02 R24). -/
  freezing : Option Byte
  /-- A RESET FULL has been served; the dispatcher takes no further request (02 R38). -/
  resetAsked : Bool
  deriving DecidableEq, Repr

/-! ## LNK -/

/-- A complete inbound frame (11 R181). -/
structure InFrame where
  cls : Byte
  tag : Byte
  payload : List Byte
  deriving DecidableEq, Repr

/-- The receive hunter (11 R182): HEADER holds the bytes after SYNC, BODY those after TAG. -/
inductive Hunter where
  | hunting
  | header (got : List Byte)
  | body (length : Nat) (cls tag : Byte) (got : List Byte)
  deriving DecidableEq, Repr

/-- A reply or report in its queue (11 R186). `release` is a released result's screen and its place in that
screen's release order; `resets` marks the reply to a RESET FULL (02 R38). -/
structure OutItem where
  cls : Byte
  tag : Byte
  payload : List Byte
  release : Option (Fin 4 × Nat)
  resets : Bool
  deriving DecidableEq, Repr

/-- The two outbound queues (11 R187). -/
inductive OutQueue where
  | replies | reports
  deriving DecidableEq, Repr

/-- The frame being sent on TXD (11 R187), with CHECK. -/
structure Sending where
  queue : OutQueue
  bytes : List Byte
  resets : Bool
  deriving DecidableEq, Repr

/-- Report mask kinds in code order, 0..5 (11 R188). -/
inductive MaskKind where
  | contact | selection | route | matchList | session | panel
  deriving DecidableEq, Repr

/-- The message link (11). Bit k of `mask` and of `suppressed` belongs to mask kind k. -/
structure LinkState where
  rate : BitVec 2
  hunter : Hunter
  /-- Milliseconds since the last byte of the frame in hand (11 R182). -/
  gap : Nat
  inbound : List InFrame
  /-- Reply slots reserved or occupied (11 R183). -/
  slotsUsed : Nat
  replies : List OutItem
  reports : List OutItem
  /-- Report slots reserved by panel-originated requests (09 R156). -/
  reserved : Nat
  sending : Option Sending
  lastUsed : OutQueue
  mask : BitVec 6
  suppressed : BitVec 6
  overrun : Bool
  deriving DecidableEq, Repr

/-! ## MAP -/

/-- The map store (01). The two counted tables are held as lists of exactly count records; a record at or
beyond the count reads as its reset value (01 R6, assumption 14). -/
structure MapState where
  waypoints : List Waypoint
  segments : List Segment
  closedCount : Nat
  startIndex : Option (List Nat)
  cursor : Option Cursor
  generation : BitVec 16
  deriving DecidableEq, Repr

/-! ## RSU0, RSU1 and the search queue -/

/-- An entry of the search queue (04 R54). `unit` is none in WAITING and the holding unit in RUNNING. -/
structure SearchEntry where
  key : Key
  requesters : List Ref
  unit : Option (Fin 2)
  deriving DecidableEq, Repr

/-- Unit states in code order (04 section 4.3). -/
inductive UnitState where
  | idle | running | held | handoff
  deriving DecidableEq, Repr

/-- The final result of a search (04 R69). The captured generation stays in the unit until it is taken. -/
structure SearchResult where
  code : ResultCode
  path : List Nat
  entrance : BitVec 12
  detour : Bool
  cacheable : Bool
  deriving DecidableEq, Repr

/-- A route search unit (04 R57). `captured` is none for VOID. -/
structure SearchUnit where
  state : UnitState
  key : Key
  cost : Vector Nat 4096
  pred : Vector (Option Nat) 4096
  settled : Vector Bool 4096
  frontier : List (Nat × BitVec 12)
  targets : List (BitVec 12)
  settledCount : Nat
  restarts : Nat
  detour : Bool
  captured : Option (BitVec 16)
  result : Option SearchResult
  deriving DecidableEq, Repr

/-- The values of an IDLE unit (04 R57). -/
def SearchUnit.idle : SearchUnit :=
  { state := .idle, key := .zero, cost := .replicate 4096 Config.unreached, pred := .replicate 4096 none
    settled := .replicate 4096 false, frontier := [], targets := [], settledCount := 0, restarts := 0
    detour := false, captured := none, result := none }

/-- The shared queue and the two units (04). -/
structure SearchState where
  queue : List SearchEntry
  units : Vector SearchUnit 2
  deriving DecidableEq, Repr

/-! ## RCO -/

/-- Step actions in code order (11 R191). -/
inductive StepAction where
  | departTurn | walk | takeEscalator | takeStairs | takeLift | takeRamp | takeTravelator
  | passDoor | goOutside | continueOn | arrive
  deriving DecidableEq, Repr

/-- Turn classes in code order (05 R84). -/
inductive TurnClass where
  | none | straight | slightRight | right | sharpRight | uTurn | sharpLeft | left | slightLeft
  deriving DecidableEq, Repr

/-- A step of a route (05 R83). -/
structure RouteStep where
  action : StepAction
  turn : TurnClass
  length : Nat
  levelCode : BitVec 4
  endWaypoint : BitVec 12
  landmark : BitVec 10
  deriving DecidableEq, Repr

/-- A composed route (05 R94). -/
structure ComposedRoute where
  key : Key
  entrance : BitVec 12
  detour : Bool
  heading : BitVec 8
  steps : List RouteStep
  truncated : Bool
  distance : Nat
  time : Nat
  levelChanges : Nat
  deriving DecidableEq, Repr

/-- The composer's job in hand (05 R80). `route` is none until composition has ended. -/
structure Job where
  key : Key
  requesters : List Ref
  path : List Nat
  entrance : BitVec 12
  detour : Bool
  cacheable : Bool
  captured : Option (BitVec 16)
  route : Option ComposedRoute
  deriving DecidableEq, Repr

/-- The route composer (05 R80). -/
structure ComposerState where
  queue : List (Fin 2)
  job : Option Job
  deriving DecidableEq, Repr

/-! ## RCC -/

/-- A cache entry (06 R100). `alternate` is true where the entry stands in its key's secondary group. -/
structure CacheEntry where
  valid : Bool
  alternate : Bool
  referenced : Bool
  generation : BitVec 16
  route : ComposedRoute
  segments : List Nat
  deriving DecidableEq, Repr

/-- What a cache entry holds of a route after reset: a key of zeros and empty lists (06 R100). DESIGN CHOICE: the spec gives
the other fields, which nothing reads while the entry is invalid, no reset value, and the model takes 0 and clear
(assumption 31). -/
def ComposedRoute.blank : ComposedRoute :=
  { key := .zero, entrance := 0, detour := false, heading := 0, steps := [], truncated := false
    distance := 0, time := 0, levelChanges := 0 }

/-- A cache entry after reset (06 R100, assumption 31). -/
def CacheEntry.reset : CacheEntry :=
  { valid := false, alternate := false, referenced := false, generation := 0, route := .blank, segments := [] }

/-- The route cache (06). -/
structure CacheState where
  entries : Vector CacheEntry 512
  hands : Vector (Fin 8) 64
  sweep : List Nat
  /-- The scan position while a scan is in hand (06 R111). -/
  scan : Option (Fin 512)
  deriving DecidableEq, Repr

/-! ## DIR -/

/-- A directory query (08 R131). -/
structure Query where
  ref : Ref
  pfx : List Byte
  terms : Terms
  offset : BitVec 16
  maximum : Nat
  deriving DecidableEq, Repr

/-- A match record (11 R191). -/
structure MatchRecord where
  index : Nat
  tenant : BitVec 32
  key : Vector Byte 16
  levelCode : BitVec 4
  category : BitVec 6
  status : ListingStatus
  deriving DecidableEq, Repr

/-- The scan in hand (08 R131): `position` runs from the first index of the prefix range up to `stop`.
`detached` says that its requester has left (08 R143). -/
structure Scan where
  query : Query
  position : Nat
  stop : Nat
  total : Nat
  kept : List MatchRecord
  nextSymbols : BitVec 40
  detached : Bool
  deriving DecidableEq, Repr

/-- The directory (08 R131). The listing table is held as a list of exactly count records. -/
structure DirState where
  listings : List Listing
  queue : List Query
  scan : Option Scan
  deriving DecidableEq, Repr

/-! ## SES -/

/-- The route record a requester receives (11 R191), apart from its result, which is OK. -/
structure RouteRecord where
  fromCache : Bool
  detour : Bool
  destinationClosed : Bool
  truncated : Bool
  explicitOrigin : Bool
  key : Key
  entrance : BitVec 12
  distance : Nat
  metres : Nat
  seconds : Nat
  minutes : Nat
  levelChanges : Nat
  steps : List RouteStep
  deriving DecidableEq, Repr

/-- The content of a completed directory scan (08 R141). -/
structure MatchList where
  total : Nat
  offset : BitVec 16
  nextSymbols : BitVec 40
  records : List MatchRecord
  deriving DecidableEq, Repr

/-- What a DONE entry holds (09 R150): a bare result code, a route or a list of matches, both with OK. -/
inductive EntryResult where
  | bare (code : ResultCode)
  | route (record : RouteRecord)
  | matched (content : MatchList)
  deriving DecidableEq, Repr

/-- Who asked: the host, with its tag, or the panel, with the sequence number it was given (09 R150). -/
inductive Asker where
  | host (tag : Byte)
  | panel (seq : Byte)
  deriving DecidableEq, Repr

/-- What was asked (09 R150). -/
inductive Ask where
  | route (key : Key) (explicitOrigin : Bool)
  | directory (offset : BitVec 16)
  | fence (token : BitVec 32)
  deriving DecidableEq, Repr

/-- An entry of an outstanding list (09 R150). `result` is none while the entry is not DONE. -/
structure Entry where
  id : Nat
  asker : Asker
  ask : Ask
  result : Option EntryResult
  deriving DecidableEq, Repr

/-- A screen context (09 R146). -/
structure Screen where
  enabled : Bool
  origin : BitVec 12
  heading : BitVec 8
  profile : Fin 8
  width : Nat
  height : Nat
  /-- The idle timeout in seconds. -/
  timeout : Nat
  /-- The session is ACTIVE. -/
  active : Bool
  /-- The idle timer in milliseconds, none while stopped. -/
  idle : Option Nat
  text : List Byte
  terms : Terms
  outstanding : List Entry
  seq : Byte
  /-- Results of this screen released so far: the next place of its release order (11 R186). -/
  released : Nat
  /-- The identifier the next entry takes (the model's own). -/
  nextId : Nat
  deriving DecidableEq, Repr

/-- A screen context after reset (09 R146). -/
def Screen.reset : Screen :=
  { enabled := false, origin := 0, heading := 0, profile := 0, width := 1080, height := 1920, timeout := 60
    active := false, idle := none, text := [], terms := .empty, outstanding := [], seq := 0, released := 0
    nextId := 0 }

/-! ## TPF -/

/-- Hotspot actions with their parameters as given (10 R175). -/
inductive Action where
  | plain
  | listing (number : BitVec 16)
  | waypoint (number : BitVec 16)
  | key (symbol : Byte)
  | backspace
  | clearText
  | filter (slot : Byte) (term : Option Term)
  | unfilter (slot : Byte)
  | cancel
  deriving DecidableEq, Repr

/-- A hotspot: its rectangle and its action (10 R175). -/
structure Hotspot where
  x0 : BitVec 16
  y0 : BitVec 16
  x1 : BitVec 16
  y1 : BitVec 16
  action : Action
  deriving DecidableEq, Repr

/-- Panel states in code order (10 section 10.1). -/
inductive PanelMode where
  | off | waiting | running | capturing | fault
  deriving DecidableEq, Repr

/-- Frame sources of a panel (10 R164). -/
inductive Source where
  | sensor | injected
  deriving DecidableEq, Repr

/-- The configuration of a panel (10 R164). -/
structure PanelConfig where
  enabled : Bool
  source : Source
  low : Byte
  high : Byte
  nLo : Nat
  nHi : Nat
  move : BitVec 16
  deriving DecidableEq, Repr

/-- The configuration after reset (10 R164). -/
def PanelConfig.reset : PanelConfig :=
  { enabled := false, source := .sensor, low := 32, high := 64, nLo := 2, nHi := 1, move := 8 }

/-- Track states (10 R171). -/
inductive TrackState where
  | free | pending | down | suppressed
  deriving DecidableEq, Repr

/-- A track (10 R171). Cells are (column, row), positions (x, y) in pixels. -/
structure Track where
  state : TrackState
  cell : Nat × Nat
  position : Nat × Nat
  reported : Nat × Nat
  lowCount : Nat
  highCount : Nat
  missing : Nat
  hotspot : Option Nat
  page : Byte
  primary : Bool
  deriving DecidableEq, Repr

/-- A FREE track: its counts are 0, its hotspot none and its primary flag clear (10 R171). DESIGN CHOICE: of the values that
it does not hold, the cell, both positions and the down page are 0 here (assumption 35). -/
def Track.free : Track :=
  { state := .free, cell := (0, 0), position := (0, 0), reported := (0, 0), lowCount := 0, highCount := 0
    missing := 0, hotspot := none, page := 0, primary := false }

/-- A good frame; `inject` is the tag of the PANEL_INJECT that waits on it (10 R165, R167). -/
structure PanelFrame where
  samples : Vector Sample 960
  inject : Option Byte
  deriving DecidableEq, Repr

/-- What the frame in processing is for: detection, an accumulation of the capture in hand, or nothing,
after its panel has left the state it was taken in (assumption 9). -/
inductive FrameRole where
  | detect | capture | stale
  deriving DecidableEq, Repr

/-- The frame in processing with everything fixed at its start (10 R165). -/
structure Processing where
  frame : PanelFrame
  role : FrameRole
  config : PanelConfig
  curve : Vector Byte 256
  baseline : Vector Sample 960
  page : List Hotspot
  pageNumber : Byte
  width : Nat
  height : Nat
  /-- The baseline has been written or cleared since the start, so drift adjusts nothing and its count returns to 0
  (10 R178). -/
  driftCancelled : Bool
  deriving DecidableEq, Repr

/-- A baseline capture in hand (10 R179). -/
structure Capture where
  tag : Byte
  sums : Vector Nat 960
  count : Nat
  deriving DecidableEq, Repr

/-- A panel (10 section 10.1). -/
structure Panel where
  config : PanelConfig
  state : PanelMode
  curve : Vector Byte 256
  baseline : Vector Sample 960
  page : List Hotspot
  pageNumber : Byte
  tracks : Vector Track 5
  /-- The frame timer in milliseconds, none while stopped. -/
  timer : Option Nat
  buffer : Option PanelFrame
  processing : Option Processing
  drift : Nat
  capture : Option Capture
  badFrame : Bool
  overContact : Bool
  deriving DecidableEq, Repr

/-- The reset value of a strength curve: the identity (01 R9). -/
def identityCurve : Vector Byte 256 := .ofFn fun i => BitVec.ofNat 8 i.val

/-- A panel after reset (10 R180). -/
def Panel.reset : Panel :=
  { config := .reset, state := .off, curve := identityCurve, baseline := .replicate 960 0, page := []
    pageNumber := 0, tracks := .replicate 5 .free, timer := none, buffer := none, processing := none
    drift := 0, capture := none, badFrame := false, overContact := false }

/-! ## The part -/

/-- The whole part, and the queue of commands that wait. -/
structure State where
  /-- RESET_N is low. -/
  resetLow : Bool
  link : LinkState
  mod : ModState
  map : MapState
  profiles : Vector Profile 8
  search : SearchState
  rco : ComposerState
  rcc : CacheState
  dir : DirState
  screens : Vector Screen 4
  panels : Vector Panel 4
  pending : List Instr
  deriving DecidableEq, Repr

/-- Why a step stops the machine: no reason at all. The spec names no event that stops the part: every refusal
it describes is a reply, after which the part goes on (11 R185), so this closed type of reasons is empty. -/
inductive Fault where
  deriving DecidableEq, Repr

/-- Why a command is refused. Raised by no meaning. -/
inductive Refusal where
  /-- A command whose meaning has not been written; raised by exec's arm for it, by none now. Safe. -/
  | notModelled (mnemonic : String)
  deriving DecidableEq, Repr

/-- The payload of a STARTED report: part code 4416, revision 1 and the reset cause (02 R37, 11 R188). -/
def startedPayload (cause : Byte) : List Byte :=
  [BitVec.ofNat 8 Config.partCode, BitVec.ofNat 8 (Config.partCode / 256), BitVec.ofNat 8 Config.revision, cause]

/-- The STARTED report (11 R188). -/
def startedReport (cause : Byte) : OutItem :=
  { cls := 0x40, tag := 0, payload := startedPayload cause, release := none, resets := false }

/-- The reset values of LNK (11 R190), with the link bit rate given. -/
def LinkState.reset (rate : BitVec 2) : LinkState :=
  { rate := rate, hunter := .hunting, gap := 0, inbound := [], slotsUsed := 0, replies := [], reports := []
    reserved := 0, sending := none, lastUsed := .reports, mask := 0, suppressed := 0, overrun := false }

/-- The part while RESET_N is low: every block at its reset values (02 R37). -/
def State.heldReset (rate : BitVec 2) : State :=
  { resetLow := true
    link := .reset rate
    mod := { mode := .loading, label := 0, findings := [], findingCount := 0, commit := none, freezing := none
             resetAsked := false }
    map := { waypoints := [], segments := [], closedCount := 0, startIndex := none, cursor := none
             generation := 0 }
    profiles := .replicate 8 .standard
    search := { queue := [], units := .replicate 2 .idle }
    rco := { queue := [], job := none }
    rcc := { entries := .replicate 512 .reset, hands := .replicate 64 0, sweep := [], scan := none }
    dir := { listings := [], queue := [], scan := none }
    screens := .replicate 4 .reset
    panels := .replicate 4 .reset
    pending := [] }

/-- The part right after a reset: every block at its reset values, the part in LOADING, and a STARTED report
with the cause given as the one queued message (02 R37). -/
def State.started (rate : BitVec 2) (cause : Byte) : State :=
  { State.heldReset rate with
    resetLow := false
    link := { LinkState.reset rate with reports := [startedReport cause] } }

/-- The machine right after reset: RESET_N has just risen with both straps low (assumption 4). -/
def State.reset : State := State.started 0 0

end Sys2Proof.Machine
end

