-- ==== Sys2Proof/Machine/Flags.lean ====
section
/-! DEFINITION. The codes and the flags bytes that messages carry. -/

namespace Sys2Proof.Machine

/-- A flags byte from its bits, bit 0 first (11 R188: bits that carry no flag are 0). -/
def flagsByte (bits : List Bool) : Byte :=
  BitVec.ofNat 8 (bits.foldr (fun b n => 2 * n + b.toNat) 0)

/-- Result codes (11 R185). -/
def ResultCode.code : ResultCode → Byte
  | .ok => 0 | .partialDone => 1 | .discarded => 2 | .wrongMode => 3 | .busy => 4 | .badArgument => 5
  | .notFound => 6 | .noRoute => 7 | .noStableRoute => 8 | .cancelled => 9 | .aborted => 10
  | .badFilter => 11 | .unknownClass => 12 | .checkFailed => 13

/-- Mode codes (02 R21). -/
def Mode.code : Mode → Byte
  | .loading => 0 | .checking => 1 | .service => 2 | .frozen => 3

/-- Segment kind codes (01 R3). -/
def SegKind.code : SegKind → Fin 8
  | .walk => 0 | .escalator => 1 | .stairs => 2 | .lift => 3 | .ramp => 4 | .travelator => 5 | .door => 6
  | .outdoor => 7

/-- The segment kind of a 3-bit code (01 R3). -/
def SegKind.ofCode (n : Nat) : SegKind :=
  match n % 8 with
  | 0 => .walk | 1 => .escalator | 2 => .stairs | 3 => .lift | 4 => .ramp | 5 => .travelator | 6 => .door
  | _ => .outdoor

/-- Listing status codes (07 section 7.5). -/
def ListingStatus.code : ListingStatus → Nat
  | .opened => 0 | .closed => 1 | .hidden => 2

/-- The stored status of a 2-bit code; 3 is stored as HIDDEN (08 R129). -/
def ListingStatus.ofCode (n : Nat) : ListingStatus :=
  match n with
  | 0 => .opened | 1 => .closed | _ => .hidden

/-- Destination kind codes (04 R54). -/
def DestKind.code : DestKind → Byte
  | .listing => 0 | .waypoint => 1

/-- Finding kind codes (02 section 2.5). -/
def FindingKind.code : FindingKind → Byte
  | .emptyMap => 1 | .segmentEndpoint => 2 | .segmentOrder => 3 | .levelMismatch => 4 | .kindLevel => 5
  | .entranceInvalid => 6 | .keySymbol => 7 | .keyOrder => 8 | .originInvalid => 9

/-- Unit state codes (04 section 4.3). -/
def UnitState.code : UnitState → Byte
  | .idle => 0 | .running => 1 | .held => 2 | .handoff => 3

/-- Step action codes (11 R191). -/
def StepAction.code : StepAction → Byte
  | .departTurn => 0 | .walk => 1 | .takeEscalator => 2 | .takeStairs => 3 | .takeLift => 4 | .takeRamp => 5
  | .takeTravelator => 6 | .passDoor => 7 | .goOutside => 8 | .continueOn => 9 | .arrive => 10

/-- Turn class codes (05 R84). -/
def TurnClass.code : TurnClass → Byte
  | .none => 0 | .straight => 1 | .slightRight => 2 | .right => 3 | .sharpRight => 4 | .uTurn => 5
  | .sharpLeft => 6 | .left => 7 | .slightLeft => 8

/-- Panel state codes (10 section 10.1). -/
def PanelMode.code : PanelMode → Byte
  | .off => 0 | .waiting => 1 | .running => 2 | .capturing => 3 | .fault => 4

/-- Action codes of hotspots (10 R175). -/
def Action.code : Action → Byte
  | .plain => 0 | .listing _ => 1 | .waypoint _ => 2 | .key _ => 3 | .backspace => 4 | .clearText => 5
  | .filter _ _ => 6 | .unfilter _ => 7 | .cancel => 8

/-- Mask kind codes (11 R188). -/
def MaskKind.code : MaskKind → Nat
  | .contact => 0 | .selection => 1 | .route => 2 | .matchList => 3 | .session => 4 | .panel => 5

/-- The mask kinds in code order (11 R188). -/
def MaskKind.all : List MaskKind := [.contact, .selection, .route, .matchList, .session, .panel]

/-- The link flags byte of STATE_GET: bit 0 OVERRUN (02 R36). -/
def linkFlags (l : LinkState) : Byte := flagsByte [l.overrun]

/-- The panel flags byte of STATE_GET: bit 2p BAD_FRAME and bit 2p + 1 OVER_CONTACT of panel p (02 R36). -/
def panelFlags (ps : Vector Panel 4) : Byte :=
  flagsByte (ps.toList.flatMap fun p => [p.badFrame, p.overContact])

/-- The flags byte of a route record (11 R191). -/
def RouteRecord.flags (r : RouteRecord) : Byte :=
  flagsByte [r.fromCache, r.detour, r.destinationClosed, r.truncated, r.explicitOrigin]

/-- The flags byte with NO_CHANGE in bit 0 (07 R123, R124). -/
def noChangeFlags (noChange : Bool) : Byte := flagsByte [noChange]

/-- The flags byte of a SELECTION report (11 R188). -/
def selectionFlags (droppedBusy textFull : Bool) : Byte := flagsByte [droppedBusy, textFull]

end Sys2Proof.Machine
end

