-- ==== Sys2Proof/Machine/Operands.lean ====
section
/-! DEFINITION. The byte layouts: little-endian fields, the records of the loadable tables, the entries and records
that requests, replies and reports carry (11 R191), and the check of a frame (11 R181). -/

namespace Sys2Proof.Machine

/-! ## Little-endian fields (00 section 4.2) -/

/-- The `k` bytes of `n`, the least significant first. -/
def le : Nat → Nat → List Byte
  | 0, _ => []
  | k + 1, n => BitVec.ofNat 8 n :: le k (n / 256)

/-- The number that bytes carry, the least significant first. -/
def ofLe : List Byte → Nat
  | [] => 0
  | b :: bs => b.toNat + 256 * ofLe bs

/-- The field of `n` bytes at offset `off` of a payload or record. -/
def field (p : List Byte) (off n : Nat) : Nat := ofLe ((p.drop off).take n)

/-- The byte at an offset. -/
def byteAt (p : List Byte) (off : Nat) : Byte := p.getD off 0

/-- A payload cut into pieces of `size` bytes; the fuel is the number of pieces wanted. -/
def pieces (size : Nat) : Nat → List Byte → List (List Byte)
  | 0, _ => []
  | n + 1, p => p.take size :: pieces size n (p.drop size)

/-! ## Frames (11 R181) -/

/-- One bit of the CRC register, generator 1021h. -/
def crcBit (c : BitVec 16) : BitVec 16 :=
  if c.msb then (c <<< 1) ^^^ 0x1021 else c <<< 1

/-- The CRC register after one more byte, most significant bit first. -/
def crcByte (c : BitVec 16) (b : Byte) : BitVec 16 :=
  crcBit (crcBit (crcBit (crcBit (crcBit (crcBit (crcBit (crcBit (c ^^^ (b.setWidth 16 <<< 8)))))))))

/-- CRC-16 with the register starting at FFFFh, not reflected and not inverted (11 R181). -/
def crc (bytes : List Byte) : BitVec 16 := bytes.foldl crcByte 0xFFFF

/-- The bytes CHECK covers: LENGTH, CLASS, TAG and PAYLOAD (11 R181). -/
def checkedBytes (length : Nat) (cls tag : Byte) (payload : List Byte) : List Byte :=
  le 2 length ++ [cls, tag] ++ payload

/-- All bytes of a frame with the CHECK given (11 R181). -/
def rawFrame (cls tag : Byte) (payload : List Byte) (check : BitVec 16) : List Byte :=
  0x5A#8 :: (checkedBytes payload.length cls tag payload ++ le 2 check.toNat)

/-- The CHECK of a frame (11 R181). -/
def frameCheck (cls tag : Byte) (payload : List Byte) : BitVec 16 :=
  crc (checkedBytes payload.length cls tag payload)

/-- The bytes the part sends for a reply or report (11 R181). -/
def OutItem.bytes (i : OutItem) : List Byte := rawFrame i.cls i.tag i.payload (frameCheck i.cls i.tag i.payload)

/-! ## Waypoint records (01 R2, 11 R191) -/

/-- A stored waypoint from its 2-byte record. -/
def Waypoint.ofBytes (r : List Byte) : Waypoint :=
  { levelCode := BitVec.ofNat 4 (field r 0 2), landmark := BitVec.ofNat 10 (field r 0 2 / 16) }

/-- The 2-byte record of a stored waypoint; unused bits are 0. -/
def Waypoint.toBytes (w : Waypoint) : List Byte := le 2 (w.levelCode.toNat + 16 * w.landmark.toNat)

/-- The level of a waypoint, −4..11 (01 R2). -/
def Waypoint.level (w : Waypoint) : Int := (w.levelCode.toNat : Int) - 4

/-! ## Segment records (01 R3, R4, 11 R191) -/

/-- A length of 0 is stored as 1 (01 R4). -/
def storedLength (l : BitVec 13) : BitVec 13 := if l = 0 then 1 else l

/-- A level delta of −16 is stored as −15 (01 R4). -/
def storedDelta (d : BitVec 5) : BitVec 5 := if d = 0b10000 then 0b10001 else d

/-- A stored segment from its 8-byte record. -/
def Segment.ofBytes (r : List Byte) : Segment :=
  let w := field r 0 8
  { src := BitVec.ofNat 12 w
    dst := BitVec.ofNat 12 (w / 2 ^ 12)
    kind := SegKind.ofCode (w / 2 ^ 24)
    length := storedLength (BitVec.ofNat 13 (w / 2 ^ 27))
    heading := BitVec.ofNat 8 (w / 2 ^ 40)
    delta := storedDelta (BitVec.ofNat 5 (w / 2 ^ 48))
    ride := BitVec.ofNat 5 (w / 2 ^ 53)
    closed := (w / 2 ^ 58) % 2 == 1 }

/-- The 8-byte record of a stored segment; unused bits are 0. -/
def Segment.toBytes (g : Segment) : List Byte :=
  le 8 (g.src.toNat + 2 ^ 12 * g.dst.toNat + 2 ^ 24 * g.kind.code.val + 2 ^ 27 * g.length.toNat
    + 2 ^ 40 * g.heading.toNat + 2 ^ 48 * g.delta.toNat + 2 ^ 53 * g.ride.toNat + 2 ^ 58 * g.closed.toNat)

/-! ## Listing records (08 R129, 11 R191) -/

/-- A stored listing from its 32-byte record. -/
def Listing.ofBytes (r : List Byte) : Listing :=
  { tenant := BitVec.ofNat 32 (field r 0 4)
    key := .ofFn fun i => byteAt r (4 + i.val)
    category := BitVec.ofNat 6 (field r 20 1)
    status := .ofCode (field r 20 1 / 64)
    levelCode := BitVec.ofNat 4 (field r 21 1)
    entranceCount := BitVec.ofNat 3 (field r 21 1 / 16)
    attributes := BitVec.ofNat 16 (field r 22 2)
    entrances := .ofFn fun i => BitVec.ofNat 12 (field r (24 + 2 * i.val) 2) }

/-- The 32-byte record of a stored listing; unused bits are 0. -/
def Listing.toBytes (l : Listing) : List Byte :=
  le 4 l.tenant.toNat ++ l.key.toList ++ le 1 (l.category.toNat + 64 * l.status.code)
    ++ le 1 (l.levelCode.toNat + 16 * l.entranceCount.toNat) ++ le 2 l.attributes.toNat
    ++ l.entrances.toList.flatMap fun e => le 2 e.toNat

/-- The level of a listing, −4..11 (08 R129). -/
def Listing.level (l : Listing) : Int := (l.levelCode.toNat : Int) - 4

/-- The entrances of a listing that are in use (08 R129). -/
def Listing.usedEntrances (l : Listing) : List (BitVec 12) := l.entrances.toList.take l.entranceCount.toNat

/-! ## Profile records (03 R40, 11 R191) -/

/-- The stored walking speed, clamped to 5..25 (03 R40). -/
def storedSpeed (v : Byte) : Byte := if v < 5 then 5 else if 25 < v then 25 else v

/-- A stored profile from its 12-byte record. -/
def Profile.ofBytes (r : List Byte) : Profile :=
  { weights := .ofFn fun i => byteAt r i.val
    penalty := BitVec.ofNat 16 (field r 8 2)
    speed := storedSpeed (byteAt r 10)
    liftWait := byteAt r 11 }

/-- The 12-byte record of a stored profile. -/
def Profile.toBytes (p : Profile) : List Byte :=
  p.weights.toList ++ le 2 p.penalty.toNat ++ [p.speed, p.liftWait]

/-! ## Curve and baseline records (01 R10) -/

/-- A stored baseline cell from its 2-byte record: a value above 4095 is stored as 4095 (01 R10). -/
def baselineOfBytes (r : List Byte) : Sample := BitVec.ofNat 12 (min (field r 0 2) 4095)

/-- The 2-byte record of a baseline cell. -/
def baselineToBytes (b : Sample) : List Byte := le 2 b.toNat

/-! ## Table codes (01 R9) -/

/-- The table of a table code, none above 11 (01 R9, R12). -/
def TableId.ofCode (n : Nat) : Option TableId :=
  if n = 0 then some .waypoints
  else if n = 1 then some .segments
  else if n = 2 then some .listings
  else if n = 3 then some .profiles
  else if n < 8 then some (.curve (Fin.ofNat 4 (n - 4)))
  else if n < 12 then some (.baseline (Fin.ofNat 4 (n - 8)))
  else none

/-- The code of a table (01 R9). -/
def TableId.code : TableId → Byte
  | .waypoints => 0 | .segments => 1 | .listings => 2 | .profiles => 3
  | .curve p => BitVec.ofNat 8 (4 + p.val)
  | .baseline p => BitVec.ofNat 8 (8 + p.val)

/-- The capacity of a table in records (01 R9). -/
def TableId.capacity : TableId → Nat
  | .waypoints => Config.waypointCapacity
  | .segments => Config.segmentCapacity
  | .listings => Config.listingCapacity
  | .profiles => Config.profileCapacity
  | .curve _ => Config.curveCapacity
  | .baseline _ => Config.cellCount

/-- The record size of a table in bytes (01 R9). -/
def TableId.recordSize : TableId → Nat
  | .waypoints => 2 | .segments => 8 | .listings => 32 | .profiles => 12 | .curve _ => 1 | .baseline _ => 2

/-- Whether a table is one of WAYPOINTS, SEGMENTS, LISTINGS and PROFILES, which are written in LOADING only
(01 R13, R16). -/
def TableId.inService : TableId → Bool
  | .waypoints | .segments | .listings | .profiles => true
  | .curve _ | .baseline _ => false

/-! ## Term slots and hotspot entries (11 R191) -/

/-- A term slot from its 4 bytes: a field code of 0 is an empty slot (08 R134). -/
def termOfBytes (r : List Byte) : Option Term :=
  if byteAt r 0 = 0 then none
  else some { field := byteAt r 0, condition := byteAt r 1, operand := BitVec.ofNat 16 (field r 2 2) }

/-- Four term slots from 16 bytes. -/
def termsOfBytes (r : List Byte) : Terms := .ofFn fun i => termOfBytes ((r.drop (4 * i.val)).take 4)

/-- A hotspot's action from its action code and its 5 bytes of parameters, none for a code above 8
(10 R175, 11 R191). -/
def actionOfBytes (code : Nat) (r : List Byte) : Option Action :=
  match code with
  | 0 => some .plain
  | 1 => some (.listing (BitVec.ofNat 16 (field r 0 2)))
  | 2 => some (.waypoint (BitVec.ofNat 16 (field r 0 2)))
  | 3 => some (.key (byteAt r 0))
  | 4 => some .backspace
  | 5 => some .clearText
  | 6 => some (.filter (byteAt r 0) (termOfBytes ((r.drop 1).take 4)))
  | 7 => some (.unfilter (byteAt r 0))
  | 8 => some .cancel
  | _ => none

/-- A hotspot from its 14-byte entry, none for an action code above 8 (10 R175, 11 R191). -/
def hotspotOfBytes (r : List Byte) : Option Hotspot :=
  (actionOfBytes (field r 8 1) (r.drop 9)).map fun a =>
    { x0 := BitVec.ofNat 16 (field r 0 2), y0 := BitVec.ofNat 16 (field r 2 2)
      x1 := BitVec.ofNat 16 (field r 4 2), y1 := BitVec.ofNat 16 (field r 6 2), action := a }

/-- All hotspots of a page, none if any entry is refused (10 R175). -/
def hotspotsOfBytes : List (List Byte) → Option (List Hotspot)
  | [] => some []
  | r :: rs =>
    match hotspotOfBytes r, hotspotsOfBytes rs with
    | some h, some hs => some (h :: hs)
    | _, _ => none

/-! ## What requests are answered with (11 R191) -/

/-- A match record, 25 bytes. -/
def MatchRecord.toBytes (m : MatchRecord) : List Byte :=
  le 2 m.index ++ le 4 m.tenant.toNat ++ m.key.toList
    ++ [BitVec.ofNat 8 m.levelCode.toNat, BitVec.ofNat 8 m.category.toNat, BitVec.ofNat 8 m.status.code]

/-- The content of a completed scan (08 R141). -/
def MatchList.toBytes (c : MatchList) : List Byte :=
  [ResultCode.ok.code] ++ le 2 c.total ++ le 2 c.offset.toNat ++ le 1 c.records.length
    ++ le 5 c.nextSymbols.toNat ++ c.records.flatMap MatchRecord.toBytes

/-- The head that a DIRECTORY entry with a result other than OK carries (08 R141). -/
def emptyMatchBytes (code : ResultCode) (offset : BitVec 16) : List Byte :=
  [code.code] ++ le 2 0 ++ le 2 offset.toNat ++ le 1 0 ++ le 5 0

/-- A step of a route record, 11 bytes. -/
def RouteStep.toBytes (t : RouteStep) : List Byte :=
  [t.action.code, t.turn.code] ++ le 4 t.length ++ [BitVec.ofNat 8 t.levelCode.toNat]
    ++ le 2 t.endWaypoint.toNat ++ le 2 t.landmark.toNat

/-- A route record: the 24-byte head and the steps. -/
def RouteRecord.toBytes (r : RouteRecord) : List Byte :=
  [ResultCode.ok.code, r.flags] ++ le 2 r.key.origin.toNat ++ [r.key.kind.code] ++ le 2 r.key.number.toNat
    ++ le 2 r.entrance.toNat ++ [BitVec.ofNat 8 r.key.profile.val] ++ le 4 r.distance ++ le 4 r.metres
    ++ le 2 r.seconds ++ le 2 r.minutes ++ le 1 r.levelChanges ++ le 1 r.steps.length
    ++ r.steps.flatMap RouteStep.toBytes

/-- The 24-byte route head of a result other than OK: result, origin, destination and profile, all else 0. -/
def routeHeadBytes (code : ResultCode) (k : Key) : List Byte :=
  [code.code, 0] ++ le 2 k.origin.toNat ++ [k.kind.code] ++ le 2 k.number.toNat ++ le 2 0
    ++ [BitVec.ofNat 8 k.profile.val] ++ le 4 0 ++ le 4 0 ++ le 2 0 ++ le 2 0 ++ le 1 0 ++ le 1 0

/-- The map label as its 8 bytes. -/
def labelBytes (l : BitVec 64) : List Byte := le 8 l.toNat

end Sys2Proof.Machine
end

