-- ==== Sys2Proof/Machine/Ops.lean ====
section
/-! DEFINITION. The operations that the blocks share: reading and changing one screen, panel or unit; queueing
replies and reports (11 R186, R189); completing, releasing and joining outstanding entries (09 R150, R151);
and the test that opens every meaning, that RESET_N is high (02 R37). -/

namespace Sys2Proof.Machine

/-! ## One place of a fixed number -/

/-- The state with the message link changed. -/
def State.onLink (s : State) (f : LinkState → LinkState) : State := { s with link := f s.link }

/-- The state with one screen context changed. -/
def State.onScreen (s : State) (i : Fin 4) (f : Screen → Screen) : State :=
  { s with screens := s.screens.set i.val (f s.screens[i.val]) }

/-- The state with one panel changed. -/
def State.onPanel (s : State) (i : Fin 4) (f : Panel → Panel) : State :=
  { s with panels := s.panels.set i.val (f s.panels[i.val]) }

/-- The state with one search unit changed. -/
def State.onUnit (s : State) (u : Fin 2) (f : SearchUnit → SearchUnit) : State :=
  { s with search := { s.search with units := s.search.units.set u.val (f s.search.units[u.val]) } }

/-- The four screens or panels in order. -/
def four : List (Fin 4) := [0, 1, 2, 3]

/-- A screen or panel number carried in a request, none above 3. -/
def fourOf (n : Nat) : Option (Fin 4) := if h : n < 4 then some ⟨n, h⟩ else none

/-- A unit or profile number, none outside the range. -/
def finOf (k n : Nat) : Option (Fin k) := if h : n < k then some ⟨n, h⟩ else none

/-! ## Counts and records of the tables -/

/-- The waypoint count (01 R6). -/
def State.waypointCount (s : State) : Nat := s.map.waypoints.length
/-- The segment count (01 R6). -/
def State.segmentCount (s : State) : Nat := s.map.segments.length
/-- The listing count (01 R6). -/
def State.listingCount (s : State) : Nat := s.dir.listings.length
/-- A waypoint record; at or beyond the count, its reset value (01 R6). -/
def State.waypoint (s : State) (w : Nat) : Waypoint := s.map.waypoints.getD w .reset
/-- A segment record; at or beyond the count, its reset value (01 R6). -/
def State.segment (s : State) (g : Nat) : Segment := s.map.segments.getD g .reset
/-- A listing record; at or beyond the count, its reset value (01 R6). -/
def State.listing (s : State) (n : Nat) : Listing := s.dir.listings.getD n .reset

/-- Whether the mode is SERVICE or FROZEN. -/
def Mode.serving : Mode → Bool
  | .service | .frozen => true
  | .loading | .checking => false

/-! ## Replies (11 R186) -/

/-- A reply's class: the request's plus 80h (11 R181). -/
def replyClass (cls : Byte) : Byte := cls + 0x80

/-- A reply item that belongs to no outstanding entry. -/
def plainReply (cls tag : Byte) (payload : List Byte) : OutItem :=
  { cls := replyClass cls, tag := tag, payload := payload, release := none, resets := false }

/-- Queue a reply in the slot its request reserved (11 R186). -/
def State.queueReply (s : State) (i : OutItem) : State :=
  s.onLink fun l => { l with replies := l.replies ++ [i] }

/-- Answer a request of a class and tag with a payload. -/
def State.reply (s : State) (cls tag : Byte) (payload : List Byte) : State :=
  s.queueReply (plainReply cls tag payload)

/-- Answer a request with the result byte alone (11 R185). -/
def State.refuse (s : State) (cls tag : Byte) (r : ResultCode) : State := s.reply cls tag [r.code]

/-! ## Reports and the mask (11 R186, R189) -/

/-- Report slots occupied: by queued reports and by a report being sent, whose slot is kept until its
transmission ends (11 R186). -/
def LinkState.reportsHeld (l : LinkState) : Nat :=
  l.reports.length + (match l.sending with | some t => if t.queue = .reports then 1 else 0 | none => 0)

/-- A report slot is free: neither occupied nor reserved (11 R186). -/
def LinkState.reportSlotFree (l : LinkState) : Bool :=
  decide (l.reportsHeld + l.reserved < Config.reportSlots)

/-- Whether a kind is masked (11 R189). -/
def LinkState.masked (l : LinkState) (k : MaskKind) : Bool := l.mask.getLsbD k.code

/-- The six flags with the flag of one kind set or cleared. -/
def setKind (m : BitVec 6) (k : MaskKind) (b : Bool) : BitVec 6 :=
  if b then m ||| (1#6 <<< k.code) else m &&& ~~~(1#6 <<< k.code)

/-- A report takes a free slot, or is dropped with OVERRUN set (11 R186). -/
def State.queueReport (s : State) (cls : Byte) (payload : List Byte) : State :=
  if s.link.reportSlotFree then
    s.onLink fun l =>
      { l with reports := l.reports ++ [{ cls := cls, tag := 0, payload := payload, release := none, resets := false }] }
  else s.onLink fun l => { l with overrun := true }

/-- Offer a report of a mask kind: discarded with its pending flag set while the kind is masked (11 R189). -/
def State.offerReport (s : State) (k : MaskKind) (cls : Byte) (payload : List Byte) : State :=
  if s.link.masked k then
    s.onLink fun l => { l with suppressed := setKind l.suppressed k true }
  else s.queueReport cls payload

/-! ## Outstanding entries (09 R150, R151) -/

/-- An entry is DONE. -/
def Entry.done (e : Entry) : Bool := e.result.isSome

/-- The payload of a released result: for a panel-originated one, without the screen and sequence number that
its report puts in front (11 R188, R191, R192). -/
def Entry.bytes (screen : Fin 4) (e : Entry) (r : EntryResult) : List Byte :=
  match e.ask, r with
  | .route k _, .bare c => routeHeadBytes c k
  | .directory off, .bare c => emptyMatchBytes c off
  | .fence token, .bare c => [c.code, BitVec.ofNat 8 screen.val] ++ le 4 token.toNat
  | _, .route rec => rec.toBytes
  | _, .matched m => m.toBytes

/-- The request class of an entry's kind (11 R185). -/
def Ask.requestClass : Ask → Byte
  | .route _ _ => 0x0B
  | .directory _ => 0x0C
  | .fence _ => 0x0D

/-- The mask kind of a panel-originated entry's report (11 R188). -/
def Ask.maskKind : Ask → MaskKind
  | .route _ _ => .route
  | .directory _ | .fence _ => .matchList

/-- The report class of a panel-originated entry (11 R188). -/
def Ask.reportClass : Ask → Byte
  | .route _ _ => 0x43
  | .directory _ | .fence _ => 0x44

/-- Place one released result: a host entry's as its reply, a panel entry's as its report in the slot reserved
for it; under a mask the report is discarded, its pending flag set and its slot returned (09 R151, 11 R189). -/
def State.placeResult (s : State) (i : Fin 4) (e : Entry) (r : EntryResult) : State :=
  let place := (i, s.screens[i.val].released)
  match e.asker with
  | .host tag =>
    (s.queueReply { cls := replyClass e.ask.requestClass, tag := tag, payload := e.bytes i r
                    release := some place, resets := false }).onScreen i
      fun c => { c with released := c.released + 1 }
  | .panel seq =>
    if s.link.masked e.ask.maskKind then
      s.onLink fun l =>
        { l with suppressed := setKind l.suppressed e.ask.maskKind true, reserved := l.reserved - 1 }
    else
      (s.onLink fun l =>
        { l with
          reports := l.reports ++ [{ cls := e.ask.reportClass, tag := 0
                                     payload := [BitVec.ofNat 8 i.val, seq] ++ e.bytes i r
                                     release := some place, resets := false }]
          reserved := l.reserved - 1 }).onScreen i
        fun c => { c with released := c.released + 1 }

/-- The entries left after the DONE ones at the head have been released (09 R151). -/
def State.releaseList (s : State) (i : Fin 4) : List Entry → State
  | [] => s.onScreen i fun c => { c with outstanding := [] }
  | e :: es =>
    match e.result with
    | none => s.onScreen i fun c => { c with outstanding := e :: es }
    | some r => (s.placeResult i e r).releaseList i es

/-- While the head of a screen's outstanding list is DONE, release it (09 R151). -/
def State.release (s : State) (i : Fin 4) : State := s.releaseList i s.screens[i.val].outstanding

/-- An entry with its result, unless it is DONE already (09 R150). -/
def Entry.finish (e : Entry) (r : EntryResult) : Entry :=
  if e.done then e else { e with result := some r }

/-- Complete one referenced entry, without a release. -/
def State.mark (s : State) (ref : Ref) (r : EntryResult) : State :=
  s.onScreen ref.screen fun c =>
    { c with outstanding := c.outstanding.map fun e => if e.id = ref.id then e.finish r else e }

/-- Complete one referenced entry and release its screen's DONE head (09 R151). -/
def State.complete (s : State) (ref : Ref) (r : EntryResult) : State :=
  (s.mark ref r).release ref.screen

/-- Complete several entries with one bare code, one after another. -/
def State.completeAll (s : State) (refs : List Ref) (c : ResultCode) : State :=
  refs.foldl (fun s ref => s.complete ref (.bare c)) s

/-- The outstanding list of a screen has room (09 R150). -/
def State.hasRoom (s : State) (i : Fin 4) : Bool :=
  decide (s.screens[i.val].outstanding.length < Config.outstandingCapacity)

/-- The reference the next entry of a screen takes. -/
def State.nextRef (s : State) (i : Fin 4) : Ref := { screen := i, id := s.screens[i.val].nextId }

/-- Join an entry at the young end of a screen's outstanding list (09 R150). -/
def State.join (s : State) (i : Fin 4) (asker : Asker) (ask : Ask) (result : Option EntryResult) : State :=
  s.onScreen i fun c =>
    { c with
      outstanding := c.outstanding ++ [{ id := c.nextId, asker := asker, ask := ask, result := result }]
      nextId := c.nextId + 1 }

/-! ## Sessions (09 R148) -/

/-- A DOWN, a selection or a screen-bound request makes an enabled screen's session ACTIVE and restarts its
idle timer (09 R148). -/
def Screen.touch (c : Screen) : Screen := if c.enabled then { c with active := true, idle := some 0 } else c

/-- A session in ATTRACT with its timer stopped and its text and terms cleared. -/
def Screen.endSession (c : Screen) : Screen :=
  { c with active := false, idle := none, text := [], terms := .empty }

/-! ## Meanings -/

/-- While RESET_N is low every block is held and no command but the pin's own has an effect (02 R37). -/
def whileRunning (s : State) (f : State → State) : Host.Outcome State Fault Refusal :=
  .next (if s.resetLow then s else f s)

/-- LINK_READY: high while the inbound queue holds fewer than 7 frames, at least 2 reply slots are free and
RESET_N is high (11 R184). -/
def State.linkReady (s : State) : Bool :=
  !s.resetLow && decide (s.link.inbound.length < 7) && decide (s.link.slotsUsed + 2 ≤ Config.replySlots)

end Sys2Proof.Machine
end

