-- ==== Sys2Proof/Machine/Cache.lean ====
section
/-! DEFINITION. The route cache (06): groups, lookup, insertion, replacement, sweep and flush. -/

namespace Sys2Proof.Machine

/-! ## Groups (06 R101) -/

/-- The primary group of a key (06 R101). -/
def primaryGroup (k : Key) : Fin 64 :=
  Fin.ofNat 64
    (k.origin.toNat ^^^ (3 * k.number.toNat) ^^^ (9 * k.profile.val)
      ^^^ (32 * match k.kind with | .listing => 0 | .waypoint => 1))

/-- The secondary group of a key: 63 less the primary group (06 R101). -/
def secondaryGroup (k : Key) : Fin 64 := ⟨63 - (primaryGroup k).val, by omega⟩

/-- The entry index of a position of a group (06 section 6.1). -/
def groupEntry (g : Fin 64) (k : Fin 8) : Fin 512 := ⟨8 * g.val + k.val, by omega⟩

/-- The eight positions of a group. -/
def positions : List (Fin 8) := [0, 1, 2, 3, 4, 5, 6, 7]

/-- The entries of a group in position order. -/
def groupEntries (g : Fin 64) : List (Fin 512) := positions.map (groupEntry g)

/-- The entry at an index. -/
def CacheState.at (c : CacheState) (e : Fin 512) : CacheEntry := c.entries[e.val]

/-- The cache with one entry changed. -/
def CacheState.onEntry (c : CacheState) (e : Fin 512) (f : CacheEntry → CacheEntry) : CacheState :=
  { c with entries := c.entries.set e.val (f (c.at e)) }

/-- Invalidate an entry: clear its valid and referenced flags (06 R104). -/
def CacheEntry.invalidate (e : CacheEntry) : CacheEntry := { e with valid := false, referenced := false }

/-- An entry of a group that holds a key under the alternate bit of that group (06 R103). -/
def CacheState.holds (c : CacheState) (k : Key) (alternate : Bool) (e : Fin 512) : Bool :=
  (c.at e).valid && (c.at e).alternate == alternate && decide ((c.at e).route.key = k)

/-- The match of a key: the primary group first, then the secondary (06 R103). -/
def CacheState.find (c : CacheState) (k : Key) : Option (Fin 512) :=
  match (groupEntries (primaryGroup k)).find? (c.holds k false) with
  | some e => some e
  | none => (groupEntries (secondaryGroup k)).find? (c.holds k true)

/-- The number of valid entries, which STATE_GET reports (02 R36, 06 R116). -/
def CacheState.validCount (c : CacheState) : Nat := c.entries.toList.countP (·.valid)

/-! ## Lookup (06 R104) -/

/-- The two tests that make a match a hit (06 R104). -/
def CacheState.usable (c : CacheState) (generation : BitVec 16) (e : CacheEntry) : Bool :=
  decide (e.generation = generation) && !(e.segments.any fun g => c.sweep.contains g)

/-- A lookup: a hit sets the referenced flag and hands out a copy; a match that fails a test is invalidated
and the lookup is a miss (06 R103, R104). -/
def CacheState.lookup (c : CacheState) (generation : BitVec 16) (k : Key) : CacheState × Option ComposedRoute :=
  match c.find k with
  | none => (c, none)
  | some e =>
    if c.usable generation (c.at e) then
      (c.onEntry e fun x => { x with referenced := true }, some (c.at e).route)
    else (c.onEntry e CacheEntry.invalidate, none)

/-! ## Insertion and replacement (06 R107, R109) -/

/-- Advance a clock hand. -/
def nextHand (h : Fin 8) : Fin 8 := ⟨(h.val + 1) % 8, by omega⟩

/-- The clock of a group: pass over each referenced entry, clearing its flag, until one with the flag clear is
found; at most nine positions are examined (06 R109). -/
def CacheState.clock (c : CacheState) (g : Fin 64) : Nat → Fin 8 → CacheState × Fin 8
  | 0, h => (c, h)
  | n + 1, h =>
    if (c.at (groupEntry g h)).referenced then
      (c.onEntry (groupEntry g h) fun x => { x with referenced := false }).clock g n (nextHand h)
    else (c, h)

/-- Choose a victim in a group and leave the hand after it (06 R109). -/
def CacheState.victim (c : CacheState) (g : Fin 64) : CacheState × Fin 512 :=
  let r := c.clock g 9 c.hands[g.val]
  ({ r.1 with hands := r.1.hands.set g.val (nextHand r.2) }, groupEntry g r.2)

/-- The entry an insertion writes (06 R107). -/
def newEntry (generation : BitVec 16) (alternate : Bool) (r : ComposedRoute) (segments : List Nat) : CacheEntry :=
  { valid := true, alternate := alternate, referenced := false, generation := generation, route := r
    segments := segments }

/-- Insertion by the first of the four cases that applies (06 R107). -/
def CacheState.insert (c : CacheState) (generation : BitVec 16) (r : ComposedRoute) (segments : List Nat) :
    CacheState :=
  match c.find r.key with
  | some e => c.onEntry e fun x => newEntry generation x.alternate r segments
  | none =>
    match (groupEntries (primaryGroup r.key)).find? fun e => !(c.at e).valid with
    | some e => c.onEntry e fun _ => newEntry generation false r segments
    | none =>
      match (groupEntries (secondaryGroup r.key)).find? fun e => !(c.at e).valid with
      | some e => c.onEntry e fun _ => newEntry generation true r segments
      | none =>
        let v := c.victim (primaryGroup r.key)
        v.1.onEntry v.2 fun _ => newEntry generation false r segments

/-- The four tests of an offer (06 R106). DESIGN CHOICE (log entry 38, unsafe): an offer is judged by these tests alone. A
job that was in the composer's hand at a wrap is declined, as 06 R113 and 07 R121 say, only while its captured generation
differs from the current one: if it captured 0, or later reopenings bring the generation back to it, it passes. -/
def State.offerPasses (s : State) (captured : Option (BitVec 16)) (segments : List Nat) : Bool :=
  decide (1 ≤ segments.length ∧ segments.length ≤ Config.maxCachedSegments)
    && decide (captured = some s.map.generation)
    && segments.all (fun g => !(s.segment g).closed)
    && segments.all (fun g => !s.rcc.sweep.contains g)

/-- The cache takes or declines an offer (06 R106). -/
def State.offer (s : State) (captured : Option (BitVec 16)) (r : ComposedRoute) (segments : List Nat) : State :=
  if s.offerPasses captured segments then { s with rcc := s.rcc.insert s.map.generation r segments } else s

/-! ## Flush, sweep list and sweep engine (06 R110 to R113) -/

/-- A flush (06 R113). -/
def CacheState.flush (c : CacheState) : CacheState :=
  { entries := c.entries.map CacheEntry.invalidate, hands := .replicate 64 0, sweep := [], scan := none }

/-- The hand-over of a closed segment (06 R110). -/
def CacheState.handOver (c : CacheState) (g : Nat) : CacheState :=
  if c.sweep.contains g then c
  else if c.sweep.length < Config.sweepCapacity then
    { c with sweep := c.sweep ++ [g], scan := if c.sweep.isEmpty then some 0 else c.scan }
  else c.flush

/-- Invalidate an entry whose route uses a segment (06 R111). -/
def CacheEntry.sweepFor (g : Nat) (e : CacheEntry) : CacheEntry :=
  if e.valid && e.segments.contains g then e.invalidate else e

/-- One examination of the sweep engine (06 R111). -/
def CacheState.examine (c : CacheState) : CacheState :=
  match c.sweep, c.scan with
  | g :: rest, some p =>
    let c' := c.onEntry p (CacheEntry.sweepFor g)
    if h : p.val + 1 < 512 then { c' with scan := some ⟨p.val + 1, h⟩ }
    else { c' with sweep := rest, scan := if rest.isEmpty then none else some 0 }
  | _, _ => c

/-- SWEEP_EXAMINATION (06 R111). While no scan is in hand there is nothing to examine. -/
def execSweepExamination (s : State) : Host.Outcome State Fault Refusal :=
  whileRunning s fun s => { s with rcc := s.rcc.examine }

end Sys2Proof.Machine
end

