-- ==== Sys2Proof/Machine/Search.lean ====
section
/-! DEFINITION. Segment cost (03), the search queue and the two route search units (04). -/

namespace Sys2Proof.Machine

/-! ## Segment cost (03 R45 to R49) -/

/-- The weighted length, rounded up (03 R46). -/
def weightedLength (length w : Nat) : Nat := (length * w + 15) / 16

/-- The cost of a segment under a profile, none where the profile forbids its kind (03 R45, R49). -/
def segmentCost (p : Profile) (g : Segment) : Option Nat :=
  let w := p.weights[g.kind.code.val].toNat
  if w = 0 then none
  else
    some (weightedLength g.length.toNat w + g.delta.toInt.natAbs * p.penalty.toNat
      + (if g.kind = .lift then p.liftWait.toNat * p.speed.toNat else 0))

/-! ## The segment start index (01 R7, R8) -/

/-- The segment start index over the two tables (01 R7). -/
def buildStartIndex (waypointCount : Nat) (segments : List Segment) : List Nat :=
  (List.range waypointCount).map (fun w => segments.findIdx fun g => decide (w ≤ g.src.toNat))
    ++ [segments.length]

/-- The outgoing run of a waypoint, in increasing index order (01 R7, R8). -/
def State.outgoing (s : State) (w : BitVec 12) : List Nat :=
  match s.map.startIndex with
  | none => []
  | some starts =>
    List.range' (starts.getD w.toNat 0) (starts.getD (w.toNat + 1) 0 - starts.getD w.toNat 0)

/-! ## The working tables and the frontier (04 R57, R60) -/

/-- A waypoint's place in a working table. -/
def place {α : Type} (t : Vector α 4096) (w : BitVec 12) : α := t[w.toNat]'w.isLt

/-- A working table with one waypoint's place changed. -/
def setPlace {α : Type} (t : Vector α 4096) (w : BitVec 12) (x : α) : Vector α 4096 := t.set w.toNat x w.isLt

/-- The frontier's order: by cost, and among equal costs by waypoint number (04 R60). -/
def pairBefore (a b : Nat × BitVec 12) : Bool :=
  decide (a.1 < b.1) || (a.1 == b.1 && decide (a.2.toNat ≤ b.2.toNat))

/-- Insert a pair at its place in the frontier's order (04 R60). -/
def frontierInsert (x : Nat × BitVec 12) : List (Nat × BitVec 12) → List (Nat × BitVec 12)
  | [] => [x]
  | y :: ys => if pairBefore x y then x :: y :: ys else y :: frontierInsert x ys

/-- Place a waypoint in the frontier, or move it there (04 R60). -/
def frontierPlace (c : Nat) (w : BitVec 12) (f : List (Nat × BitVec 12)) : List (Nat × BitVec 12) :=
  frontierInsert (c, w) (f.filter fun y => decide (y.2 ≠ w))

/-! ## Relaxation (04 R62, R63) -/

/-- Offer a candidate cost to a waypoint through a segment (04 R63, 03 R51). -/
def SearchUnit.offer (u : SearchUnit) (g : Nat) (w : BitVec 12) (candidate : Nat) : SearchUnit :=
  if candidate ≤ Config.maxPathCost ∧ candidate < place u.cost w then
    { u with
      cost := setPlace u.cost w candidate
      pred := setPlace u.pred w (some g)
      frontier := frontierPlace candidate w u.frontier }
  else u

/-- Relax one segment of the settled waypoint's run by the four tests in order (04 R62). -/
def State.relaxOne (s : State) (w : BitVec 12) (u : SearchUnit) (g : Nat) : SearchUnit :=
  match segmentCost s.profiles[u.key.profile.val] (s.segment g) with
  | none => u
  | some c =>
    if place u.settled (s.segment g).dst then u
    else if (s.segment g).closed then { u with detour := true }
    else u.offer g (s.segment g).dst (place u.cost w + c)

/-- Relax the outgoing run of the settled waypoint (04 R61). -/
def State.relax (s : State) (w : BitVec 12) (u : SearchUnit) : SearchUnit :=
  (s.outgoing w).foldl (s.relaxOne w) u

/-! ## A search's start, its path and its completion check -/

/-- An attempt's beginning: all unreached and unsettled, and the origin in the frontier at cost 0 (04 R59, R66). -/
def SearchUnit.freshAttempt (u : SearchUnit) : SearchUnit :=
  { u with
    cost := setPlace (.replicate 4096 Config.unreached) u.key.origin 0
    pred := .replicate 4096 none
    settled := .replicate 4096 false
    frontier := [(0, u.key.origin)]
    settledCount := 0 }

/-- The target set of a key: the waypoint, or the listing's entrances, each once (04 R59). -/
def State.targetsOf (s : State) (k : Key) : List (BitVec 12) :=
  match k.kind with
  | .waypoint => [BitVec.ofNat 12 k.number.toNat]
  | .listing => (s.listing k.number.toNat).usedEntrances.eraseDups

/-- A unit that takes an entry with this key (04 R59). -/
def State.startSearch (s : State) (k : Key) : SearchUnit :=
  { SearchUnit.idle with
    state := .running, key := k, targets := s.targetsOf k, captured := some s.map.generation }.freshAttempt

/-- The path to a waypoint read back through the predecessors, origin first (04 R64). -/
def State.pathBack (s : State) (u : SearchUnit) : Nat → BitVec 12 → List Nat → List Nat
  | 0, _, acc => acc
  | n + 1, w, acc =>
    match place u.pred w with
    | none => acc
    | some g => s.pathBack u n (s.segment g).src (g :: acc)

/-- The path found when a target is settled (04 R64). -/
def State.pathTo (s : State) (u : SearchUnit) (w : BitVec 12) : List Nat := s.pathBack u Config.waypointCapacity w []

/-- A search that ends without a path (04 R69). R69 gives a path and a reached entrance for OK alone. DESIGN CHOICE (log
entry 37, unsafe): any other result holds path [] and entrance 0. -/
def SearchUnit.endWith (u : SearchUnit) (c : ResultCode) : SearchUnit :=
  { u with result := some { code := c, path := [], entrance := 0, detour := u.detour, cacheable := false } }

/-- Whether an OK result is marked cacheable (04 R68). -/
def cacheableMark (path : List Nat) (captured : Option (BitVec 16)) (generation : BitVec 16) : Bool :=
  decide (1 ≤ path.length ∧ path.length ≤ Config.maxCachedSegments) && decide (captured = some generation)

/-- A found path's check: OK, a fresh attempt, or NO_STABLE_ROUTE at the third closed path (04 R66 to R68). -/
def State.checkPath (s : State) (u : SearchUnit) (w : BitVec 12) : SearchUnit :=
  let path := s.pathTo u w
  if path.any fun g => (s.segment g).closed then
    let v := { u with restarts := u.restarts + 1, detour := true }
    if v.restarts < 3 then v.freshAttempt else v.endWith .noStableRoute
  else
    { u with
      result := some { code := .ok, path := path, entrance := w, detour := u.detour
                       cacheable := cacheableMark path u.captured s.map.generation } }

/-- The completion check: first the listing's status, then the path (04 R65, R66). -/
def State.completionCheck (s : State) (u : SearchUnit) (found : Option (BitVec 12)) : SearchUnit :=
  if u.key.kind = .listing ∧ (s.listing u.key.number.toNat).status = .hidden then u.endWith .notFound
  else
    match found with
    | none => u.endWith .noRoute
    | some w => s.checkPath u w

/-- A unit with the frontier's head settled (04 R61). -/
def SearchUnit.settleHead (u : SearchUnit) (w : BitVec 12) (rest : List (Nat × BitVec 12)) : SearchUnit :=
  { u with frontier := rest, settled := setPlace u.settled w true, settledCount := u.settledCount + 1 }

/-- One settle step of a unit's search (04 R61). -/
def State.settle (s : State) (u : SearchUnit) : SearchUnit :=
  match u.frontier with
  | [] => s.completionCheck u none
  | (_, w) :: rest =>
    if u.targets.contains w then s.completionCheck (u.settleHead w rest) (some w)
    else s.relax w (u.settleHead w rest)

/-! ## The search queue (04 R54 to R56) -/

/-- Join a requester to the entry with an equal key, or create a WAITING entry at the young end (04 R55). -/
def joinQueue (k : Key) (ref : Ref) : List SearchEntry → List SearchEntry
  | [] => [{ key := k, requesters := [ref], unit := none }]
  | e :: es => if e.key = k then { e with requesters := e.requesters ++ [ref] } :: es else e :: joinQueue k ref es

/-- Join the search queue (04 R55). Dispatch to the units is offered by State.giveUnits. -/
def State.joinSearch (s : State) (k : Key) (ref : Ref) : State :=
  { s with search := { s.search with queue := joinQueue k ref s.search.queue } }

/-- The queue with its oldest WAITING entry RUNNING on a unit, and that entry's key; none while none waits. -/
def takeOldest (u : Fin 2) : List SearchEntry → Option (Key × List SearchEntry)
  | [] => none
  | e :: es =>
    match e.unit with
    | none => some (e.key, { e with unit := some u } :: es)
    | some _ => (takeOldest u es).map fun r => (r.1, e :: r.2)

/-- A unit that is IDLE in SERVICE takes the oldest WAITING entry (04 R56). -/
def State.giveUnit (s : State) (u : Fin 2) : State :=
  if s.mod.mode = .service ∧ s.search.units[u.val].state = .idle then
    match takeOldest u s.search.queue with
    | none => s
    | some (k, q) => ({ s with search := { s.search with queue := q } } : State).onUnit u fun _ => s.startSearch k
  else s

/-- Dispatch to both units, RSU0 first (04 R56). -/
def State.giveUnits (s : State) : State := (s.giveUnit 0).giveUnit 1

/-- Whether a unit's entry still stands in the queue. A RUNNING unit without one has been abandoned (04 R74). -/
def State.ownsEntry (s : State) (u : Fin 2) : Bool := s.search.queue.any fun e => decide (e.unit = some u)

/-- The end of a settle step: an abandoned unit becomes IDLE; a final result takes it to HANDOFF and its place
joins the composer queue; else in FROZEN it goes to HELD (04 R58, R69, R74, R75). -/
def State.endSettle (s : State) (u : Fin 2) (v : SearchUnit) : State :=
  if !s.ownsEntry u then s.onUnit u fun _ => .idle
  else if v.result.isSome then
    ({ s with rco := { s.rco with queue := s.rco.queue ++ [u] } } : State).onUnit u
      fun _ => { v with state := .handoff }
  else if s.mod.mode = .frozen then s.onUnit u fun _ => { v with state := .held }
  else s.onUnit u fun _ => v

/-- Whether a unit is RUNNING, so that a settle step of it is in hand (04 R61). -/
def State.anyRunning (s : State) : Bool := s.search.units.toList.any fun u => decide (u.state = .running)

/-! ## Reopenings that wrap the generation (04 R72, 07 R121) -/

/-- At the wrap every unit that is not IDLE loses its captured generation (04 R72). -/
def SearchUnit.void (u : SearchUnit) : SearchUnit := if u.state = .idle then u else { u with captured := none }

end Sys2Proof.Machine
end

