-- ==== Sys2Proof/Machine/Compose.lean ====
section
/-! DEFINITION. The route composer (05): steps, turns, merging, truncation, totals, finalisation and its queue. -/

namespace Sys2Proof.Machine

/-! ## Turns (05 R84) -/

/-- The turn class of a turn delta read as signed (05 R84). -/
def classOfDelta (d : Int) : TurnClass :=
  if d = -128 then .uTurn
  else if d ≤ -97 then .sharpLeft
  else if d ≤ -49 then .left
  else if d ≤ -17 then .slightLeft
  else if d ≤ 16 then .straight
  else if d ≤ 48 then .slightRight
  else if d ≤ 96 then .right
  else .sharpRight

/-- The turn class from an incoming to an outgoing heading (05 R84). -/
def turnClass (incoming outgoing : BitVec 8) : TurnClass := classOfDelta (outgoing - incoming).toInt

/-! ## Steps (05 R83, R85) -/

/-- The step action of a segment kind (05 R83). -/
def SegKind.action : SegKind → StepAction
  | .walk => .walk | .escalator => .takeEscalator | .stairs => .takeStairs | .lift => .takeLift
  | .ramp => .takeRamp | .travelator => .takeTravelator | .door => .passDoor | .outdoor => .goOutside

/-- The length a segment adds to steps and to the total distance: none for a LIFT (05 R83, R90). -/
def Segment.walked (g : Segment) : Nat := if g.kind = .lift then 0 else g.length.toNat

/-- The provisional step of a segment with its turn class (05 R83). -/
def State.provisional (s : State) (turn : TurnClass) (g : Segment) : RouteStep :=
  let w := s.waypoint g.dst.toNat
  { action := g.kind.action, turn := turn, length := g.walked, levelCode := w.levelCode, endWaypoint := g.dst
    landmark := w.landmark }

/-- The provisional steps of a path, each after the first turned from the heading of the segment before it
(05 R85). -/
def State.provisionals (s : State) : Option (BitVec 8) → List Segment → List RouteStep
  | _, [] => []
  | before, g :: gs =>
    let turn := match before with
      | none => TurnClass.none
      | some h => turnClass h g.heading
    s.provisional turn g :: s.provisionals (some g.heading) gs

/-! ## Merging, departure, truncation (05 R86 to R89) -/

/-- A waypoint's landmark code for no landmark (01 R2). -/
def noLandmark : BitVec 10 := 0x3FF

/-- Whether the step `b` merges into the step `a` before it (05 R86). -/
def mergeable (a b : RouteStep) : Bool :=
  ((a.action == .walk && b.action == .walk) || (a.action == .takeTravelator && b.action == .takeTravelator))
    && b.turn == .straight && a.landmark == noLandmark

/-- The merged step: the first's action and turn, the lengths added, the end of the last (05 R86). -/
def mergeStep (a b : RouteStep) : RouteStep :=
  { a with length := a.length + b.length, levelCode := b.levelCode, endWaypoint := b.endWaypoint
           landmark := b.landmark }

/-- Merge runs of steps in path order, `a` being the step in hand (05 R86). -/
def mergeFrom (a : RouteStep) : List RouteStep → List RouteStep
  | [] => [a]
  | b :: bs => if mergeable a b then mergeFrom (mergeStep a b) bs else a :: mergeFrom b bs

/-- Merge the provisional steps (05 R86). -/
def mergeSteps : List RouteStep → List RouteStep
  | [] => []
  | a :: as => mergeFrom a as

/-- A first WALK of 1..15 dm with a further step behind it becomes DEPART_TURN (05 R87). -/
def departTurn : List RouteStep → List RouteStep
  | a :: b :: bs =>
    if a.action = .walk ∧ 1 ≤ a.length ∧ a.length ≤ 15 then { a with action := .departTurn } :: b :: bs
    else a :: b :: bs
  | l => l

/-- The ARRIVE step at the reached entrance (05 R88). -/
def State.arriveStep (s : State) (entrance : BitVec 12) : RouteStep :=
  let w := s.waypoint entrance.toNat
  { action := .arrive, turn := .none, length := 0, levelCode := w.levelCode, endWaypoint := entrance
    landmark := w.landmark }

/-- The CONTINUE step that stands for the steps cut off: their lengths, the level of the reached entrance, and
the waypoint before it (05 R89). -/
def State.continueStep (s : State) (entrance before : BitVec 12) (cut : List RouteStep) : RouteStep :=
  { action := .continueOn, turn := .none, length := (cut.map (·.length)).sum
    levelCode := (s.waypoint entrance.toNat).levelCode, endWaypoint := before
    landmark := (s.waypoint before.toNat).landmark }

/-- Truncation: with 48 or more steps before ARRIVE the first 46 are kept and CONTINUE follows (05 R89). -/
def State.truncateSteps (s : State) (entrance before : BitVec 12) (steps : List RouteStep) :
    List RouteStep × Bool :=
  if Config.maxSteps ≤ steps.length then
    (steps.take 46 ++ [s.continueStep entrance before (steps.drop 46), s.arriveStep entrance], true)
  else (steps ++ [s.arriveStep entrance], false)

/-! ## Distance and time (05 R90 to R93) -/

/-- A quotient rounded to the nearest whole, an exact half up (05 R91). -/
def roundHalfUp (n d : Nat) : Nat := (2 * n + d) / (2 * d)

/-- The speed used for a segment kind (05 R91). -/
def speedUsed (kind : SegKind) (v r : Nat) : Nat :=
  match kind with
  | .walk | .ramp | .door | .outdoor => v
  | .stairs => max (v / 2) 3
  | .escalator => if r = 0 then v else r
  | .travelator => v + r
  | .lift => if r = 0 then 10 else r

/-- The walking time of a segment in tenths of a second (05 R91). -/
def segmentTime (p : Profile) (g : Segment) : Nat :=
  (if g.kind = .lift then p.liftWait.toNat * 10 else 0)
    + roundHalfUp (g.length.toNat * 10) (speedUsed g.kind p.speed.toNat g.ride.toNat)

/-- The total distance of a path (05 R90). -/
def pathDistance (gs : List Segment) : Nat := (gs.map Segment.walked).sum

/-- The walking time of a path (05 R92). -/
def pathTime (p : Profile) (gs : List Segment) : Nat := (gs.map (segmentTime p)).sum

/-- The level-change count of a path, saturating at 255 (05 R93). -/
def pathLevelChanges (gs : List Segment) : Nat := min (gs.countP fun g => decide (g.delta ≠ 0)) 255

/-- The reported metres (05 R90). -/
def metresOf (dm : Nat) : Nat := (dm + 5) / 10

/-- The reported seconds (05 R92). -/
def secondsOf (ds : Nat) : Nat := min ((ds + 9) / 10) 65535

/-- The reported minutes (05 R92). -/
def minutesOf (seconds : Nat) : Nat := (seconds + 59) / 60

/-! ## Composition (05 R94) -/

/-- The composed route of a job whose result is OK (05 R94). -/
def State.compose (s : State) (j : Job) : ComposedRoute :=
  let gs := j.path.map s.segment
  let before := match gs.getLast? with | none => j.entrance | some g => g.src
  let cut := s.truncateSteps j.entrance before (departTurn (mergeSteps (s.provisionals none gs)))
  { key := j.key
    entrance := j.entrance
    detour := j.detour
    heading := match gs with | [] => 0 | g :: _ => g.heading
    steps := cut.1
    truncated := cut.2
    distance := pathDistance gs
    time := pathTime s.profiles[j.key.profile.val] gs
    levelChanges := pathLevelChanges gs }

/-! ## Finalisation (05 R95 to R98) -/

/-- The first step with its turn class for one requester (05 R96). -/
def turnFirst (explicitOrigin : Bool) (screenHeading heading : BitVec 8) : List RouteStep → List RouteStep
  | [] => []
  | t :: ts =>
    if explicitOrigin ∨ t.action = .arrive then { t with turn := .none } :: ts
    else { t with turn := turnClass screenHeading heading } :: ts

/-- DESTINATION_CLOSED: a listing that is CLOSED or HIDDEN now (05 R97). -/
def State.destinationClosed (s : State) (k : Key) : Bool :=
  match k.kind with
  | .listing => decide ((s.listing k.number.toNat).status ≠ .opened)
  | .waypoint => false

/-- The route record of one requester (05 R95). -/
def State.finalise (s : State) (screen : Fin 4) (explicitOrigin fromCache : Bool) (r : ComposedRoute) : RouteRecord :=
  { fromCache := fromCache
    detour := r.detour
    destinationClosed := s.destinationClosed r.key
    truncated := r.truncated
    explicitOrigin := explicitOrigin
    key := r.key
    entrance := r.entrance
    distance := r.distance
    metres := metresOf r.distance
    seconds := secondsOf r.time
    minutes := minutesOf (secondsOf r.time)
    levelChanges := r.levelChanges
    steps := turnFirst explicitOrigin s.screens[screen.val].heading r.heading r.steps }

/-- Whether a requester's request carried an explicit origin (09 R150). -/
def State.explicitOf (s : State) (ref : Ref) : Bool :=
  match s.screens[ref.screen.val].outstanding.find? (fun e => decide (e.id = ref.id)) with
  | some e => (match e.ask with | .route _ x => x | _ => false)
  | none => false

/-! ## The composer queue (05 R81, R82) -/

/-- The requesters of the entry that a unit holds (04 R69). -/
def State.requestersOf (s : State) (u : Fin 2) : List Ref :=
  match s.search.queue.find? (fun e => decide (e.unit = some u)) with
  | some e => e.requesters
  | none => []

/-- The entry leaves the search queue, the unit becomes IDLE and in SERVICE takes the oldest WAITING entry
(04 R69). -/
def State.freeUnit (s : State) (u : Fin 2) : State :=
  (({ s with search := { s.search with queue := s.search.queue.filter fun e => decide (e.unit ≠ some u) } } :
    State).onUnit u fun _ => .idle).giveUnit u

/-- The job made from a unit's result (05 R81). -/
def jobOf (v : SearchUnit) (r : SearchResult) (requesters : List Ref) : Job :=
  { key := v.key, requesters := requesters, path := r.path, entrance := r.entrance, detour := r.detour
    cacheable := r.cacheable, captured := v.captured, route := none }

/-- While RCO holds no job, it takes the oldest place of the queue (05 R81); a result other than OK completes
its requesters at once, and the job has ended (05 R82). -/
def State.takePlaces (s : State) : List (Fin 2) → State
  | [] => { s with rco := { s.rco with queue := [] } }
  | u :: us =>
    match s.rco.job with
    | some _ => { s with rco := { s.rco with queue := u :: us } }
    | none =>
      let v := s.search.units[u.val]
      let refs := s.requestersOf u
      match v.result with
      | none => (s.freeUnit u).takePlaces us
      | some r =>
        if r.code = .ok then
          let t := s.freeUnit u
          ({ t with rco := { t.rco with job := some (jobOf v r refs) } } : State).takePlaces us
        else ((s.freeUnit u).completeAll refs r.code).takePlaces us

/-- RCO takes what it can. -/
def State.serveComposer (s : State) : State := s.takePlaces s.rco.queue

end Sys2Proof.Machine
end

