-- ==== Sys2Proof/Machine/Directory.lean ====
section
/-! DEFINITION. The directory (08): keys and their order, filter terms, the query queue and the scan. -/

namespace Sys2Proof.Machine

/-! ## Keys (08 R130) -/

/-- The symbols of a key: its places before the first 0 (08 R130). -/
def keySymbols (k : Vector Byte 16) : List Byte := k.toList.takeWhile fun b => decide (b ≠ 0)

/-- One key sorts before another: symbol by symbol by code, a proper prefix first (08 R130). -/
def sortsBefore : List Byte → List Byte → Bool
  | _, [] => false
  | [], _ :: _ => true
  | a :: as, b :: bs => decide (a.toNat < b.toNat) || (a == b && sortsBefore as bs)

/-- A key starts with a prefix (08 R130). -/
def startsWith (pfx : List Byte) (l : Listing) : Bool := pfx.isPrefixOf (keySymbols l.key)

/-! ## Filter terms (08 R134 to R136) -/

/-- Whether a non-empty term slot is valid (08 R134). -/
def Term.valid (t : Term) : Bool :=
  match t.field.toNat with
  | 1 | 2 => decide (t.condition.toNat ≤ 5)
  | 3 => decide (t.condition.toNat ≤ 1 ∧ t.operand.toNat ≤ 1)
  | 4 => decide (6 ≤ t.condition.toNat ∧ t.condition.toNat ≤ 8)
  | _ => false

/-- Whether every non-empty slot is valid (08 R134). -/
def termsValid (ts : Terms) : Bool := ts.toList.all fun t => match t with | none => true | some t => t.valid

/-- A numeric comparison by its condition code, the listing's value on the left (08 R135). -/
def compareBy (condition : Nat) (x y : Int) : Bool :=
  match condition with
  | 0 => decide (x = y)
  | 1 => decide (x ≠ y)
  | 2 => decide (x < y)
  | 3 => decide (x ≤ y)
  | 4 => decide (x > y)
  | _ => decide (x ≥ y)

/-- The attribute conditions ALL, ANY and NONE (08 R136). -/
def maskBy (condition : Nat) (flags mask : BitVec 16) : Bool :=
  match condition with
  | 6 => flags &&& mask == mask
  | 7 => flags &&& mask != 0
  | _ => flags &&& mask == 0

/-- Whether a listing passes a term (08 R135, R136). -/
def Term.holds (t : Term) (l : Listing) : Bool :=
  match t.field.toNat with
  | 1 => compareBy t.condition.toNat l.category.toNat t.operand.toNat
  | 2 => compareBy t.condition.toNat l.level t.operand.toInt
  | 3 => compareBy t.condition.toNat l.status.code t.operand.toNat
  | _ => maskBy t.condition.toNat l.attributes t.operand

/-- Whether a listing passes every non-empty slot (08 section 8.5). -/
def passesTerms (ts : Terms) (l : Listing) : Bool :=
  ts.toList.all fun t => match t with | none => true | some t => t.holds l

/-! ## The scan (08 R137 to R141) -/

/-- The first index of the prefix range (08 R138). -/
def rangeStart (pfx : List Byte) (ls : List Listing) : Nat := ls.findIdx (startsWith pfx)

/-- The index after the last of the prefix range: the run of listings from the first one on whose keys start
with the prefix (08 R138). -/
def rangeStop (pfx : List Byte) (ls : List Listing) : Nat :=
  rangeStart pfx ls + ((ls.drop (rangeStart pfx ls)).takeWhile (startsWith pfx)).length

/-- A query taken as the scan in hand (08 R137, R138). -/
def scanOf (q : Query) (ls : List Listing) : Scan :=
  { query := q, position := rangeStart q.pfx ls, stop := rangeStop q.pfx ls, total := 0, kept := []
    nextSymbols := 0, detached := false }

/-- The content a scan completes its entry with (08 R141). -/
def Scan.content (c : Scan) : MatchList :=
  { total := c.total, offset := c.query.offset, nextSymbols := c.nextSymbols, records := c.kept }

/-- The match record of a listing (08 R139). -/
def matchOf (n : Nat) (l : Listing) : MatchRecord :=
  { index := n, tenant := l.tenant, key := l.key, levelCode := l.levelCode, category := l.category
    status := l.status }

/-- The set with the flag of the symbol that follows the prefix in a key, if one does (08 R140). -/
def addNextSymbol (set : BitVec 40) (pfxLength : Nat) (l : Listing) : BitVec 40 :=
  match (keySymbols l.key)[pfxLength]? with
  | none => set
  | some k => set ||| (1#40 <<< (k.toNat - 1))

/-- The scan after the listing at its position has matched (08 R139). -/
def Scan.count (c : Scan) (n : Nat) (l : Listing) : Scan :=
  { c with
    total := c.total + 1
    kept := if c.query.offset.toNat ≤ c.total ∧ c.total < c.query.offset.toNat + c.query.maximum
            then c.kept ++ [matchOf n l] else c.kept
    nextSymbols := addNextSymbol c.nextSymbols c.query.pfx.length l }

/-- One examination (08 R139). -/
def Scan.examine (c : Scan) (l : Listing) : Scan :=
  let d := if l.status ≠ .hidden ∧ passesTerms c.query.terms l then c.count c.position l else c
  { d with position := c.position + 1 }

/-- While DIR holds no scan, it takes the oldest waiting query; a scan of an empty range ends at once
(08 R137, R138). -/
def State.takeQueries (s : State) : List Query → State
  | [] => { s with dir := { s.dir with queue := [] } }
  | q :: qs =>
    match s.dir.scan with
    | some _ => { s with dir := { s.dir with queue := q :: qs } }
    | none =>
      let c := scanOf q s.dir.listings
      if c.position < c.stop then
        ({ s with dir := { s.dir with scan := some c } } : State).takeQueries qs
      else (s.complete q.ref (.matched c.content)).takeQueries qs

/-- DIR takes what it can. -/
def State.serveDirectory (s : State) : State := s.takeQueries s.dir.queue

/-- A query joins the end of the directory query queue (08 R133). -/
def State.joinDirectory (s : State) (q : Query) : State :=
  { s with dir := { s.dir with queue := s.dir.queue ++ [q] } }

/-- The examination in hand ends: a detached scan is abandoned (08 R143); the last of the range completes the
query (08 R141); then DIR takes the next query. -/
def State.examineListing (s : State) : State :=
  match s.dir.scan with
  | none => s
  | some c =>
    let t : State := { s with dir := { s.dir with scan := none } }
    if c.detached then t.serveDirectory
    else
      let d := c.examine (s.listing c.position)
      if d.position < d.stop then { s with dir := { s.dir with scan := some d } }
      else (t.complete c.query.ref (.matched d.content)).serveDirectory

/-- DIRECTORY_EXAMINATION (08 R139). -/
def execDirectoryExamination (s : State) : Host.Outcome State Fault Refusal :=
  whileRunning s State.examineListing

end Sys2Proof.Machine
end

