-- ==== Sys2Proof/Machine/Engines.lean ====
section
/-! DEFINITION. What the engines take when they become free, the ending of work, and the engine rows
SETTLE_STEP, COMPOSITION_END and ROUTE_FINALISATION. -/

namespace Sys2Proof.Machine

/-- Each engine takes what waits for it: the composer (05 R81), then the units (04 R56), then DIR (08 R137). DESIGN
CHOICE: of two units that become IDLE in one event, one whose result the composer takes there has its grant first, and
else RSU0 has (assumption 12). -/
def State.serve (s : State) : State := s.serveComposer.giveUnits.serveDirectory

/-! ## SETTLE_STEP (04 R61) -/

/-- The MODE_SET FROZEN that waits is answered once no unit is RUNNING (02 R24). -/
def State.answerFreezing (s : State) : State :=
  match s.mod.freezing with
  | none => s
  | some tag =>
    if s.anyRunning then s
    else ({ s with mod := { s.mod with freezing := none } } : State).reply 0x02 tag
      [ResultCode.ok.code, s.mod.mode.code]

/-- SETTLE_STEP (04 R61): the settle step in hand of a RUNNING unit. DESIGN CHOICE: the MODE_SET FROZEN that waited on this
step is answered behind the results that the composer completes in it (assumption 33). -/
def execSettleStep (u : Fin 2) (s : State) : Host.Outcome State Fault Refusal :=
  whileRunning s fun s =>
    if s.search.units[u.val].state = .running then
      (s.endSettle u (s.settle s.search.units[u.val])).serve.answerFreezing
    else s

/-! ## COMPOSITION_END and ROUTE_FINALISATION (05 R94, R95) -/

/-- The state with the composer's job replaced. -/
def State.withJob (s : State) (j : Option Job) : State := { s with rco := { s.rco with job := j } }

/-- Composition ends: the route is offered to the cache when it is marked cacheable (05 R94). -/
def State.endComposition (s : State) : State :=
  match s.rco.job with
  | none => s
  | some j =>
    match j.route with
    | some _ => s
    | none =>
      let r := s.compose j
      let t := if j.cacheable then s.offer j.captured r j.path else s
      t.withJob (some { j with route := some r })

/-- COMPOSITION_END (05 R94). -/
def execCompositionEnd (s : State) : Host.Outcome State Fault Refusal := whileRunning s State.endComposition

/-- The next requester of the composed job is finalised; the job ends after the last (05 R95). -/
def State.finaliseNext (s : State) : State :=
  match s.rco.job with
  | none => s
  | some j =>
    match j.route with
    | none => s
    | some r =>
      match j.requesters with
      | [] => (s.withJob none).serve
      | ref :: rest =>
        let record := s.finalise ref.screen (s.explicitOf ref) false r
        let t := s.complete ref (.route record)
        if rest.isEmpty then (t.withJob none).serve else t.withJob (some { j with requesters := rest })

/-- ROUTE_FINALISATION (05 R95). -/
def execRouteFinalisation (s : State) : Host.Outcome State Fault Refusal := whileRunning s State.finaliseNext

/-! ## Detachment (04 R73, R74, 05 R99, 08 R143) -/

/-- A search-queue entry without the detached requesters. -/
def SearchEntry.without (refs : List Ref) (e : SearchEntry) : SearchEntry :=
  { e with requesters := e.requesters.filter fun r => !refs.contains r }

/-- A unit whose entry has been emptied: HELD or HANDOFF becomes IDLE at once, RUNNING goes on to the end of
its settle step (04 R74). -/
def State.dropUnit (s : State) (u : Fin 2) : State :=
  match s.search.units[u.val].state with
  | .held => s.onUnit u fun _ => .idle
  | .handoff =>
    ({ s with rco := { s.rco with queue := s.rco.queue.filter fun v => decide (v ≠ u) } } : State).onUnit u
      fun _ => .idle
  | .idle | .running => s

/-- Detach requesters from the search queue: emptied entries leave it (04 R73, R74). -/
def State.detachSearch (s : State) (refs : List Ref) : State :=
  let q := s.search.queue.map (SearchEntry.without refs)
  let emptied := (q.filter fun e => e.requesters.isEmpty).filterMap (·.unit)
  emptied.foldl State.dropUnit
    { s with search := { s.search with queue := q.filter fun e => !e.requesters.isEmpty } }

/-- Detach requesters from the composer's job; an emptied list abandons or ends it (05 R99). -/
def State.detachJob (s : State) (refs : List Ref) : State :=
  match s.rco.job with
  | none => s
  | some j =>
    let left := j.requesters.filter fun r => !refs.contains r
    s.withJob (if left.isEmpty then none else some { j with requesters := left })

/-- Detach queries: a waiting one leaves the queue, the scan in hand is abandoned when its examination in hand
ends (08 R143). -/
def State.detachQueries (s : State) (refs : List Ref) : State :=
  { s with dir := { s.dir with
      queue := s.dir.queue.filter fun q => !refs.contains q.ref
      scan := s.dir.scan.map fun c => { c with detached := c.detached || refs.contains c.query.ref } } }

/-- Detach requesters from all work that holds them (09 R155). -/
def State.detach (s : State) (refs : List Ref) : State :=
  ((s.detachSearch refs).detachJob refs).detachQueries refs

/-! ## The end of all work (02 R25, R39, 04 R76, 08 R144) -/

/-- Every search-queue entry is removed with its requesters ABORTED, in age and join order, and both units
become IDLE (04 R76). -/
def State.abortSearch (s : State) : State :=
  ({ s with
      search := { queue := [], units := .replicate 2 .idle }
      rco := { s.rco with queue := [] } } : State).completeAll (s.search.queue.flatMap (·.requesters)) .aborted

/-- The composer's job is abandoned with its requesters ABORTED (05 R80, R99). -/
def State.abortJob (s : State) : State :=
  match s.rco.job with
  | none => s
  | some j => (s.withJob none).completeAll j.requesters .aborted

/-- The scan in hand, then every waiting query, completed with ABORTED (08 R144). -/
def State.abortDirectory (s : State) : State :=
  let refs := (match s.dir.scan with
    | some c => if c.detached then [] else [c.query.ref]
    | none => []) ++ s.dir.queue.map (·.ref)
  ({ s with dir := { s.dir with queue := [], scan := none } } : State).completeAll refs .aborted

/-- A flush of the route cache (06 R113). -/
def State.flushCache (s : State) : State := { s with rcc := s.rcc.flush }

/-- All work in flight over the map ends with ABORTED (02 R25). -/
def State.abortWork (s : State) : State := s.abortSearch.abortJob.flushCache.abortDirectory

end Sys2Proof.Machine
end

