-- ==== Sys2Proof/Machine/Link.lean ====
section
/-! DEFINITION. The message link (11): reception, dispatch and transmission. -/

namespace Sys2Proof.Machine

/-! ## Reception (11 R182, R183) -/

/-- Judge a complete frame: accepted with a reply slot reserved, or discarded with OVERRUN set (11 R183). -/
def LinkState.accept (l : LinkState) (f : InFrame) : LinkState :=
  if l.inbound.length < Config.inboundCapacity ∧ l.slotsUsed < Config.replySlots then
    { l with inbound := l.inbound ++ [f], slotsUsed := l.slotsUsed + 1 }
  else { l with overrun := true }

/-- A byte in HEADER: after the second LENGTH byte a LENGTH above 1024 discards the frame, after TAG the hunter
goes on to BODY (11 R182). -/
def headerStep (got : List Byte) : Hunter :=
  if got.length = 2 ∧ Config.maxPayload < ofLe got then .hunting
  else if got.length = 4 then .body (ofLe (got.take 2)) (byteAt got 2) (byteAt got 3) []
  else .header got

/-- One byte arrives on RXD (11 R182). -/
def LinkState.receive (l : LinkState) (b : Byte) : LinkState :=
  match l.hunter with
  | .hunting => if b = 0x5A then { l with hunter := .header [], gap := 0 } else l
  | .header got => { l with hunter := headerStep (got ++ [b]), gap := 0 }
  | .body n cls tag got =>
    if got.length + 1 = n + 2 then
      let l' := { l with hunter := .hunting, gap := 0 }
      let payload := (got ++ [b]).take n
      if ofLe ((got ++ [b]).drop n) = (crc (checkedBytes n cls tag payload)).toNat then
        l'.accept { cls := cls, tag := tag, payload := payload }
      else l'
    else { l with hunter := .body n cls tag (got ++ [b]), gap := 0 }

/-- Bytes arrive one after another without a gap. -/
def LinkState.receiveAll (l : LinkState) (bytes : List Byte) : LinkState := bytes.foldl LinkState.receive l

/-- A gap of more than 2 ms discards the frame in hand (11 R182). -/
def LinkState.gapTimeout (l : LinkState) : LinkState := { l with hunter := .hunting, gap := 0 }

/-- LINK_BYTE_RECEIVED (11 R182). -/
def execLinkByteReceived (b : Byte) (s : State) : Host.Outcome State Fault Refusal :=
  whileRunning s fun s => s.onLink fun l => l.receive b

/-- FRAME_RECEIVED (11 R183): the frame's bytes pass the receive hunter (assumption 5). -/
def execFrameReceived (cls tag : Byte) (payload : List Byte) (check : BitVec 16) (s : State) :
    Host.Outcome State Fault Refusal :=
  whileRunning s fun s => s.onLink fun l => l.receiveAll (rawFrame cls tag payload check)

/-- RECEIVE_GAP_TIMEOUT (11 R182): in HUNTING there is no frame in hand and nothing happens. -/
def execReceiveGapTimeout (s : State) : Host.Outcome State Fault Refusal :=
  whileRunning s fun s => s.onLink LinkState.gapTimeout

/-! ## Dispatch (11 R185) -/

/-- Whether a CLASS is one of the request classes 01h..14h (11 R185). -/
def requestClass (cls : Byte) : Bool := decide (1 ≤ cls.toNat ∧ cls.toNat ≤ 0x14)

/-- The payload lengths the table allows for a class (11 R185). -/
def sizeAllowed (cls : Byte) (n : Nat) : Bool :=
  match cls.toNat with
  | 0x01 => n == 0
  | 0x02 => n == 1
  | 0x03 => n == 8
  | 0x04 => n == 1
  | 0x05 => n == 4
  | 0x06 => decide (n ≤ 1024)
  | 0x07 => n == 2
  | 0x08 => n == 3
  | 0x09 => n == 3
  | 0x0A => n == 12
  | 0x0B => n == 8
  | 0x0C => n == 38
  | 0x0D => n == 5
  | 0x0E => n == 1
  | 0x0F => decide (2 ≤ n) && (n - 2) % 14 == 0 && decide ((n - 2) / 14 ≤ 64)
  | 0x10 => n == 9
  | 0x11 => decide (3 ≤ n) && (n - 3) % 4 == 0 && decide ((n - 3) / 4 ≤ 64)
  | 0x12 => n == 1
  | 0x13 => n == 1
  | 0x14 => n == 1
  | _ => false

/-- The mode gate (02 R22). The load requests, SEGMENT_SET and LISTING_SET pass it and apply their own mode
rules. -/
def modeGate (m : Mode) (cls : Byte) : Bool :=
  match cls.toNat, m with
  | 0x02, .checking => false
  | 0x03, .loading => true
  | 0x03, _ => false
  | 0x0B, .loading | 0x0B, .checking => false
  | 0x0C, .loading | 0x0C, .checking => false
  | 0x0A, .checking => false
  | _, _ => true

/-- The frame the dispatcher takes next, and the link without it. It takes none after a RESET FULL (02 R38) and
none while a MODE_SET FROZEN waits for the settle steps in hand (02 R24). -/
def State.dispatchHead (s : State) : Option (InFrame × State) :=
  if s.mod.resetAsked || s.mod.freezing.isSome then none
  else
    match s.link.inbound with
    | [] => none
    | f :: rest => some (f, s.onLink fun l => { l with inbound := rest })

/-- The dispatcher takes the frame at the head of the inbound queue and makes the size test and the mode gate
before it hands the request to its owner (11 R185). `row` tells apart the two rows of the class RESET. When the
head is no frame of this row, there is nothing to take (assumption 1). -/
def State.dispatch (s : State) (cls : Byte) (row : List Byte → Bool) (owner : Byte → List Byte → State → State) :
    State :=
  match s.dispatchHead with
  | none => s
  | some (f, t) =>
    if f.cls ≠ cls ∨ row f.payload = false then s
    else if sizeAllowed cls f.payload.length = false then t.refuse cls f.tag .badArgument
    else if modeGate s.mod.mode cls = false then t.refuse cls f.tag .wrongMode
    else owner f.tag f.payload t

/-- Every payload belongs to the row. -/
def anyPayload : List Byte → Bool := fun _ => true

/-- The reply to a frame of unknown class: class 80h, the result UNKNOWN_CLASS and the CLASS byte (11 R185). -/
def State.replyUnknown (s : State) (f : InFrame) : State :=
  s.queueReply { cls := 0x80, tag := f.tag, payload := [ResultCode.unknownClass.code, f.cls]
                 release := none, resets := false }

/-- UNKNOWN_CLASS (11 R185). -/
def execUnknownClass (s : State) : Host.Outcome State Fault Refusal :=
  whileRunning s fun s =>
    match s.dispatchHead with
    | none => s
    | some (f, t) => if requestClass f.cls then s else t.replyUnknown f

/-! ## Transmission (11 R187) -/

/-- A queue's head is blocked when it is a released result of a screen of which the other queue holds a result
released earlier (11 R187). -/
def blocked (head : OutItem) (other : List OutItem) : Bool :=
  match head.release with
  | none => false
  | some (i, n) =>
    other.any fun o => match o.release with
      | none => false
      | some (j, m) => decide (j = i ∧ m < n)

/-- The head of a queue that may be sent: present and not blocked (11 R187). -/
def sendable (queue other : List OutItem) : Option (OutItem × List OutItem) :=
  match queue with
  | [] => none
  | h :: t => if blocked h other then none else some (h, t)

/-- Begin to send a queue's head. -/
def LinkState.send (l : LinkState) (q : OutQueue) (h : OutItem) (t : List OutItem) : LinkState :=
  let l' := { l with sending := some { queue := q, bytes := h.bytes, resets := h.resets }, lastUsed := q }
  match q with
  | .replies => { l' with replies := t }
  | .reports => { l' with reports := t }

/-- A STARTED report: no other item has its class (11 R188). -/
def OutItem.isStarted (i : OutItem) : Bool := decide (i.cls = 0x40)

/-- The transmit arbiter (11 R187). STARTED is the first message sent after a reset, so a reply that has come to wait
beside it does not go before it (02 R37, assumption 30). -/
def LinkState.arbitrate (l : LinkState) : LinkState :=
  match l.sending with
  | some _ => l
  | none =>
    match sendable l.replies l.reports, sendable l.reports l.replies with
    | none, none => l
    | some (h, t), none => l.send .replies h t
    | none, some (h, t) => l.send .reports h t
    | some (hr, tr), some (hp, tp) =>
      if l.lastUsed = .reports ∧ hp.isStarted = false then l.send .replies hr tr else l.send .reports hp tp

/-- TRANSMIT_START (11 R187). -/
def execTransmitStart (s : State) : Host.Outcome State Fault Refusal :=
  whileRunning s fun s => s.onLink LinkState.arbitrate

/-- The end of a transmission frees the item's slot (11 R183, R186). -/
def LinkState.sent (l : LinkState) (t : Sending) : LinkState :=
  match t.queue with
  | .replies => { l with sending := none, slotsUsed := l.slotsUsed - 1 }
  | .reports => { l with sending := none }

/-- TRANSMIT_COMPLETE (11 R183). When the reply to a RESET FULL has been sent, the reset takes effect: as the
release of the pin, but the straps are not read again and STARTED carries cause 1 (02 R38). -/
def execTransmitComplete (s : State) : Host.Outcome State Fault Refusal :=
  whileRunning s fun s =>
    match s.link.sending with
    | none => s
    | some t =>
      if t.resets then { State.started s.link.rate 1 with pending := s.pending }
      else s.onLink fun l => l.sent t

end Sys2Proof.Machine
end

