-- ==== Sys2Proof/Machine/Sessions.lean ====
section
/-! DEFINITION. Screen sessions (09): screen-bound requests, outstanding lists, expiry, and hotspot actions. -/

namespace Sys2Proof.Machine

/-! ## Dispatch of route and directory requests -/

/-- The key of a route request (09 R153). -/
def Screen.routeKey (c : Screen) (origin : Option (BitVec 12)) (kind : DestKind) (number : BitVec 16)
    (profile : Option (Fin 8)) : Key :=
  { origin := origin.getD c.origin, kind := kind, number := number, profile := profile.getD c.profile }

/-- Dispatch of a route request that has joined: a HIDDEN listing is DONE with NOT_FOUND, a hit is finalised,
a miss joins the search queue (09 R153, 07 R126). No release is made here. -/
def State.dispatchRoute (s : State) (ref : Ref) (k : Key) (explicitOrigin : Bool) : State :=
  if k.kind = .listing ∧ (s.listing k.number.toNat).status = .hidden then s.mark ref (.bare .notFound)
  else
    let r := s.rcc.lookup s.map.generation k
    let t : State := { s with rcc := r.1 }
    match r.2 with
    | some route => t.mark ref (.route (t.finalise ref.screen explicitOrigin true route))
    | none => t.joinSearch k ref

/-- Dispatch of a directory query that has joined: BAD_FILTER at once, or into the query queue (08 R132, R133). -/
def State.dispatchQuery (s : State) (q : Query) : State :=
  if termsValid q.terms then s.joinDirectory q else s.mark q.ref (.bare .badFilter)

/-- The destination number lies inside the table of its kind (09 R153, R157). -/
def State.destinationExists (s : State) (kind : DestKind) (number : Nat) : Bool :=
  match kind with
  | .listing => decide (number < s.listingCount)
  | .waypoint => decide (number < s.waypointCount)

/-- The screen test: the number is 0..3 and the screen enabled (09 R152). -/
def State.screenTest (s : State) (n : Nat) : Option (Fin 4) :=
  match fourOf n with
  | none => none
  | some i => if s.screens[i.val].enabled then some i else none

/-- Make the session of a screen ACTIVE (09 R148). -/
def State.touchSession (s : State) (i : Fin 4) : State := s.onScreen i Screen.touch

/-! ## ROUTE_ASK (09 R153) -/

/-- A destination kind code (09 section 9.5). -/
def destKindOf (n : Nat) : Option DestKind :=
  match n with
  | 0 => some .listing
  | 1 => some .waypoint
  | _ => none

/-- A ROUTE_ASK that passes every test joins and is dispatched (09 R153). -/
def State.joinRoute (s : State) (i : Fin 4) (tag : Byte) (k : Key) (explicitOrigin : Bool) : State :=
  ((((s.join i (.host tag) (.route k explicitOrigin) none).dispatchRoute (s.nextRef i) k explicitOrigin)).release
    i).serve

/-- The tests of a ROUTE_ASK after the screen test, in order (09 R153). -/
def State.askRoute (s : State) (i : Fin 4) (tag : Byte) (p : List Byte) : State :=
  let options := byteAt p 4
  let wantsProfile := options.getLsbD 0
  let wantsOrigin := options.getLsbD 1
  match destKindOf (field p 1 1) with
  | none => s.refuse 0x0B tag .badArgument
  | some kind =>
    if s.destinationExists kind (field p 2 2) = false then s.refuse 0x0B tag .badArgument
    else if wantsProfile ∧ 8 ≤ field p 5 1 then s.refuse 0x0B tag .badArgument
    else if wantsOrigin ∧ s.waypointCount ≤ field p 6 2 then s.refuse 0x0B tag .badArgument
    else if s.hasRoom i = false then s.refuse 0x0B tag .busy
    else
      s.joinRoute i tag
        (s.screens[i.val].routeKey (if wantsOrigin then some (BitVec.ofNat 12 (field p 6 2)) else none) kind
          (BitVec.ofNat 16 (field p 2 2)) (if wantsProfile then some (Fin.ofNat 8 (field p 5 1)) else none))
        wantsOrigin

/-- A request bound to a screen: the screen test, then the session, then its own tests (09 R152). -/
def State.screenBound (s : State) (cls tag : Byte) (p : List Byte) (body : State → Fin 4 → State) : State :=
  match s.screenTest (field p 0 1) with
  | none => s.refuse cls tag .badArgument
  | some i => body (s.touchSession i) i

/-- ROUTE_ASK (09 R152, R153). -/
def execRouteAsk (s : State) : Host.Outcome State Fault Refusal :=
  whileRunning s fun s =>
    s.dispatch 0x0B anyPayload fun tag p s => s.screenBound 0x0B tag p fun s i => s.askRoute i tag p

/-! ## DIRECTORY_ASK (08 R132) -/

/-- A used prefix symbol is valid (08 R132). -/
def symbolValid (b : Byte) : Bool := decide (1 ≤ b.toNat ∧ b.toNat ≤ 40)

/-- The terms a DIRECTORY_ASK is judged by: the screen's when the options bit is set, else the carried ones
(08 R132). -/
def State.askedTerms (s : State) (i : Fin 4) (p : List Byte) : Terms :=
  if (byteAt p 1).getLsbD 0 then s.screens[i.val].terms else termsOfBytes (p.drop 22)

/-- The tests of a DIRECTORY_ASK after the screen test, in order (08 R132). -/
def State.askDirectory (s : State) (i : Fin 4) (tag : Byte) (p : List Byte) : State :=
  let pfx := (p.drop 3).take (field p 2 1)
  if 16 < field p 2 1 then s.refuse 0x0C tag .badArgument
  else if pfx.all symbolValid = false then s.refuse 0x0C tag .badArgument
  else if ¬ (1 ≤ field p 21 1 ∧ field p 21 1 ≤ 16) then s.refuse 0x0C tag .badArgument
  else if s.hasRoom i = false then s.refuse 0x0C tag .busy
  else
    let offset := BitVec.ofNat 16 (field p 19 2)
    (((s.join i (.host tag) (.directory offset) none).dispatchQuery
      { ref := s.nextRef i, pfx := pfx, terms := s.askedTerms i p, offset := offset
        maximum := field p 21 1 }).release i).serve

/-- DIRECTORY_ASK (08 R132). -/
def execDirectoryAsk (s : State) : Host.Outcome State Fault Refusal :=
  whileRunning s fun s =>
    s.dispatch 0x0C anyPayload fun tag p s => s.screenBound 0x0C tag p fun s i => s.askDirectory i tag p

/-! ## FENCE (09 R154) -/

/-- FENCE (09 R154): DONE from the moment it joins. -/
def execFence (s : State) : Host.Outcome State Fault Refusal :=
  whileRunning s fun s =>
    s.dispatch 0x0D anyPayload fun tag p s => s.screenBound 0x0D tag p fun s i =>
      if s.hasRoom i = false then s.refuse 0x0D tag .busy
      else (s.join i (.host tag) (.fence (BitVec.ofNat 32 (field p 1 4))) (some (.bare .ok))).release i

/-! ## CANCEL (09 R155) -/

/-- An entry a CANCEL reaches: not DONE, and panel-originated where only those are meant. -/
def Entry.cancellable (panelOnly : Bool) (e : Entry) : Bool :=
  !e.done && (!panelOnly || (match e.asker with | .panel _ => true | .host _ => false))

/-- The references of the entries a cancellation reaches. -/
def State.cancelRefs (s : State) (i : Fin 4) (panelOnly : Bool) : List Ref :=
  (s.screens[i.val].outstanding.filter (Entry.cancellable panelOnly)).map fun e => { screen := i, id := e.id }

/-- Make the reached entries DONE with CANCELLED, detach them from their work, and release the list
(09 R155, R149, R160). -/
def State.cancelEntries (s : State) (i : Fin 4) (panelOnly : Bool) : State :=
  ((s.onScreen i fun c =>
    { c with outstanding := c.outstanding.map fun e =>
        if e.cancellable panelOnly then { e with result := some (.bare .cancelled) } else e }).detach
    (s.cancelRefs i panelOnly)).release i

/-- CANCEL (09 R155). DESIGN CHOICE: the results that freed engines complete in it on other screens are queued behind this
screen's releases and ahead of the CANCEL reply (assumption 34). -/
def execCancel (s : State) : Host.Outcome State Fault Refusal :=
  whileRunning s fun s =>
    s.dispatch 0x0E anyPayload fun tag p s => s.screenBound 0x0E tag p fun s i =>
      let n := (s.cancelRefs i false).length
      (s.cancelEntries i false).serve.reply 0x0E tag
        [ResultCode.ok.code, BitVec.ofNat 8 i.val, BitVec.ofNat 8 n]

/-! ## SESSION_EXPIRY (09 R149) -/

/-- The expiry of a screen's session (09 R149). DESIGN CHOICE: the results that freed engines complete in it on other screens
are queued behind this screen's releases and ahead of SESSION_ENDED (assumption 34). -/
def State.expire (s : State) (i : Fin 4) : State :=
  (((s.onScreen i Screen.endSession).cancelEntries i true).serve).offerReport .session 0x45
    [BitVec.ofNat 8 i.val]

/-- SESSION_EXPIRY (09 R149): in ATTRACT there is no timer that could reach its timeout. -/
def execSessionExpiry (i : Fin 4) (s : State) : Host.Outcome State Fault Refusal :=
  whileRunning s fun s => if s.screens[i.val].active then s.expire i else s

/-! ## SCREEN_SET (09 R147) -/

/-- The stored idle timeout, clamped to 10..600 s (09 R147). -/
def storedTimeout (n : Nat) : Nat := min (max n 10) 600

/-- The tests of a SCREEN_SET, in order, on its screen (09 R147). -/
def State.screenSetTest (s : State) (i : Fin 4) (p : List Byte) : Option ResultCode :=
  if 1 < field p 1 1 then some .badArgument
  else if 4096 ≤ field p 2 2 then some .badArgument
  else if 8 ≤ field p 5 1 then some .badArgument
  else if ¬ (1 ≤ field p 6 2 ∧ field p 6 2 ≤ 4096 ∧ 1 ≤ field p 8 2 ∧ field p 8 2 ≤ 4096) then some .badArgument
  else if s.mod.mode.serving ∧ field p 1 1 = 1 ∧ s.waypointCount ≤ field p 2 2 then some .badArgument
  else if s.screens[i.val].outstanding ≠ [] then some .busy
  else none

/-- The screen with its seven configuration fields replaced (09 R147). -/
def Screen.configure (c : Screen) (p : List Byte) : Screen :=
  { c with
    enabled := field p 1 1 == 1
    origin := BitVec.ofNat 12 (field p 2 2)
    heading := byteAt p 4
    profile := Fin.ofNat 8 (field p 5 1)
    width := field p 6 2
    height := field p 8 2
    timeout := storedTimeout (field p 10 2) }

/-- A running idle timer has reached the timeout: ten times as many tenths of a second (09 R149). -/
def Screen.timedOut (c : Screen) : Bool :=
  c.active && (match c.idle with | some ms => decide (c.timeout * 1000 ≤ ms) | none => false)

/-- Replace a screen's configuration: a disabled screen's session ends without a report, a timeout already
passed expires the session at once (09 R147). -/
def State.configureScreen (s : State) (i : Fin 4) (p : List Byte) : State :=
  let was := s.screens[i.val].enabled
  let t := s.onScreen i fun c => c.configure p
  if was ∧ field p 1 1 = 0 then t.onScreen i Screen.endSession
  else if t.screens[i.val].timedOut then t.expire i
  else t

/-- SCREEN_SET (09 R147). -/
def execScreenSet (s : State) : Host.Outcome State Fault Refusal :=
  whileRunning s fun s =>
    s.dispatch 0x0A anyPayload fun tag p s =>
      match fourOf (field p 0 1) with
      | none => s.refuse 0x0A tag .badArgument
      | some i =>
        match s.screenSetTest i p with
        | some r => s.refuse 0x0A tag r
        | none =>
          (s.configureScreen i p).reply 0x0A tag
            ([ResultCode.ok.code, BitVec.ofNat 8 i.val] ++ le 2 (storedTimeout (field p 10 2)))

/-! ## Hotspot actions (09 R156 to R161) -/

/-- What the SELECTION report learns from SES (09 section 9.8). -/
structure ActionOutcome where
  state : State
  droppedBusy : Bool
  textFull : Bool

/-- An action that creates no request and sets no flag. -/
def plainOutcome (s : State) : ActionOutcome := { state := s, droppedBusy := false, textFull := false }

/-- Create a panel-originated entry: it reserves a report slot, takes the panel sequence number and joins the
list (09 R156, R161, 11 R186). -/
def State.createPanelEntry (s : State) (i : Fin 4) (ask : Ask) : State :=
  ((s.onLink fun l => { l with reserved := l.reserved + 1 }).join i (.panel s.screens[i.val].seq) ask none).onScreen i
    fun c => { c with seq := c.seq + 1 }

/-- Create a panel-originated request where the mode allows one, or decide DROPPED_BUSY (09 R156). -/
def State.panelRequest (s : State) (i : Fin 4) (ask : Ask) (dispatch : State → Ref → State) : ActionOutcome :=
  if s.mod.mode.serving = false then plainOutcome s
  else if s.hasRoom i = false ∨ s.link.reportSlotFree = false then
    { state := s, droppedBusy := true, textFull := false }
  else plainOutcome (dispatch (s.createPanelEntry i ask) (s.nextRef i))

/-- A LISTING or WAYPOINT action (09 R157). -/
def State.panelRoute (s : State) (i : Fin 4) (kind : DestKind) (number : BitVec 16) : ActionOutcome :=
  let k := s.screens[i.val].routeKey none kind number none
  s.panelRequest i (.route k false) fun s ref =>
    if s.destinationExists kind number.toNat then s.dispatchRoute ref k false
    else s.mark ref (.bare .badArgument)

/-- The directory query of an edit: the text and terms after it, offset 0, maximum 8 (08 R142). -/
def State.panelQuery (s : State) (i : Fin 4) : ActionOutcome :=
  let c := s.screens[i.val]
  s.panelRequest i (.directory 0) fun s ref =>
    s.dispatchQuery { ref := ref, pfx := c.text, terms := c.terms, offset := 0, maximum := 8 }

/-- A text edit and its query (09 R158). -/
def State.editText (s : State) (i : Fin 4) (text : List Byte) : ActionOutcome :=
  (s.onScreen i fun c => { c with text := text }).panelQuery i

/-- A term edit and its query, where it changes the terms; a slot above 3 acts as PLAIN (09 R159). -/
def State.editTerm (s : State) (i : Fin 4) (slot : Byte) (term : Option Term) : ActionOutcome :=
  match fourOf slot.toNat with
  | none => plainOutcome s
  | some j =>
    if s.screens[i.val].terms[j.val] = term then plainOutcome s
    else (s.onScreen i fun c => { c with terms := c.terms.set j.val term }).panelQuery i

/-- The action of a selection on an enabled screen (09 section 9.8). -/
def State.doAction (s : State) (i : Fin 4) (a : Action) : ActionOutcome :=
  let text := s.screens[i.val].text
  match a with
  | .plain => plainOutcome s
  | .listing n => s.panelRoute i .listing n
  | .waypoint n => s.panelRoute i .waypoint n
  | .key b =>
    if symbolValid b = false then plainOutcome s
    else if text.length < Config.textCapacity then s.editText i (text ++ [b])
    else { state := s, droppedBusy := false, textFull := true }
  | .backspace => if text = [] then plainOutcome s else s.editText i text.dropLast
  | .clearText => if text = [] then plainOutcome s else s.editText i []
  | .filter slot term => s.editTerm i slot term
  | .unfilter slot => s.editTerm i slot none
  | .cancel => plainOutcome (s.cancelEntries i true)

/-- SES takes a selection: the session becomes ACTIVE, then the action is carried out; on a screen that is not
enabled every action is PLAIN (09 R156). -/
def State.carryOut (s : State) (i : Fin 4) (a : Action) : ActionOutcome :=
  if s.screens[i.val].enabled then (s.touchSession i).doAction i a else plainOutcome s

/-- A selection: its action is carried out, the SELECTION report is offered, and only then is the screen's DONE
head released (09 R156, 10 R176). DESIGN CHOICE: the results that freed engines complete in it on other screens are queued
behind the SELECTION report (assumption 34). -/
def State.select (s : State) (i : Fin 4) (hotspot : Nat) (pageNumber : Byte) (a : Action) : State :=
  let o := s.carryOut i a
  ((o.state.offerReport .selection 0x42
    [BitVec.ofNat 8 i.val, BitVec.ofNat 8 hotspot, pageNumber, a.code, selectionFlags o.droppedBusy o.textFull]).release
    i).serve

end Sys2Proof.Machine
end

