-- ==== Sys2Proof/Machine/Touch.lean ====
section
/-! DEFINITION. The touch panel front end (10): panel states, frames, strengths, peaks, tracks, contacts, selections,
drift and baseline capture. -/

namespace Sys2Proof.Machine

/-! ## Strength (10 R168) -/

/-- The signal: the sample less the baseline, or 0 (10 R168). -/
def signalOf (raw base : Sample) : Nat := raw.toNat - base.toNat

/-- The strength: the curve entry at the signal divided by 16 (10 R168). -/
def strengthOf (curve : Vector Byte 256) (raw base : Sample) : Nat :=
  (curve[(Fin.ofNat 256 (signalOf raw base / 16)).val]).toNat

/-- The strengths of a frame (10 R168). -/
def strengths (curve : Vector Byte 256) (samples base : Vector Sample 960) : Vector Nat 960 :=
  .ofFn fun i => strengthOf curve samples[i.val] base[i.val]

/-! ## Peaks and centroids (10 R169, R170) -/

/-- A cell (column, row) lies in the grid (10 R167). -/
def inGrid (c r : Nat) : Bool := decide (c < Config.gridColumns ∧ r < Config.gridRows)

/-- The strength at a cell (10 R167: cell index 40r + c). -/
def strengthAt (m : Vector Nat 960) (c r : Nat) : Nat := m.toArray.getD (Config.gridColumns * r + c) 0

/-- The 3 × 3 window of a cell, clipped at the grid edges, in scan order (10 R169). -/
def window (c r : Nat) : List (Nat × Nat) :=
  ([(c, r), (c + 1, r), (c + 2, r), (c, r + 1), (c + 1, r + 1), (c + 2, r + 1), (c, r + 2), (c + 1, r + 2),
    (c + 2, r + 2)].filter fun x => decide (1 ≤ x.1 ∧ 1 ≤ x.2) && inGrid (x.1 - 1) (x.2 - 1)).map
    fun x => (x.1 - 1, x.2 - 1)

/-- One cell comes before another in row-major scan order (10 R169). -/
def scanBefore (a b : Nat × Nat) : Bool := decide (a.2 < b.2) || (a.2 == b.2 && decide (a.1 < b.1))

/-- Whether a cell is a peak (10 R169). -/
def isPeak (m : Vector Nat 960) (low : Nat) (c r : Nat) : Bool :=
  decide (low ≤ strengthAt m c r) && (window c r).all fun n =>
    decide (strengthAt m n.1 n.2 ≤ strengthAt m c r)
      && !(scanBefore n (c, r) && strengthAt m n.1 n.2 == strengthAt m c r)

/-- The weight of a cell of a window (10 R170). -/
def cellWeight (low s : Nat) : Nat := if low ≤ s then s - low + 1 else 0

/-- A centroid coordinate in sixteenths of a cell: the weighted mean, halves up, plus 8 (10 R170). -/
def centroid (weighted total : Nat) : Nat := (2 * (16 * weighted) + total) / (2 * total) + 8

/-- A pixel coordinate from a grid coordinate, lowered to the last pixel (10 R170). -/
def pixelOf (position size span : Nat) : Nat := min (position * size / span) (size - 1)

/-- The position in pixels of a peak (10 R170). -/
def peakPosition (m : Vector Nat 960) (low width height : Nat) (c r : Nat) : Nat × Nat :=
  let w := (window c r).map fun n => (n, cellWeight low (strengthAt m n.1 n.2))
  let total := (w.map (·.2)).sum
  let columns := (w.map fun x => x.2 * x.1.1).sum
  let rows := (w.map fun x => x.2 * x.1.2).sum
  (pixelOf (centroid columns total) width 640, pixelOf (centroid rows total) height 384)

/-- A peak: its cell, its strength and its position in pixels. -/
structure Peak where
  cell : Nat × Nat
  strength : Nat
  position : Nat × Nat
  deriving DecidableEq, Repr

/-- The peaks of a frame in scan order (10 R169). -/
def peaksOf (m : Vector Nat 960) (low width height : Nat) : List Peak :=
  ((List.range Config.cellCount).map fun i => (i % Config.gridColumns, i / Config.gridColumns)).filterMap fun x =>
    if isPeak m low x.1 x.2 then
      some { cell := x, strength := strengthAt m x.1 x.2, position := peakPosition m low width height x.1 x.2 }
    else none

/-! ## Matching (10 R172) -/

/-- The absolute difference of two coordinates. -/
def apart (a b : Nat) : Nat := (a - b) + (b - a)

/-- The Chebyshev distance of two cells (10 R172). -/
def chebyshev (a b : Nat × Nat) : Nat := max (apart a.1 b.1) (apart a.2 b.2)

/-- The nearest of the unclaimed peaks within 3 cells, the first in scan order among equals (10 R172). -/
def nearest (cell : Nat × Nat) : List Peak → Option Peak
  | [] => none
  | p :: ps =>
    let best := nearest cell ps
    if chebyshev cell p.cell ≤ 3 then
      match best with
      | none => some p
      | some q => if chebyshev cell p.cell ≤ chebyshev cell q.cell then some p else some q
    else best

/-- What a frame's matching gives a track: nothing, a peak it matched, or a peak that opened it. -/
inductive Claim where
  | nothing
  | matched (p : Peak)
  | opened (p : Peak)
  deriving DecidableEq, Repr

/-- Each track that is not FREE claims its peak, in index order; answers the claims and the peaks left
(10 R172). -/
def claimPeaks : List Track → List Peak → List Claim × List Peak
  | [], ps => ([], ps)
  | t :: ts, ps =>
    if t.state = .free then
      let r := claimPeaks ts ps
      (.nothing :: r.1, r.2)
    else
      match nearest t.cell ps with
      | none =>
        let r := claimPeaks ts ps
        (.nothing :: r.1, r.2)
      | some p =>
        let r := claimPeaks ts (ps.filter fun q => decide (q.cell ≠ p.cell))
        (.matched p :: r.1, r.2)

/-- Each peak left opens the lowest-numbered FREE track; answers the claims and the peaks for which none
remained (10 R172). -/
def openTracks : List Track → List Claim → List Peak → List Claim × List Peak
  | t :: ts, c :: cs, ps =>
    if t.state = .free then
      match ps with
      | [] => (c :: cs, [])
      | p :: ps' =>
        let r := openTracks ts cs ps'
        (.opened p :: r.1, r.2)
    else
      let r := openTracks ts cs ps
      (c :: r.1, r.2)
  | _, cs, ps => (cs, ps)

/-- The claims of a frame, and whether a peak found no FREE track (10 R172). -/
def matchPeaks (ts : List Track) (ps : List Peak) : List Claim × Bool :=
  let a := claimPeaks ts ps
  let b := openTracks ts a.1 a.2
  (b.1, !b.2.isEmpty)

/-! ## Contact reports (10 R174) -/

/-- CONTACT kinds in code order (11 R188). -/
inductive ContactKind where
  | down | move | up
  deriving DecidableEq, Repr

/-- CONTACT kind codes (11 R188). -/
def ContactKind.code : ContactKind → Byte
  | .down => 0 | .move => 1 | .up => 2

/-- Offer a CONTACT report (10 R174). -/
def State.reportContact (s : State) (p : Fin 4) (track : Nat) (kind : ContactKind) (cancelled : Bool)
    (at_ : Nat × Nat) : State :=
  s.offerReport .contact 0x41
    ([BitVec.ofNat 8 p.val, BitVec.ofNat 8 track, kind.code, flagsByte [cancelled]] ++ le 2 at_.1 ++ le 2 at_.2)

/-- Offer a PANEL_STATE report (10 R163). -/
def State.reportPanelState (s : State) (p : Fin 4) (m : PanelMode) : State :=
  s.offerReport .panel 0x46 [BitVec.ofNat 8 p.val, m.code]

/-! ## Hit test (10 R175) -/

/-- Whether a hotspot's rectangle holds a point (10 R175). -/
def Hotspot.contains (h : Hotspot) (x : Nat × Nat) : Bool :=
  decide (h.x0.toNat ≤ x.1 ∧ x.1 ≤ h.x1.toNat ∧ h.y0.toNat ≤ x.2 ∧ x.2 ≤ h.y1.toNat)

/-- The lowest-numbered hotspot whose rectangle holds a point, or none (10 R175). -/
def hitTest (page : List Hotspot) (x : Nat × Nat) : Option Nat := page.findIdx? fun h => h.contains x

/-! ## Tracks (10 R173, R174, R176) -/

/-- The state with one track of a panel changed. -/
def State.onTrack (s : State) (p : Fin 4) (i : Fin 5) (f : Track → Track) : State :=
  s.onPanel p fun q => { q with tracks := q.tracks.set i.val (f q.tracks[i.val]) }

/-- A track of a panel. -/
def State.track (s : State) (p : Fin 4) (i : Fin 5) : Track := s.panels[p.val].tracks[i.val]

/-- A track of the panel holds the primary flag (10 R171). -/
def Panel.hasPrimary (q : Panel) : Bool := q.tracks.toList.any (·.primary)

/-- The strength of a peak is at or above the high threshold (10 R172). -/
def Peak.strong (k : Peak) (f : Processing) : Bool := decide (f.config.high.toNat ≤ k.strength)

/-- A track opened by a peak (10 R172). DESIGN CHOICE: its reported position and down page, which it has only from its DOWN
on, are 0 until then (assumption 35). -/
def openedTrack (f : Processing) (k : Peak) : Track :=
  { Track.free with
    state := .pending, cell := k.cell, position := k.position, lowCount := 1
    highCount := (k.strong f).toNat }

/-- A track that has matched a peak: its cell and position follow it (10 R172). -/
def Track.follow (t : Track) (k : Peak) : Track := { t with cell := k.cell, position := k.position, missing := 0 }

/-- An older PENDING track that has matched: both counts rise, stopping at 16 (10 R173). -/
def Track.countMatch (t : Track) (f : Processing) (k : Peak) : Track :=
  { t.follow k with
    lowCount := min (t.lowCount + 1) 16
    highCount := min (t.highCount + (k.strong f).toNat) 16 }

/-- A PENDING track becomes DOWN (10 R174). -/
def State.goDown (s : State) (p : Fin 4) (i : Fin 5) (f : Processing) : State :=
  let t := s.track p i
  let primary := !s.panels[p.val].hasPrimary
  ((s.onTrack p i fun t =>
      { t with state := .down, reported := t.position, missing := 0, hotspot := hitTest f.page t.position
               page := f.pageNumber, primary := primary }).reportContact p i.val .down false t.position).touchSession p

/-- A PENDING track that has been counted is tested at once (10 R173). -/
def State.testPending (s : State) (p : Fin 4) (i : Fin 5) (f : Processing) : State :=
  let t := s.track p i
  if f.config.nLo ≤ t.lowCount ∧ f.config.nHi ≤ t.highCount then s.goDown p i f
  else if 16 ≤ t.lowCount then s.onTrack p i fun t => { t with state := .suppressed }
  else s

/-- MOVE: the position differs from the reported one and either difference reaches the move threshold
(10 R174). -/
def moved (t : Track) (threshold : Nat) : Bool :=
  decide (t.position ≠ t.reported)
    && (decide (threshold ≤ apart t.position.1 t.reported.1) || decide (threshold ≤ apart t.position.2 t.reported.2))

/-- A DOWN track that has matched is tested for MOVE (10 R174). -/
def State.testMove (s : State) (p : Fin 4) (i : Fin 5) (f : Processing) : State :=
  let t := s.track p i
  if moved t f.config.move.toNat then
    (s.onTrack p i fun t => { t with reported := t.position }).reportContact p i.val .move false t.position
  else s

/-- The hotspot a released primary track selects, if any (10 R176). -/
def selected (f : Processing) (t : Track) : Option (Nat × Hotspot) :=
  match t.hotspot with
  | none => none
  | some h =>
    if t.primary ∧ hitTest f.page t.position = some h ∧ t.page = f.pageNumber then
      f.page[h]?.map fun x => (h, x)
    else none

/-- UP: the report, the selection a primary track forms, and the track FREE (10 R174, R176). -/
def State.goUp (s : State) (p : Fin 4) (i : Fin 5) (f : Processing) : State :=
  let t := s.track p i
  let u := s.reportContact p i.val .up false t.position
  let v := match selected f t with
    | none => u
    | some (h, x) => u.select p h f.pageNumber x.action
  v.onTrack p i fun _ => .free

/-- One track brought forward by its state and its claim (10 R173). -/
def State.advanceTrack (s : State) (p : Fin 4) (f : Processing) (i : Fin 5) (c : Claim) : State :=
  match c, (s.track p i).state with
  | .opened k, _ => (s.onTrack p i fun _ => openedTrack f k).testPending p i f
  | .matched k, .pending => (s.onTrack p i fun t => t.countMatch f k).testPending p i f
  | .matched k, .down => (s.onTrack p i fun t => t.follow k).testMove p i f
  | .matched k, .suppressed => s.onTrack p i fun t => t.follow k
  | .nothing, .pending => s.onTrack p i fun _ => .free
  | .nothing, .suppressed => s.onTrack p i fun _ => .free
  | .nothing, .down =>
    if (s.track p i).missing + 1 < 2 then s.onTrack p i fun t => { t with missing := t.missing + 1 }
    else s.goUp p i f
  | .nothing, .free => s
  | .matched _, .free => s

/-- The five tracks in index order. -/
def fiveTracks : List (Fin 5) := [0, 1, 2, 3, 4]

/-- All tracks brought forward, in index order (10 R173). -/
def State.advanceTracks (s : State) (p : Fin 4) (f : Processing) (cs : List Claim) : State :=
  (fiveTracks.zip cs).foldl (fun s x => s.advanceTrack p f x.1 x.2) s

/-! ## Cancelled tracks (10 R177) -/

/-- A DOWN track reports UP with CANCELLED; every track becomes FREE (10 R177). -/
def State.cancelTrack (s : State) (p : Fin 4) (i : Fin 5) : State :=
  let t := s.track p i
  (if t.state = .down then s.reportContact p i.val .up true t.position else s).onTrack p i fun _ => .free

/-- Cancel a panel's tracks in index order (10 R177). -/
def State.cancelTracks (s : State) (p : Fin 4) : State := fiveTracks.foldl (fun s i => s.cancelTrack p i) s

/-- Every track FREE without a report (02 R39, 10 R177). -/
def Panel.freeTracks (q : Panel) : Panel := { q with tracks := .replicate 5 .free }

/-! ## The frame buffer (10 R165, R167) -/

/-- Answer a PANEL_INJECT (10 R167, 11 R192). -/
def State.answerInject (s : State) (p : Fin 4) (tag : Option Byte) (r : ResultCode) : State :=
  match tag with
  | none => s
  | some tag => s.reply 0x11 tag [r.code, BitVec.ofNat 8 p.val]

/-- The tag of the injected frame that waits in the buffer. -/
def Panel.bufferedTag (q : Panel) : Option Byte := q.buffer.bind (·.inject)

/-- A good frame enters the buffer; an injected frame it replaces is answered DISCARDED (10 R165, R167). -/
def State.bufferFrame (s : State) (p : Fin 4) (f : PanelFrame) : State :=
  (s.answerInject p s.panels[p.val].bufferedTag .discarded).onPanel p fun q => { q with buffer := some f }

/-- The buffer is emptied; an injected frame that waited there is answered DISCARDED (10 R164, R166, R167). -/
def State.emptyBuffer (s : State) (p : Fin 4) : State :=
  (s.answerInject p s.panels[p.val].bufferedTag .discarded).onPanel p fun q => { q with buffer := none }

/-- The frame in processing loses its part in the panel's work (assumption 9). -/
def Panel.staleFrame (q : Panel) : Panel :=
  { q with processing := q.processing.map fun f => { f with role := .stale } }

/-- The frame timer as it starts: it runs in SENSOR source only (10 R166). -/
def Panel.startTimer (q : Panel) : Option Nat := if q.config.source = .sensor then some 0 else none

/-! ## PANEL_FRAME_RECEIVED (10 R165) -/

/-- The samples of a good frame as its 960 cells. -/
def frameOf (samples : List Sample) : Vector Sample 960 := .ofFn fun i => samples.getD i.val 0

/-- PANEL_FRAME_RECEIVED (10 R165): ignored in OFF and in INJECTED source. -/
def execPanelFrameReceived (p : Fin 4) (samples : List Sample) (s : State) : Host.Outcome State Fault Refusal :=
  whileRunning s fun s =>
    let q := s.panels[p.val]
    if q.state = .off ∨ q.config.source = .injected then s
    else if samples.length ≠ Config.cellCount then s.onPanel p fun q => { q with badFrame := true }
    else s.bufferFrame p { samples := frameOf samples, inject := none }

/-! ## FRAME_PROCESSING_START (10 R165) -/

/-- The frame with all that its processing uses throughout (10 R165). -/
def processingOf (q : Panel) (c : Screen) (f : PanelFrame) : Processing :=
  { frame := f, role := if q.state = .capturing then .capture else .detect, config := q.config, curve := q.curve
    baseline := q.baseline, page := q.page, pageNumber := q.pageNumber, width := c.width, height := c.height
    driftCancelled := false }

/-- The panel takes its buffered frame (10 R165, R166): from WAITING or FAULT it goes to RUNNING and reports
so before anything of the frame. -/
def State.takeFrame (s : State) (p : Fin 4) : State :=
  let q := s.panels[p.val]
  match q.processing, q.buffer with
  | none, some f =>
    if q.state = .off then s
    else
      let t := s.onPanel p fun q =>
        { q with
          buffer := none, processing := some (processingOf q s.screens[p.val] f), timer := q.startTimer
          state := if q.state = .capturing then .capturing else .running }
      if q.state = .waiting ∨ q.state = .fault then t.reportPanelState p .running else t
  | _, _ => s

/-- FRAME_PROCESSING_START (10 R165). -/
def execFrameProcessingStart (p : Fin 4) (s : State) : Host.Outcome State Fault Refusal :=
  whileRunning s fun s => s.takeFrame p

/-! ## FRAME_PROCESSED (10 R172, R178, R179) -/

/-- One cell of a drift adjustment: one count toward a sample that differs by 1..16 (10 R178). -/
def driftCell (raw base : Sample) : Sample :=
  if apart raw.toNat base.toNat = 0 ∨ 16 < apart raw.toNat base.toNat then base
  else if base.toNat < raw.toNat then base + 1
  else base - 1

/-- The end of a frame for drift (10 R178): a frame during whose processing the baseline was written or cleared adjusts
nothing and returns the count to 0 (assumption 10). -/
def Panel.drifted (q : Panel) (f : Processing) : Panel :=
  if f.driftCancelled then { q with drift := 0 }
  else if q.tracks.toList.all fun t => decide (t.state = .free) then
    if q.drift + 1 < 8 then { q with drift := q.drift + 1 }
    else { q with drift := 0, baseline := .ofFn fun i => driftCell f.frame.samples[i.val] q.baseline[i.val] }
  else { q with drift := 0 }

/-- A frame's detection: peaks, matching, tracks, drift (10 R172 to R178). -/
def State.detect (s : State) (p : Fin 4) (f : Processing) : State :=
  let m := strengths f.curve f.frame.samples f.baseline
  let r := matchPeaks s.panels[p.val].tracks.toList (peaksOf m f.config.low.toNat f.width f.height)
  let t := s.onPanel p fun q => { q with overContact := q.overContact || r.2 }
  (t.advanceTracks p f r.1).onPanel p fun q => q.drifted f

/-- The sums of a capture with one more frame (10 R179). -/
def Capture.add (c : Capture) (f : PanelFrame) : Capture :=
  { c with sums := .ofFn fun i => c.sums[i.val] + f.samples[i.val].toNat, count := c.count + 1 }

/-- The averages that replace the baseline (10 R179). -/
def Capture.average (c : Capture) : Vector Sample 960 := c.sums.map fun n => BitVec.ofNat 12 (n / 8)

/-- One frame of a capture; the eighth ends it (10 R179). -/
def State.accumulate (s : State) (p : Fin 4) (f : Processing) : State :=
  match s.panels[p.val].capture with
  | none => s
  | some c =>
    let d := c.add f.frame
    if d.count < 8 then s.onPanel p fun q => { q with capture := some d }
    else
      (s.onPanel p fun q =>
        { q with baseline := d.average, capture := none, state := .running, drift := 0
                 timer := q.startTimer }).reply 0x12 d.tag [ResultCode.ok.code, BitVec.ofNat 8 p.val]

/-- The frame in processing is finished; an injected one is answered after every report of it (10 R167). DESIGN CHOICE: an
injected frame that is the eighth of a capture is answered after BASELINE_CAPTURE (assumption 32). -/
def State.finishFrame (s : State) (p : Fin 4) : State :=
  match s.panels[p.val].processing with
  | none => s
  | some f =>
    let t := match f.role with
      | .detect => s.detect p f
      | .capture => s.accumulate p f
      | .stale => s
    (t.onPanel p fun q => { q with processing := none }).answerInject p f.frame.inject .ok

/-- FRAME_PROCESSED (10 R172). -/
def execFrameProcessed (p : Fin 4) (s : State) : Host.Outcome State Fault Refusal :=
  whileRunning s fun s => s.finishFrame p

/-! ## FRAME_TIMER_EXPIRY (10 R166) -/

/-- A capture in hand is abandoned and BASELINE_CAPTURE answered ABORTED (10 R166, R179). -/
def State.abandonCapture (s : State) (p : Fin 4) : State :=
  match s.panels[p.val].capture with
  | none => s
  | some c =>
    (s.onPanel p fun q => ({ q with capture := none } : Panel).staleFrame).reply 0x12 c.tag
      [ResultCode.aborted.code, BitVec.ofNat 8 p.val]

/-- The frame timer's expiry, one event with its effects in order (10 R166). -/
def State.frameTimeout (s : State) (p : Fin 4) : State :=
  ((((s.cancelTracks p).abandonCapture p).emptyBuffer p).onPanel p fun q =>
    ({ q with state := .fault, timer := none, drift := 0 } : Panel).staleFrame).reportPanelState p .fault

/-- The frame timer runs: SENSOR source in RUNNING or CAPTURING (10 R166). -/
def Panel.timed (q : Panel) : Bool :=
  q.config.source == .sensor && (q.state == .running || q.state == .capturing)

/-- FRAME_TIMER_EXPIRY (10 R166). -/
def execFrameTimerExpiry (p : Fin 4) (s : State) : Host.Outcome State Fault Refusal :=
  whileRunning s fun s => if s.panels[p.val].timed then s.frameTimeout p else s

/-! ## PANEL_SET (10 R164) -/

/-- A count clamped to 1..16 (10 R164). -/
def storedCount (n : Nat) : Nat := min (max n 1) 16

/-- The stored configuration of a PANEL_SET (10 R164). -/
def panelConfigOf (p : List Byte) : PanelConfig :=
  { enabled := field p 1 1 == 1
    source := if field p 2 1 = 1 then .injected else .sensor
    low := byteAt p 3
    high := if byteAt p 4 < byteAt p 3 then byteAt p 3 else byteAt p 4
    nLo := storedCount (field p 5 1)
    nHi := storedCount (field p 6 1)
    move := BitVec.ofNat 16 (field p 7 2) }

/-- The panel enters OFF or WAITING: tracks cancelled, buffer emptied, timer stopped, drift count 0 (10 R164). -/
def State.leaveRunning (s : State) (p : Fin 4) (m : PanelMode) : State :=
  ((s.cancelTracks p).emptyBuffer p).onPanel p fun q =>
    ({ q with state := m, timer := none, drift := 0 } : Panel).staleFrame

/-- The state change a PANEL_SET makes (10 R164). -/
def State.panelTransition (s : State) (p : Fin 4) (before : PanelConfig) : State :=
  let q := s.panels[p.val]
  if q.config.enabled = false then s.leaveRunning p .off
  else if q.state = .off ∨ q.config.source ≠ before.source then s.leaveRunning p .waiting
  else s

/-- The reply of a PANEL_SET (11 R192). -/
def panelSetReply (p : Fin 4) (q : Panel) : List Byte :=
  [ResultCode.ok.code, BitVec.ofNat 8 p.val, q.state.code, q.config.low, q.config.high,
    BitVec.ofNat 8 q.config.nLo, BitVec.ofNat 8 q.config.nHi] ++ le 2 q.config.move.toNat

/-- PANEL_SET (10 R164). -/
def execPanelSet (s : State) : Host.Outcome State Fault Refusal :=
  whileRunning s fun s =>
    s.dispatch 0x10 anyPayload fun tag b s =>
      match fourOf (field b 0 1) with
      | none => s.refuse 0x10 tag .badArgument
      | some p =>
        if 1 < field b 1 1 ∨ 1 < field b 2 1 then s.refuse 0x10 tag .badArgument
        else if s.panels[p.val].state = .capturing then s.refuse 0x10 tag .busy
        else
          let t := (s.onPanel p fun q => { q with config := panelConfigOf b }).panelTransition p s.panels[p.val].config
          t.reply 0x10 tag (panelSetReply p t.panels[p.val])

/-! ## PANEL_INJECT (10 R167) -/

/-- One pair of a PANEL_INJECT: its cell index and its value, taken as at most 4095 (10 R167). -/
def pairOf (r : List Byte) : Nat × Sample := (field r 0 2, BitVec.ofNat 12 (min (field r 2 2) 4095))

/-- The injected frame: the background, then each pair in payload order (10 R167). -/
def injectedFrame (background : Sample) (pairs : List (Nat × Sample)) : Vector Sample 960 :=
  pairs.foldl (fun v x => v.setIfInBounds x.1 x.2) (.replicate 960 background)

/-- PANEL_INJECT (10 R167): its reply waits for the end of the frame's processing. -/
def execPanelInject (s : State) : Host.Outcome State Fault Refusal :=
  whileRunning s fun s =>
    s.dispatch 0x11 anyPayload fun tag b s =>
      let pairs := (pieces 4 ((b.length - 3) / 4) (b.drop 3)).map pairOf
      match fourOf (field b 0 1) with
      | none => s.refuse 0x11 tag .badArgument
      | some p =>
        if pairs.any fun x => decide (Config.cellCount ≤ x.1) then s.refuse 0x11 tag .badArgument
        else if s.panels[p.val].state = .off ∨ s.panels[p.val].config.source = .sensor then
          s.answerInject p (some tag) .discarded
        else
          s.bufferFrame p
            { samples := injectedFrame (BitVec.ofNat 12 (min (field b 1 2) 4095)) pairs, inject := some tag }

/-! ## BASELINE_CAPTURE (10 R179) -/

/-- A capture starts (10 R179). -/
def State.startCapture (s : State) (p : Fin 4) (tag : Byte) : State :=
  (s.cancelTracks p).onPanel p fun q =>
    ({ q with state := .capturing, drift := 0
              capture := some { tag := tag, sums := .replicate 960 0, count := 0 } } : Panel).staleFrame

/-- BASELINE_CAPTURE (10 R179): its reply waits on the capture. -/
def execBaselineCapture (s : State) : Host.Outcome State Fault Refusal :=
  whileRunning s fun s =>
    s.dispatch 0x12 anyPayload fun tag b s =>
      match fourOf (field b 0 1) with
      | none => s.refuse 0x12 tag .badArgument
      | some p =>
        match s.panels[p.val].state with
        | .off => s.refuse 0x12 tag .badArgument
        | .waiting | .fault | .capturing => s.refuse 0x12 tag .busy
        | .running => s.startCapture p tag

/-! ## HOTSPOTS_SET (10 R175) -/

/-- HOTSPOTS_SET (10 R175): the whole page is replaced at once. -/
def execHotspotsSet (s : State) : Host.Outcome State Fault Refusal :=
  whileRunning s fun s =>
    s.dispatch 0x0F anyPayload fun tag b s =>
      match fourOf (field b 0 1), hotspotsOfBytes (pieces 14 ((b.length - 2) / 14) (b.drop 2)) with
      | some p, some hs =>
        (s.onPanel p fun q => { q with page := hs, pageNumber := byteAt b 1 }).reply 0x0F tag
          [ResultCode.ok.code, BitVec.ofNat 8 p.val, byteAt b 1, BitVec.ofNat 8 hs.length]
      | _, _ => s.refuse 0x0F tag .badArgument

end Sys2Proof.Machine
end

