-- ==== Sys2Proof/Machine/MapStore.lean ====
section
/-! DEFINITION. The map store (01, 07): the load stream, closures and reopenings, and listing status. -/

namespace Sys2Proof.Machine

/-! ## Tables through the cursor (01 R9 to R11) -/

/-- Whether a table has a count (01 R9). -/
def TableId.counted : TableId → Bool
  | .waypoints | .segments | .listings => true
  | .profiles | .curve _ | .baseline _ => false

/-- The count of a table, 0 for a table without one (01 R12). -/
def State.tableCount (s : State) : TableId → Nat
  | .waypoints => s.waypointCount
  | .segments => s.segmentCount
  | .listings => s.listingCount
  | .profiles | .curve _ | .baseline _ => 0

/-- The state with the cursor set. -/
def State.setCursor (s : State) (t : TableId) (i : Nat) : State :=
  { s with map := { s.map with cursor := some { table := t, index := i } } }

/-- A counted table with records written from an index on. Records between the count and the index keep their
reset values and become part of the table (01 R12, R14). -/
def writeCounted {α : Type} (reset : α) (t : List α) (i : Nat) (rs : List α) : List α :=
  if rs.isEmpty then t
  else
    let base := t ++ List.replicate (i - t.length) reset
    base.take i ++ rs ++ base.drop (i + rs.length)

/-- A fixed table with records written from an index on. -/
def writeFixed {α : Type} {n : Nat} (t : Vector α n) (i : Nat) (rs : List α) : Vector α n :=
  .ofFn fun k => if i ≤ k.val ∧ k.val < i + rs.length then rs.getD (k.val - i) t[k.val] else t[k.val]

/-- The closed-segment count after segments are written over old records (01 R5). -/
def closedAfter (count : Nat) (old : List Segment) (new : List Segment) : Nat :=
  count + new.countP (·.closed) - old.countP (·.closed)

/-- A baseline written or cleared: the drift adjustment of a frame in processing is cancelled (10 R178). -/
def Panel.setBaseline (q : Panel) (b : Vector Sample 960) : Panel :=
  { q with baseline := b, processing := q.processing.map fun f => { f with driftCancelled := true } }

/-- Records written to a table from an index on, none of them at or beyond its capacity (01 R10, R14). -/
def State.writeTable (s : State) (t : TableId) (i : Nat) (rs : List (List Byte)) : State :=
  match t with
  | .waypoints =>
    { s with map := { s.map with waypoints := writeCounted .reset s.map.waypoints i (rs.map Waypoint.ofBytes) } }
  | .segments =>
    let new := rs.map Segment.ofBytes
    { s with map := { s.map with
        segments := writeCounted .reset s.map.segments i new
        closedCount := closedAfter s.map.closedCount ((s.map.segments.drop i).take new.length) new } }
  | .listings =>
    { s with dir := { s.dir with listings := writeCounted .reset s.dir.listings i (rs.map Listing.ofBytes) } }
  | .profiles => { s with profiles := writeFixed s.profiles i (rs.map Profile.ofBytes) }
  | .curve p => s.onPanel p fun q => { q with curve := writeFixed q.curve i (rs.map fun r => byteAt r 0) }
  | .baseline p =>
    if rs.isEmpty then s
    else s.onPanel p fun q => q.setBaseline (writeFixed q.baseline i (rs.map baselineOfBytes))

/-- A table with every record at its reset value and its count 0 (01 R13). -/
def State.clearTable (s : State) : TableId → State
  | .waypoints => { s with map := { s.map with waypoints := [] } }
  | .segments => { s with map := { s.map with segments := [], closedCount := 0 } }
  | .listings => { s with dir := { s.dir with listings := [] } }
  | .profiles => { s with profiles := .replicate 8 .standard }
  | .curve p => s.onPanel p fun q => { q with curve := identityCurve }
  | .baseline p => s.onPanel p fun q => q.setBaseline (.replicate 960 0)

/-- The record of a table at an index, as it is stored (01 R18). -/
def State.recordBytes (s : State) (t : TableId) (i : Nat) : List Byte :=
  match t with
  | .waypoints => (s.waypoint i).toBytes
  | .segments => (s.segment i).toBytes
  | .listings => (s.listing i).toBytes
  | .profiles => (s.profiles.toArray.getD i .standard).toBytes
  | .curve p => [s.panels[p.val].curve.toArray.getD i 0]
  | .baseline p => baselineToBytes (s.panels[p.val].baseline.toArray.getD i 0)

/-- The panel a table belongs to is taking a baseline capture of that table (01 R13, R17). -/
def State.captured (s : State) : TableId → Bool
  | .baseline p => decide (s.panels[p.val].state = .capturing)
  | _ => false

/-! ## LOAD_OPEN (01 R12, R13) -/

/-- The reply of a LOAD_OPEN, refusals included (11 R192). -/
def State.loadOpenReply (s : State) (r : ResultCode) : List Byte :=
  match s.map.cursor with
  | none => [r.code, 0xFF] ++ le 2 0 ++ le 2 0
  | some c => [r.code, c.table.code] ++ le 2 c.index ++ le 2 (s.tableCount c.table)

/-- Whether a clear of a table is allowed (01 R13). -/
def State.clearAllowed (s : State) (t : TableId) : Bool :=
  if t.inService then decide (s.mod.mode = .loading) else !s.captured t

/-- The state and result of a LOAD_OPEN (01 R12). -/
def State.loadOpen (s : State) (p : List Byte) : State × ResultCode :=
  if s.mod.mode = .checking then (s, .wrongMode)
  else
    match TableId.ofCode (field p 0 1) with
    | none => (s, .badArgument)
    | some t =>
      if t.capacity < field p 1 2 then (s, .badArgument)
      else if (byteAt p 3).getLsbD 0 then
        if s.clearAllowed t then ((s.clearTable t).setCursor t (field p 1 2), .ok)
        else (s.setCursor t (field p 1 2), .discarded)
      else (s.setCursor t (field p 1 2), .ok)

/-- LOAD_OPEN (01 R12). -/
def execLoadOpen (s : State) : Host.Outcome State Fault Refusal :=
  whileRunning s fun s =>
    s.dispatch 0x05 anyPayload fun tag p s =>
      let r := s.loadOpen p
      r.1.reply 0x05 tag (r.1.loadOpenReply r.2)

/-! ## LOAD_WRITE (01 R14 to R17) -/

/-- What a LOAD_WRITE leaves: the state, its result and the number of records written. -/
structure WriteOutcome where
  state : State
  result : ResultCode
  written : Nat

/-- Whether a LOAD_WRITE to a table is discarded: the map tables in SERVICE and FROZEN, a baseline that is
being captured (01 R16, R17). -/
def State.writeDiscarded (s : State) (t : TableId) : Bool :=
  (t.inService && s.mod.mode.serving) || s.captured t

/-- A LOAD_WRITE by its conditions in order (01 R14 to R17). -/
def State.loadWrite (s : State) (p : List Byte) : WriteOutcome :=
  if s.mod.mode = .checking then { state := s, result := .wrongMode, written := 0 }
  else
    match s.map.cursor with
    | none => { state := s, result := .badArgument, written := 0 }
    | some c =>
      let n := p.length / c.table.recordSize
      if p.length = 0 ∨ p.length % c.table.recordSize ≠ 0 then { state := s, result := .badArgument, written := 0 }
      else if s.writeDiscarded c.table then
        { state := s.setCursor c.table (min (c.index + n) c.table.capacity), result := .discarded, written := 0 }
      else
        let k := min n (c.table.capacity - c.index)
        { state := (s.writeTable c.table c.index (pieces c.table.recordSize k p)).setCursor c.table (c.index + k)
          result := if k < n then .partialDone else .ok
          written := k }

/-- The reply of a LOAD_WRITE, refusals included (11 R192). -/
def WriteOutcome.reply (o : WriteOutcome) : List Byte :=
  [o.result.code] ++ le 2 o.written ++ le 2 (match o.state.map.cursor with | none => 0 | some c => c.index)

/-- LOAD_WRITE (01 R14). -/
def execLoadWrite (s : State) : Host.Outcome State Fault Refusal :=
  whileRunning s fun s =>
    s.dispatch 0x06 anyPayload fun tag p s =>
      let o := s.loadWrite p
      o.state.reply 0x06 tag o.reply

/-! ## LOAD_READ (01 R18) -/

/-- The records remaining from the cursor on (01 R18). -/
def State.remaining (s : State) (c : Cursor) : Nat :=
  (if c.table.counted then s.tableCount c.table else c.table.capacity) - c.index

/-- How many records a LOAD_READ returns: the least of three limits (01 R18). -/
def State.readCount (s : State) (c : Cursor) (wanted : Nat) : Nat :=
  min wanted (min (s.remaining c) ((Config.maxPayload - 6) / c.table.recordSize))

/-- A LOAD_READ: the records and the cursor behind them (01 R18); a refusal carries the result byte alone
(11 R192). DESIGN CHOICE: a reply that returns no record carries the cursor's index where the spec names the index of the
first record returned (assumption 18). -/
def State.loadRead (s : State) (p : List Byte) : State × List Byte :=
  if s.mod.mode = .checking then (s, [ResultCode.wrongMode.code])
  else
    match s.map.cursor with
    | none => (s, [ResultCode.badArgument.code])
    | some c =>
      let n := s.readCount c (field p 0 2)
      let result := if n = field p 0 2 then ResultCode.ok else .partialDone
      (s.setCursor c.table (c.index + n),
        [result.code, c.table.code] ++ le 2 c.index ++ le 2 n
          ++ (List.range' c.index n).flatMap (s.recordBytes c.table))

/-- LOAD_READ (01 R18). -/
def execLoadRead (s : State) : Host.Outcome State Fault Refusal :=
  whileRunning s fun s =>
    s.dispatch 0x07 anyPayload fun tag p s =>
      let r := s.loadRead p
      r.1.reply 0x07 tag r.2

/-! ## SEGMENT_SET (07 R117 to R123) -/

/-- A segment's status written, and the closed-segment count moved with it (07 R118, R119, R122). -/
def MapState.setStatus (m : MapState) (g : Nat) (closed : Bool) : MapState :=
  { m with
    segments := m.segments.modify g fun x => { x with closed := closed }
    closedCount := if closed then m.closedCount + 1 else m.closedCount - 1 }

/-- A closure in service: the status, the count, and the hand-over to the cache in one event (07 R118). -/
def State.closeSegment (s : State) (g : Nat) : State :=
  { s with map := s.map.setStatus g true, rcc := s.rcc.handOver g }

/-- At the wrap of the reopen generation the cache is flushed and the units lose their captured generations
(07 R121). -/
def State.wrapGeneration (s : State) : State :=
  { s with rcc := s.rcc.flush, search := { s.search with units := s.search.units.map SearchUnit.void } }

/-- A reopening in service: the status, the count and the generation in one event (07 R119, R120). -/
def State.reopenSegment (s : State) (g : Nat) : State :=
  let m := s.map.setStatus g false
  let t : State := { s with map := { m with generation := m.generation + 1 } }
  if s.map.generation = 0xFFFF then t.wrapGeneration else t

/-- A SEGMENT_SET: its result, whether NO_CHANGE is set, and the state (07 R117). -/
def State.segmentSet (s : State) (g : Nat) (target : Nat) : State × ResultCode × Bool :=
  if s.mod.mode = .checking then (s, .wrongMode, false)
  else if 1 < target then (s, .badArgument, false)
  else if s.segmentCount ≤ g then (s, .badArgument, false)
  else if (s.segment g).closed = (target == 1) then (s, .ok, true)
  else if s.mod.mode = .loading then ({ s with map := s.map.setStatus g (target == 1) }, .ok, false)
  else if target = 1 then (s.closeSegment g, .ok, false)
  else (s.reopenSegment g, .ok, false)

/-- The SEGMENT_SET reply (07 R123). -/
def State.segmentSetReply (s : State) (r : ResultCode) (noChange : Bool) (g : Nat) : List Byte :=
  [r.code, noChangeFlags noChange] ++ le 2 g
    ++ [if r = .ok then flagsByte [(s.segment g).closed] else 0]
    ++ le 2 s.map.closedCount ++ le 2 s.map.generation.toNat

/-- SEGMENT_SET (07 R117). -/
def execSegmentSet (s : State) : Host.Outcome State Fault Refusal :=
  whileRunning s fun s =>
    s.dispatch 0x08 anyPayload fun tag p s =>
      let r := s.segmentSet (field p 0 2) (field p 2 1)
      r.1.reply 0x08 tag (r.1.segmentSetReply r.2.1 r.2.2 (field p 0 2))

/-! ## LISTING_SET (07 R124) -/

/-- A LISTING_SET: the state, its result, and NO_CHANGE (07 R124). -/
def State.listingSet (s : State) (n : Nat) (target : Nat) : State × ResultCode × Bool :=
  if s.mod.mode = .checking then (s, .wrongMode, false)
  else if 2 < target then (s, .badArgument, false)
  else if s.listingCount ≤ n then (s, .badArgument, false)
  else if (s.listing n).status = .ofCode target then (s, .ok, true)
  else
    ({ s with dir := { s.dir with
        listings := s.dir.listings.modify n fun l => { l with status := .ofCode target } } }, .ok, false)

/-- The LISTING_SET reply: the status before and after, both 0 on a refusal (07 R124). -/
def listingSetReply (before after : State) (r : ResultCode) (noChange : Bool) (n : Nat) : List Byte :=
  [r.code, noChangeFlags noChange] ++ le 2 n
    ++ (if r = .ok then
          [BitVec.ofNat 8 (before.listing n).status.code, BitVec.ofNat 8 (after.listing n).status.code]
        else [0, 0])

/-- LISTING_SET (07 R124). -/
def execListingSet (s : State) : Host.Outcome State Fault Refusal :=
  whileRunning s fun s =>
    s.dispatch 0x09 anyPayload fun tag p s =>
      let r := s.listingSet (field p 0 2) (field p 2 1)
      r.1.reply 0x09 tag (listingSetReply s r.1 r.2.1 r.2.2 (field p 0 2))

end Sys2Proof.Machine
end

