-- ==== Sys2Proof/Machine/Modes.lean ====
section
/-! DEFINITION. Mode control (02): STATE_GET, MODE_SET, the map check, the resets; and the two requests that only
look at or mask the part, UNIT_PEEK (04 R77) and REPORT_MASK (11 R189). -/

namespace Sys2Proof.Machine

/-! ## STATE_GET (02 R36) -/

/-- The reply of STATE_GET, 27 bytes (02 R36). -/
def State.stateReply (s : State) : List Byte :=
  [ResultCode.ok.code] ++ le 2 Config.partCode ++ [BitVec.ofNat 8 Config.revision, s.mod.mode.code]
    ++ labelBytes s.mod.label ++ le 2 s.waypointCount ++ le 2 s.segmentCount ++ le 2 s.listingCount
    ++ le 2 s.map.closedCount ++ le 2 s.map.generation.toNat ++ le 2 s.rcc.validCount
    ++ [linkFlags s.link, panelFlags s.panels]

/-- OVERRUN and the eight panel flags cleared (02 R36). -/
def State.clearFlags (s : State) : State :=
  { s with
    link := { s.link with overrun := false }
    panels := s.panels.map fun q => { q with badFrame := false, overContact := false } }

/-- STATE_GET (02 R36). -/
def execStateGet (s : State) : Host.Outcome State Fault Refusal :=
  whileRunning s fun s =>
    s.dispatch 0x01 anyPayload fun tag _ s => s.clearFlags.reply 0x01 tag s.stateReply

/-! ## MODE_SET (02 R23 to R25) -/

/-- The state with the mode set. -/
def State.setMode (s : State) (m : Mode) : State := { s with mod := { s.mod with mode := m } }

/-- The reply of a MODE_SET (11 R192). -/
def State.modeReply (s : State) (tag : Byte) (r : ResultCode) : State :=
  s.reply 0x02 tag [r.code, s.mod.mode.code]

/-- Entry to LOADING from SERVICE or FROZEN (02 R25). -/
def State.enterLoading (s : State) : State :=
  let t := ({ s with mod := { s.mod with mode := .loading, label := 0, findings := [], findingCount := 0 } } :
    State).abortWork
  { t with map := { t.map with startIndex := none } }

/-- Entry to FROZEN: the reply waits until no unit is RUNNING (02 R24). -/
def State.enterFrozen (s : State) (tag : Byte) : State :=
  ({ s with mod := { s.mod with mode := .frozen, freezing := some tag } } : State).answerFreezing

/-- A HELD unit goes back to RUNNING (04 R75). -/
def SearchUnit.unfreeze (u : SearchUnit) : SearchUnit := if u.state = .held then { u with state := .running } else u

/-- Return to SERVICE: HELD units run on, IDLE units take WAITING entries (02 R24). -/
def State.returnToService (s : State) : State :=
  ({ s with
      mod := { s.mod with mode := .service }
      search := { s.search with units := s.search.units.map SearchUnit.unfreeze } } : State).giveUnits

/-- A MODE_SET by the current mode and the target (02 R23). -/
def State.modeSet (s : State) (tag : Byte) (target : Nat) : State :=
  match s.mod.mode, target with
  | .loading, 0 => s.modeReply tag .ok
  | .loading, 2 => s.modeReply tag .wrongMode
  | .loading, 3 => s.modeReply tag .wrongMode
  | .service, 0 => s.enterLoading.modeReply tag .ok
  | .frozen, 0 => s.enterLoading.modeReply tag .ok
  | .service, 2 => s.modeReply tag .ok
  | .service, 3 => s.enterFrozen tag
  | .frozen, 2 => s.returnToService.modeReply tag .ok
  | .frozen, 3 => s.modeReply tag .ok
  | _, _ => s.modeReply tag .badArgument

/-- MODE_SET (02 R23). -/
def execModeSet (s : State) : Host.Outcome State Fault Refusal :=
  whileRunning s fun s => s.dispatch 0x02 anyPayload fun tag p s => s.modeSet tag (field p 0 1)

/-! ## MAP_COMMIT (02 R27) -/

/-- MAP_COMMIT (02 R27): its reply waits for the end of the check. -/
def execMapCommit (s : State) : Host.Outcome State Fault Refusal :=
  whileRunning s fun s =>
    s.dispatch 0x03 anyPayload fun tag p s =>
      { s with mod := { s.mod with
          mode := .checking, findings := [], findingCount := 0
          commit := some { tag := tag, label := BitVec.ofNat 64 (field p 0 8) } } }

/-! ## The map check (02 R28 to R32) -/

/-- A list of one finding when a test fails. -/
def finding (fails : Bool) (k : FindingKind) (i : Nat) : List Finding :=
  if fails then [{ kind := k, index := i }] else []

/-- The first pass (02 R28). -/
def State.checkEmpty (s : State) : List Finding := finding (s.waypointCount == 0) .emptyMap 0

/-- An endpoint of a segment is at or beyond the waypoint count (02 R29). -/
def State.badEndpoint (s : State) (g : Segment) : Bool :=
  decide (s.waypointCount ≤ g.src.toNat) || decide (s.waypointCount ≤ g.dst.toNat)

/-- A kind whose level delta is not allowed for it (02 R29). -/
def badKindLevel (g : Segment) : Bool :=
  match g.kind with
  | .walk | .door | .travelator | .outdoor => decide (g.delta ≠ 0)
  | .escalator | .stairs | .lift => decide (g.delta = 0)
  | .ramp => false

/-- The four tests of one segment record, in order (02 R29). -/
def State.checkSegment (s : State) (i : Nat) : List Finding :=
  let g := s.segment i
  finding (s.badEndpoint g) .segmentEndpoint i
    ++ finding (decide (0 < i) && decide (g.src.toNat < (s.segment (i - 1)).src.toNat)) .segmentOrder i
    ++ finding (!s.badEndpoint g
        && decide ((s.waypoint g.dst.toNat).level - (s.waypoint g.src.toNat).level ≠ g.delta.toInt)) .levelMismatch i
    ++ finding (badKindLevel g) .kindLevel i

/-- A 0 stands before a nonzero code (02 R30). -/
def gapInKey : List Byte → Bool
  | [] => false
  | b :: bs => if b = 0 then bs.any (fun c => decide (c ≠ 0)) else gapInKey bs

/-- The KEY_SYMBOL test of a key (02 R30). -/
def badKey (k : Vector Byte 16) : Bool :=
  decide (k[0] = 0) || k.toList.any (fun b => decide (40 < b.toNat)) || gapInKey k.toList

/-- The entrances test of a listing (02 R30). -/
def State.badEntrances (s : State) (l : Listing) : Bool :=
  decide (l.entranceCount.toNat = 0) || decide (4 < l.entranceCount.toNat)
    || l.usedEntrances.any fun e => decide (s.waypointCount ≤ e.toNat)

/-- The three tests of one listing record, in order (02 R30). -/
def State.checkListing (s : State) (i : Nat) : List Finding :=
  let l := s.listing i
  let before := s.listing (i - 1)
  finding (s.badEntrances l) .entranceInvalid i
    ++ finding (badKey l.key) .keySymbol i
    ++ finding (decide (0 < i) && !badKey l.key && !badKey before.key
        && sortsBefore (keySymbols l.key) (keySymbols before.key)) .keyOrder i

/-- The test of one screen (02 R31). -/
def State.checkScreen (s : State) (i : Fin 4) : List Finding :=
  let c := s.screens[i.val]
  finding (c.enabled && decide (s.waypointCount ≤ c.origin.toNat)) .originInvalid i.val

/-- All findings of the four passes, in order (02 R28 to R32). -/
def State.allFindings (s : State) : List Finding :=
  s.checkEmpty ++ (List.range s.segmentCount).flatMap s.checkSegment
    ++ (List.range s.listingCount).flatMap s.checkListing ++ four.flatMap s.checkScreen

/-! ## MAP_CHECK_END (02 R33, R34) -/

/-- The reply to a passing MAP_COMMIT (02 R33, 11 R192). -/
def State.commitReply (s : State) : List Byte :=
  [ResultCode.ok.code] ++ labelBytes s.mod.label ++ le 2 s.waypointCount ++ le 2 s.segmentCount
    ++ le 2 s.listingCount ++ le 2 s.map.closedCount

/-- The reply to a failing MAP_COMMIT (02 R34, 11 R192). -/
def ModState.failReply (m : ModState) : List Byte :=
  [ResultCode.checkFailed.code] ++ le 2 m.findingCount ++ le 1 m.findings.length
    ++ m.findings.flatMap fun f => [f.kind.code] ++ le 2 f.index

/-- The commit takes effect (02 R33). -/
def State.commitPasses (s : State) (c : Commit) : State :=
  let t : State :=
    { s with
      map := { s.map with
        startIndex := some (buildStartIndex s.waypointCount s.map.segments)
        generation := 0 }
      rcc := s.rcc.flush
      screens := s.screens.map Screen.endSession
      mod := { s.mod with mode := .service, label := c.label, findings := [], findingCount := 0, commit := none } }
  t.reply 0x03 c.tag t.commitReply

/-- The commit fails: back to LOADING, the findings emptied once the reply is queued (02 R34). -/
def State.commitFails (s : State) (c : Commit) (fs : List Finding) : State :=
  let m : ModState :=
    { s.mod with mode := .loading, findings := fs.take Config.findingCapacity, findingCount := fs.length
                 commit := none }
  ({ s with mod := { m with findings := [], findingCount := 0 } } : State).reply 0x03 c.tag m.failReply

/-- The map check ends (02 R32 to R34). Outside CHECKING no check runs. -/
def State.endCheck (s : State) : State :=
  match s.mod.mode, s.mod.commit with
  | .checking, some c => if s.allFindings.isEmpty then s.commitPasses c else s.commitFails c s.allFindings
  | _, _ => s

/-- MAP_CHECK_END (02 R33). -/
def execMapCheckEnd (s : State) : Host.Outcome State Fault Refusal := whileRunning s State.endCheck

/-! ## Resets (02 R37 to R39) -/

/-- RESET_PIN_ASSERT (02 R37): every block at its reset values. R37 gives the link bit rate at the release alone, read
from the straps. DESIGN CHOICE (log entry 36, unsafe): while the pin is low the rate of before the reset is kept. -/
def execResetPinAssert (s : State) : Host.Outcome State Fault Refusal :=
  .next { State.heldReset s.link.rate with pending := s.pending }

/-- RESET_PIN_RELEASE (02 R37): the straps are read, and STARTED is queued with cause 0. A pin that is high
cannot rise. -/
def execResetPinRelease (straps : BitVec 2) (s : State) : Host.Outcome State Fault Refusal :=
  .next (if s.resetLow then { State.started straps 0 with pending := s.pending } else s)

/-- The payload belongs to the row RESET_FULL: every RESET that is not of kind SESSIONS. -/
def resetFullRow (p : List Byte) : Bool := decide (p ≠ [0])

/-- The payload belongs to the row RESET_SESSIONS: every RESET that is not of kind FULL. -/
def resetSessionsRow (p : List Byte) : Bool := decide (p ≠ [1])

/-- RESET FULL is asked: an OK reply, and the dispatcher takes no further request (02 R38). -/
def State.askReset (s : State) (tag : Byte) : State :=
  ({ s with mod := { s.mod with resetAsked := true } } : State).queueReply
    { plainReply 0x04 tag [ResultCode.ok.code] with resets := true }

/-- RESET_FULL (02 R38); a kind above 1 is answered BAD_ARGUMENT. -/
def execResetFull (s : State) : Host.Outcome State Fault Refusal :=
  whileRunning s fun s =>
    s.dispatch 0x04 resetFullRow fun tag p s =>
      if field p 0 1 = 1 then s.askReset tag else s.refuse 0x04 tag .badArgument

/-- A map check in hand is abandoned and MAP_COMMIT answered ABORTED (02 R35). -/
def State.abandonCheck (s : State) : State :=
  match s.mod.commit with
  | none => s
  | some c =>
    ({ s with mod := { s.mod with mode := .loading, findings := [], findingCount := 0, commit := none } } :
      State).refuse 0x03 c.tag .aborted

/-- Every not-DONE entry of a screen becomes DONE with ABORTED, and the list is released (02 R39). -/
def State.abortScreen (s : State) (i : Fin 4) : State :=
  (s.onScreen i fun c =>
    { c with outstanding := c.outstanding.map fun e => e.finish (.bare .aborted) }).release i

/-- A panel at RESET SESSIONS: tracks FREE, drift 0, a capture abandoned and answered ABORTED (10 R179, R180). -/
def State.resetPanel (s : State) (p : Fin 4) : State :=
  let q := s.panels[p.val]
  let t := (s.abandonCapture p).onPanel p fun q => { q.freeTracks with drift := 0 }
  if q.state = .capturing then t.onPanel p fun q => { q with state := .running, timer := q.startTimer } else t

/-- RESET SESSIONS up to its reply (02 R39). DESIGN CHOICE: the ABORTED replies that belong to no screen stand behind the
releases, MAP_COMMIT's before those of the captures, and these in panel order (assumption 11). -/
def State.resetSessions (s : State) : State :=
  let t := four.foldl State.abortScreen s.abortWork
  let u := four.foldl State.resetPanel t.abandonCheck
  { u with screens := u.screens.map Screen.endSession }

/-- RESET_SESSIONS (02 R39); a kind above 1 is answered BAD_ARGUMENT. -/
def execResetSessions (s : State) : Host.Outcome State Fault Refusal :=
  whileRunning s fun s =>
    s.dispatch 0x04 resetSessionsRow fun tag p s =>
      if field p 0 1 = 0 then s.resetSessions.reply 0x04 tag [ResultCode.ok.code]
      else s.refuse 0x04 tag .badArgument

/-! ## UNIT_PEEK (04 R77) -/

/-- The reply of UNIT_PEEK, 17 bytes (04 R77). -/
def peekReply (n : Fin 2) (u : SearchUnit) : List Byte :=
  [ResultCode.ok.code, BitVec.ofNat 8 n.val, u.state.code] ++ le 2 u.key.origin.toNat ++ [u.key.kind.code]
    ++ le 2 u.key.number.toNat ++ [BitVec.ofNat 8 u.key.profile.val] ++ le 2 u.settledCount
    ++ le 2 u.frontier.length
    ++ le 3 (match u.frontier with | [] => Config.unreached | x :: _ => x.1)
    ++ le 1 u.restarts

/-- UNIT_PEEK (04 R77). -/
def execUnitPeek (s : State) : Host.Outcome State Fault Refusal :=
  whileRunning s fun s =>
    s.dispatch 0x14 anyPayload fun tag p s =>
      match finOf 2 (field p 0 1) with
      | none => s.refuse 0x14 tag .badArgument
      | some n => s.reply 0x14 tag (peekReply n s.search.units[n.val])

/-! ## REPORT_MASK (11 R189) -/

/-- A kind left unmasked whose pending flag is set: the flag is cleared and SUPPRESSED offered (11 R189). -/
def State.unmask (s : State) (k : MaskKind) : State :=
  if !s.link.masked k && s.link.suppressed.getLsbD k.code then
    (s.onLink fun l => { l with suppressed := setKind l.suppressed k false }).queueReport 0x47
      [BitVec.ofNat 8 k.code]
  else s

/-- REPORT_MASK (11 R189). -/
def execReportMask (s : State) : Host.Outcome State Fault Refusal :=
  whileRunning s fun s =>
    s.dispatch 0x13 anyPayload fun tag p s =>
      let t := s.onLink fun l => { l with mask := BitVec.ofNat 6 (field p 0 1) }
      (MaskKind.all.foldl State.unmask t).reply 0x13 tag
        [ResultCode.ok.code, BitVec.ofNat 8 t.link.mask.toNat]

end Sys2Proof.Machine
end

