-- ==== Sys2Proof/Machine/Dispatch.lean ====
section
/-! DEFINITION. One arm per command: exec hands each to its meaning. -/

namespace Sys2Proof.Machine

def exec (i : Instr) (s : State) : Host.Outcome State Fault Refusal :=
  match i with
  | .resetPinAssert => Sys2Proof.Machine.execResetPinAssert s
  | .resetPinRelease straps => Sys2Proof.Machine.execResetPinRelease straps s
  | .frameReceived cls tag payload check => Sys2Proof.Machine.execFrameReceived cls tag payload check s
  | .receiveGapTimeout => Sys2Proof.Machine.execReceiveGapTimeout s
  | .unknownClass => Sys2Proof.Machine.execUnknownClass s
  | .stateGet => Sys2Proof.Machine.execStateGet s
  | .modeSet => Sys2Proof.Machine.execModeSet s
  | .mapCommit => Sys2Proof.Machine.execMapCommit s
  | .mapCheckEnd => Sys2Proof.Machine.execMapCheckEnd s
  | .resetFull => Sys2Proof.Machine.execResetFull s
  | .resetSessions => Sys2Proof.Machine.execResetSessions s
  | .loadOpen => Sys2Proof.Machine.execLoadOpen s
  | .loadWrite => Sys2Proof.Machine.execLoadWrite s
  | .loadRead => Sys2Proof.Machine.execLoadRead s
  | .segmentSet => Sys2Proof.Machine.execSegmentSet s
  | .listingSet => Sys2Proof.Machine.execListingSet s
  | .screenSet => Sys2Proof.Machine.execScreenSet s
  | .routeAsk => Sys2Proof.Machine.execRouteAsk s
  | .directoryAsk => Sys2Proof.Machine.execDirectoryAsk s
  | .fence => Sys2Proof.Machine.execFence s
  | .cancel => Sys2Proof.Machine.execCancel s
  | .hotspotsSet => Sys2Proof.Machine.execHotspotsSet s
  | .panelSet => Sys2Proof.Machine.execPanelSet s
  | .panelInject => Sys2Proof.Machine.execPanelInject s
  | .baselineCapture => Sys2Proof.Machine.execBaselineCapture s
  | .reportMask => Sys2Proof.Machine.execReportMask s
  | .unitPeek => Sys2Proof.Machine.execUnitPeek s
  | .settleStep unit => Sys2Proof.Machine.execSettleStep unit s
  | .compositionEnd => Sys2Proof.Machine.execCompositionEnd s
  | .routeFinalisation => Sys2Proof.Machine.execRouteFinalisation s
  | .sweepExamination => Sys2Proof.Machine.execSweepExamination s
  | .directoryExamination => Sys2Proof.Machine.execDirectoryExamination s
  | .sessionExpiry screen => Sys2Proof.Machine.execSessionExpiry screen s
  | .transmitStart => Sys2Proof.Machine.execTransmitStart s
  | .transmitComplete => Sys2Proof.Machine.execTransmitComplete s
  | .panelFrameReceived panel samples => Sys2Proof.Machine.execPanelFrameReceived panel samples s
  | .frameProcessingStart panel => Sys2Proof.Machine.execFrameProcessingStart panel s
  | .frameProcessed panel => Sys2Proof.Machine.execFrameProcessed panel s
  | .frameTimerExpiry panel => Sys2Proof.Machine.execFrameTimerExpiry panel s
  | .linkByteReceived byte => Sys2Proof.Machine.execLinkByteReceived byte s

end Sys2Proof.Machine
end

