-- ==== Sys2Proof/Machine/Time.lean ====
section
/-! DEFINITION. The passing of time: one step on an empty command queue is one millisecond (assumption 2). -/

namespace Sys2Proof.Machine

/-- One millisecond of the receive gap, which is timed between two bytes of a frame in hand; more than 2 ms
discard the frame (11 R182). -/
def LinkState.tickGap (l : LinkState) : LinkState :=
  match l.hunter with
  | .hunting => l
  | .header _ | .body _ _ _ _ => if l.gap + 1 ≤ Config.gapMs then { l with gap := l.gap + 1 } else l.gapTimeout

/-- One millisecond of a panel's frame timer; at 250 ms it expires (10 R166). -/
def State.tickPanel (s : State) (p : Fin 4) : State :=
  let q := s.panels[p.val]
  match q.timed, q.timer with
  | true, some t =>
    if t + 1 < Config.frameTimerMs then s.onPanel p fun q => { q with timer := some (t + 1) } else s.frameTimeout p
  | _, _ => s

/-- One millisecond of a screen's idle timer; at its timeout the session expires (09 R149). -/
def State.tickScreen (s : State) (i : Fin 4) : State :=
  let t := s.onScreen i fun c => { c with idle := c.idle.map (· + 1) }
  if t.screens[i.val].timedOut then t.expire i else t

/-- One millisecond in which no command falls: the receive gap, then the frame timers, then the idle timers, in
number order (assumption 2). While RESET_N is low every timer is held (02 R37). -/
def State.tick (s : State) : State :=
  if s.resetLow then s
  else four.foldl State.tickScreen (four.foldl State.tickPanel (s.onLink LinkState.tickGap))

end Sys2Proof.Machine
end

