-- ==== Sys2Proof/Safety.lean ====
section
/-! DEFINITION. What a safe run is: the words that statements about commands use, and the laws of the spec that every
step keeps. -/

namespace Sys2Proof.Machine

/-! ## The words of a dispatch -/

/-- RESET_N is high and the dispatcher is about to take a frame of this class, tag and payload, with `rest` behind it
in the inbound queue. It waits neither on a RESET FULL (02 R38) nor on a MODE_SET FROZEN (02 R24). -/
def State.headIs (s : State) (cls tag : Byte) (p : List Byte) (rest : List InFrame) : Prop :=
  s.resetLow = false ∧ s.mod.resetAsked = false ∧ s.mod.freezing = none
    ∧ s.link.inbound = { cls := cls, tag := tag, payload := p } :: rest

/-- The head frame has left the inbound queue and nothing else has changed. -/
def State.taken (s : State) (rest : List InFrame) : State := { s with link := { s.link with inbound := rest } }

/-- The head frame has left the inbound queue and one reply of class `cls` (the request's plus 80h), with the request's
tag, stands at the end of the reply queue; nothing else has changed. -/
def State.answered (s : State) (rest : List InFrame) (cls tag : Byte) (payload : List Byte) : State :=
  { s with link := { s.link with
      inbound := rest
      replies := s.link.replies ++ [{ cls := cls, tag := tag, payload := payload, release := none, resets := false }] } }

/-- What a command answers when it answers a next state at all. -/
def Answers (o : Host.Outcome State Fault Refusal) (p : State → Prop) : Prop := ∃ t, o = .next t ∧ p t

/-- Nothing waits for an engine that could take it: the composer queue and the query queue are empty, and no
search-queue entry is WAITING. -/
def State.EnginesQuiet (s : State) : Prop :=
  s.rco.queue = [] ∧ s.dir.queue = [] ∧ ∀ e ∈ s.search.queue, e.unit ≠ none

/-- Every search-queue entry and the composer's job hold a requester (04 R55, R74, 05 R99). -/
def State.WorkHeld (s : State) : Prop :=
  (∀ e ∈ s.search.queue, e.requesters ≠ []) ∧ ∀ j, s.rco.job = some j → j.requesters ≠ []

/-- Reports of a kind are not masked, and a report slot is free (11 R186, R189). -/
def State.reportsFreely (s : State) (k : MaskKind) : Prop :=
  s.link.masked k = false ∧ s.link.reportsHeld + s.link.reserved < 32

/-- Reports of a kind offered one after another: under the mask they are discarded and the kind's pending flag is set; else
they take the free slots in order, and those that find none are dropped with OVERRUN set (11 R186, R189). -/
def State.offered (s : State) (k : MaskKind) (items : List OutItem) : State :=
  if s.link.masked k = true then
    { s with link := { s.link with
        suppressed := s.link.suppressed ||| (if items = [] then 0 else 1#6 <<< k.code) } }
  else
    { s with link := { s.link with
        reports := s.link.reports ++ items.take (32 - (s.link.reportsHeld + s.link.reserved))
        overrun := s.link.overrun || decide (32 - (s.link.reportsHeld + s.link.reserved) < items.length) } }

/-- The CONTACT UP reports of a panel whose tracks are cancelled: one of each DOWN track in index order, with CANCELLED set,
at its position (10 R177). -/
def Panel.cancelReports (q : Panel) (p : Fin 4) : List OutItem :=
  (List.finRange 5).filterMap fun k =>
    if q.tracks[k.val].state = .down then
      some { cls := 0x41, tag := 0, release := none, resets := false
             payload := [BitVec.ofNat 8 p.val, BitVec.ofNat 8 k.val, 2, 1] ++ le 2 q.tracks[k.val].position.1
              ++ le 2 q.tracks[k.val].position.2 }
    else none

/-- The answer to a PANEL_INJECT, with this result, when its frame leaves the panel; a sensor's frame has none (10 R167). -/
def PanelFrame.answer (g : PanelFrame) (p : Fin 4) (r : Byte) : List OutItem :=
  g.inject.toList.map fun tag =>
    { cls := 0x91, tag := tag, payload := [r, BitVec.ofNat 8 p.val], release := none, resets := false }

/-- The DISCARDED answer of an injected frame that waits in a buffer which is emptied (10 R167). -/
def Panel.discardReply (q : Panel) (p : Fin 4) : List OutItem := q.buffer.toList.flatMap fun g => g.answer p 2

/-- The next result of a screen that is released stands at the head of its list and is not DONE, or its list is empty. -/
def Screen.headWaits (c : Screen) : Prop := ∀ e, c.outstanding.head? = some e → e.result = none

/-- A ROUTE_ASK that passes every test of its dispatch, but for the room in its screen's list, stands at the head of the
inbound queue (09 R153). -/
def State.routeAsked (s : State) (i : Fin 4) (tag : Byte) (kind : DestKind) (number : Nat) (options profile : Byte)
    (origin : Nat) (rest : List InFrame) : Prop :=
  s.headIs 0x0B tag ([BitVec.ofNat 8 i.val, kind.code] ++ le 2 number ++ [options, profile] ++ le 2 origin) rest
    ∧ s.mod.mode.serving = true ∧ s.screens[i.val].enabled = true ∧ number < 65536 ∧ origin < 65536
    ∧ (kind = .listing → number < s.listingCount) ∧ (kind = .waypoint → number < s.waypointCount)
    ∧ (options.getLsbD 0 = true → profile.toNat < 8) ∧ (options.getLsbD 1 = true → origin < s.waypointCount)

/-- The search key of a ROUTE_ASK: the carried origin and profile where the options say so, else the screen's
(09 R153). -/
def Screen.askedKey (c : Screen) (kind : DestKind) (number : Nat) (options profile : Byte) (origin : Nat) : Key :=
  { origin := if options.getLsbD 1 then BitVec.ofNat 12 origin else c.origin
    kind := kind
    number := BitVec.ofNat 16 number
    profile := if options.getLsbD 0 then Fin.ofNat 8 profile.toNat else c.profile }

/-- The frame in processing ends with the UP of a panel's one track, its primary, on the hotspot that it went down on, so
that a selection of that hotspot forms; its baseline has not been written meanwhile, CONTACT and SELECTION reports are
not masked, and nothing else waits to be taken or released (10 R173, R174, R176, R178). -/
def State.formsSelection (s : State) (p : Fin 4) (f : Processing) (h : Nat) (x : Hotspot) : Prop :=
  s.resetLow = false ∧ s.panels[p.val].processing = some f ∧ f.role = .detect ∧ f.frame.inject = none
    ∧ (s.panels[p.val].tracks[0].state = .down ∧ s.panels[p.val].tracks[0].missing = 1
        ∧ s.panels[p.val].tracks[0].primary = true ∧ s.panels[p.val].tracks[0].hotspot = some h
        ∧ s.panels[p.val].tracks[0].page = f.pageNumber ∧ hitTest f.page s.panels[p.val].tracks[0].position = some h)
    ∧ f.page[h]? = some x
    ∧ (∀ k : Fin 5, k ≠ 0 → s.panels[p.val].tracks[k.val] = Track.free)
    ∧ s.panels[p.val].drift < 7 ∧ f.driftCancelled = false
    ∧ (∀ k : Fin 960, strengthOf f.curve f.frame.samples[k.val] f.baseline[k.val] < f.config.low.toNat)
    ∧ s.screens[p.val].headWaits ∧ s.EnginesQuiet ∧ s.WorkHeld
    ∧ s.link.masked .contact = false ∧ s.link.masked .selection = false

/-- Such a frame on the panel of an enabled screen, whose CONTACT and SELECTION reports both find a slot. -/
def State.selectsOn (s : State) (p : Fin 4) (f : Processing) (h : Nat) (x : Hotspot) : Prop :=
  s.formsSelection p f h x ∧ s.screens[p.val].enabled = true ∧ s.link.reportsHeld + s.link.reserved + 2 ≤ 32

/-- After the UP of that frame: the tracks are FREE, the drift count has risen, and CONTACT UP stands at the end of the
report queue (10 R174, R178, 11 R188). A FREE track is the model's (log entry 35). -/
def State.afterUp (s : State) (p : Fin 4) : State :=
  { s with
    panels := s.panels.set p.val { s.panels[p.val] with
      processing := none, drift := s.panels[p.val].drift + 1, tracks := .replicate 5 .free }
    link := { s.link with reports := s.link.reports ++
      [{ cls := 0x41, tag := 0, release := none, resets := false
         payload := [BitVec.ofNat 8 p.val, 0, 2, 0] ++ le 2 s.panels[p.val].tracks[0].position.1
          ++ le 2 s.panels[p.val].tracks[0].position.2 }] } }

/-- With a SELECTION report at the end of the report queue (11 R188). -/
def State.withSelection (s : State) (p : Fin 4) (f : Processing) (h : Nat) (x : Hotspot) (flags : Byte) : State :=
  { s with link := { s.link with reports := s.link.reports ++
      [{ cls := 0x42, tag := 0, release := none, resets := false
         payload := [BitVec.ofNat 8 p.val, BitVec.ofNat 8 h, f.pageNumber, x.action.code, flags] }] } }

/-- After that frame: its UP, then the SELECTION report with these flags, and the screen as given (10 R174, R176). -/
def State.afterSelection (s : State) (p : Fin 4) (f : Processing) (h : Nat) (x : Hotspot) (flags : Byte) (c : Screen) :
    State :=
  { (s.afterUp p).withSelection p f h x flags with screens := s.screens.set p.val c }

/-- After that frame where the SELECTION report finds no slot left: it is dropped with OVERRUN set (09 R156, 11 R186). -/
def State.afterDropped (s : State) (p : Fin 4) (c : Screen) : State :=
  { s.afterUp p with link := { (s.afterUp p).link with overrun := true }, screens := s.screens.set p.val c }

/-- After that frame where its action has made a request: the request's report slot is reserved first, and the SELECTION
report is dropped where none is left for it (09 R156). The reservation is left to the one who says what becomes of it. -/
def State.afterRequest (s : State) (p : Fin 4) (f : Processing) (h : Nat) (x : Hotspot) (c : Screen) : State :=
  if s.link.reportsHeld + s.link.reserved + 3 ≤ 32 then s.afterSelection p f h x 0 c else s.afterDropped p c

/-- What a text or term action does: the text and the terms after it, whether it calls for a query, and the TEXT_FULL flag
of its SELECTION report (09 R158, R159). -/
def Screen.Edits (c : Screen) (a : Action) (text : List Byte) (terms : Terms) (calls : Bool) (full : Byte) : Prop :=
  (∃ b, a = .key b ∧ 1 ≤ b.toNat ∧ b.toNat ≤ 40 ∧ c.text.length < 16 ∧ text = c.text ++ [b] ∧ terms = c.terms
      ∧ calls = true ∧ full = 0)
    ∨ (∃ b, a = .key b ∧ 1 ≤ b.toNat ∧ b.toNat ≤ 40 ∧ 16 ≤ c.text.length ∧ text = c.text ∧ terms = c.terms
      ∧ calls = false ∧ full = 2)
    ∨ (∃ b, a = .key b ∧ (b.toNat = 0 ∨ 40 < b.toNat) ∧ text = c.text ∧ terms = c.terms ∧ calls = false ∧ full = 0)
    ∨ (a = .backspace ∧ text = c.text.dropLast ∧ terms = c.terms ∧ calls = decide (c.text ≠ []) ∧ full = 0)
    ∨ (a = .clearText ∧ text = [] ∧ terms = c.terms ∧ calls = decide (c.text ≠ []) ∧ full = 0)
    ∨ (∃ (j : Fin 4) (term : Option Term),
        (a = .filter (BitVec.ofNat 8 j.val) term ∨ (a = .unfilter (BitVec.ofNat 8 j.val) ∧ term = none))
        ∧ text = c.text ∧ terms = c.terms.set j.val term ∧ calls = decide (c.terms[j.val] ≠ term) ∧ full = 0)
    ∨ (∃ (slot : Byte) (term : Option Term), 3 < slot.toNat ∧ (a = .filter slot term ∨ a = .unfilter slot)
        ∧ text = c.text ∧ terms = c.terms ∧ calls = false ∧ full = 0)

/-! ## The words of the transmit arbiter -/

/-- A queue's head is blocked: it is a released result of a screen of which the other queue holds a result released
earlier (11 R187). -/
def OutItem.BlockedBy (head : OutItem) (other : List OutItem) : Prop :=
  ∃ i n, head.release = some (i, n) ∧ ∃ x ∈ other, ∃ m, x.release = some (i, m) ∧ m < n

/-! ## The words of the search queue and of the directory -/

/-- No entry of a search queue is WAITING. -/
def NoneWaits (queue : List SearchEntry) : Prop := ∀ e ∈ queue, e.unit ≠ none

/-- A unit takes the oldest WAITING entry of a queue, which is RUNNING on it after that (04 R56). -/
def Granted (u : Fin 2) (queue : List SearchEntry) (e : SearchEntry) (after : List SearchEntry) : Prop :=
  ∃ older younger, queue = older ++ e :: younger ∧ NoneWaits older ∧ e.unit = none
    ∧ after = older ++ { e with unit := some u } :: younger

/-- A unit that begins the search of a key (04 R59). -/
def State.begun (s : State) (k : Key) : SearchUnit :=
  { state := .running, key := k, cost := setPlace (.replicate 4096 16777215) k.origin 0, pred := .replicate 4096 none
    settled := .replicate 4096 false, frontier := [(0, k.origin)]
    targets := match k.kind with
      | .waypoint => [BitVec.ofNat 12 k.number.toNat]
      | .listing => ((s.listing k.number.toNat).entrances.toList.take (s.listing k.number.toNat).entranceCount.toNat).eraseDups
    settledCount := 0, restarts := 0, detour := false, captured := some s.map.generation, result := none }

/-- The lookup of a key misses, and leaves the cache so: no match stands there, or one of another generation or with a segment
of the sweep list, which the lookup invalidates (06 R104). -/
def State.MissesWith (s : State) (k : Key) (after : CacheState) : Prop :=
  (s.rcc.find k = none ∧ after = s.rcc)
    ∨ ∃ e x, s.rcc.find k = some e ∧ x = s.rcc.at e
      ∧ (x.generation ≠ s.map.generation ∨ ∃ g ∈ x.segments, g ∈ s.rcc.sweep)
      ∧ after = { s.rcc with entries := s.rcc.entries.set e.val { x with valid := false, referenced := false } }

/-- A unit's entry has left the search queue and the unit has become IDLE, or has taken the oldest WAITING entry: the queue
and the unit after that (04 R56, R69). -/
def State.Freed (s : State) (u : Fin 2) (after : List SearchEntry) (v : SearchUnit) : Prop :=
  ∃ left, left = (s.search.queue.filter fun e => decide (e.unit ≠ some u))
    ∧ ((NoneWaits left ∧ after = left ∧ v = SearchUnit.idle) ∨ ∃ e, Granted u left e after ∧ v = s.begun e.key)

/-- A search of a HIDDEN listing (04 R65). -/
def State.seeksHidden (s : State) (k : Key) : Prop := k.kind = .listing ∧ (s.listing k.number.toNat).status = .hidden

/-- The settle step of a unit ends its search without a route: NOT_FOUND for a HIDDEN listing, NO_ROUTE at an empty frontier,
NO_STABLE_ROUTE at the third path with a closed segment; and the unit as the step leaves it but for its result (04 R61, R64 to
R67). -/
def State.EndsWithout (s : State) (old v : SearchUnit) (code : ResultCode) : Prop :=
  (old.frontier = [] ∧ v = old
      ∧ ((code = .notFound ∧ s.seeksHidden old.key) ∨ (code = .noRoute ∧ ¬ s.seeksHidden old.key)))
    ∨ ∃ c w rest head, old.frontier = (c, w) :: rest ∧ w ∈ old.targets
      ∧ head = { old with frontier := rest, settled := setPlace old.settled w true, settledCount := old.settledCount + 1 }
      ∧ ((code = .notFound ∧ s.seeksHidden old.key ∧ v = head)
        ∨ (code = .noStableRoute ∧ ¬ s.seeksHidden old.key ∧ 2 ≤ old.restarts
          ∧ (∃ g ∈ s.pathTo head w, (s.segment g).closed = true)
          ∧ v = { head with restarts := old.restarts + 1, detour := true }))

/-- The listings from `a` to before `b` are the run of those whose keys start with a prefix, from the first one on, and the
run is not empty (08 R138). -/
def State.PrefixRun (s : State) (pfx : List Byte) (a b : Nat) : Prop :=
  a < b ∧ b ≤ s.listingCount ∧ (∀ j < a, startsWith pfx (s.listing j) = false)
    ∧ (∀ j, a ≤ j → j < b → startsWith pfx (s.listing j) = true)
    ∧ (b < s.listingCount → startsWith pfx (s.listing b) = false)

/-- The requesters that the work over the map holds (04 R54, 05 R80, 08 R131). -/
def State.heldRefs (s : State) : List Ref :=
  s.search.queue.flatMap (·.requesters)
    ++ (match s.rco.job with | none => [] | some j => j.requesters)
    ++ (match s.dir.scan with | none => [] | some c => if c.detached then [] else [c.query.ref])
    ++ s.dir.queue.map (·.ref)

/-- Every outstanding entry that is not DONE is held by some work (09 R150). -/
def State.EveryEntryHeld (s : State) : Prop :=
  ∀ i : Fin 4, ∀ e ∈ s.screens[i.val].outstanding, e.result = none → { screen := i, id := e.id } ∈ s.heldRefs

/-! ## The words of a result that leaves, and of a requester that is detached -/

/-- An entry of a panel. -/
def Entry.ofPanel (e : Entry) : Bool := match e.asker with | .panel _ => true | .host _ => false

/-- The payload that an entry leaves with, behind the screen and the sequence number where a panel asked: its result where
it is DONE, else this code with nothing found (08 R141, 09 R154, 11 R191). -/
def Entry.leavesWith (i : Fin 4) (code : Byte) (e : Entry) : List Byte :=
  match e.result, e.ask with
  | some r, _ => e.bytes i r
  | none, .route k _ =>
    [code, 0] ++ le 2 k.origin.toNat ++ [k.kind.code] ++ le 2 k.number.toNat ++ [0, 0] ++ [BitVec.ofNat 8 k.profile.val]
      ++ List.replicate 14 0
  | none, .directory off => [code, 0, 0] ++ le 2 off.toNat ++ [0, 0, 0, 0, 0, 0]
  | none, .fence token => [code, BitVec.ofNat 8 i.val] ++ le 4 token.toNat

/-- The mask kind, the reply class and the report class of what an entry leaves as (11 R185, R188). -/
def Ask.leavesAs : Ask → MaskKind × Byte × Byte
  | .route _ _ => (.route, 0x8B, 0x43)
  | .directory _ => (.matchList, 0x8C, 0x44)
  | .fence _ => (.matchList, 0x8D, 0x44)

/-- An entry of a panel whose report is discarded under the mask (11 R189). -/
def LinkState.discards (l : LinkState) (e : Entry) : Bool := e.ofPanel && l.masked e.ask.leavesAs.1

/-- What one entry leaves as, at this place of its screen's release order (09 R151, 11 R186). -/
def Entry.leavesAt (i : Fin 4) (code : Byte) (place : Nat) (e : Entry) : OutQueue × OutItem :=
  match e.asker with
  | .host tag =>
    (.replies, { cls := e.ask.leavesAs.2.1, tag := tag, payload := e.leavesWith i code, release := some (i, place)
                 resets := false })
  | .panel seq =>
    (.reports, { cls := e.ask.leavesAs.2.2, tag := 0, payload := [BitVec.ofNat 8 i.val, seq] ++ e.leavesWith i code
                 release := some (i, place), resets := false })

/-- What these entries of a screen leave as, one after another, those discarded under the mask left out. -/
def State.leaving (s : State) (i : Fin 4) (code : Byte) (es : List Entry) : List (OutQueue × OutItem) :=
  (es.filter fun e => !s.link.discards e).zipIdx.map fun x =>
    x.1.leavesAt i code (s.screens[i.val].released + x.2)

/-- After these entries have left a screen's list in order, with the rest of it as given: each host's as its reply, each
panel's as its report in the slot reserved for it or, under the mask, as a pending flag (09 R151, 11 R189). -/
def State.afterLeaving (s : State) (i : Fin 4) (code : Byte) (es rest : List Entry) : State :=
  { s with
    link := { s.link with
      replies := s.link.replies ++ ((s.leaving i code es).filter fun x => decide (x.1 = .replies)).map (·.2)
      reports := s.link.reports ++ ((s.leaving i code es).filter fun x => decide (x.1 = .reports)).map (·.2)
      reserved := s.link.reserved - es.countP Entry.ofPanel
      suppressed := s.link.suppressed
        ||| (if ∃ e ∈ es, s.link.discards e = true ∧ e.ask.leavesAs.1 = .route then 0b000100 else 0)
        ||| (if ∃ e ∈ es, s.link.discards e = true ∧ e.ask.leavesAs.1 = .matchList then 0b001000 else 0) }
    screens := s.screens.set i.val { s.screens[i.val] with
      outstanding := rest, released := s.screens[i.val].released + (s.leaving i code es).length } }

/-- All requesters of a list are among these. -/
def allAmong (refs requesters : List Ref) : Bool := requesters.all fun r => refs.contains r

/-- A unit that the detachment of these requesters takes out of HELD or HANDOFF: its entry keeps no requester
(04 R74). -/
def State.drops (s : State) (refs : List Ref) (u : Fin 2) : Bool :=
  (s.search.queue.any fun e => decide (e.unit = some u) && allAmong refs e.requesters)
    && (decide (s.search.units[u.val].state = .held) || decide (s.search.units[u.val].state = .handoff))

/-- After these requesters have been detached from the work that holds them: an entry, a job or a waiting query that keeps
none is gone, a HELD or HANDOFF unit of such an entry is IDLE and its place is withdrawn, a RUNNING one goes on to the end
of its settle step, and so does a scan to the end of its examination (04 R73, R74, 05 R99, 08 R143). -/
def State.afterDetaching (s : State) (refs : List Ref) : State :=
  { s with
    search := {
      queue := (s.search.queue.filter fun e => !allAmong refs e.requesters).map fun e =>
        { e with requesters := e.requesters.filter fun r => !refs.contains r }
      units := .ofFn fun u => if s.drops refs u then SearchUnit.idle else s.search.units[u.val] }
    rco := {
      queue := s.rco.queue.filter fun u => !(s.drops refs u && decide (s.search.units[u.val].state = .handoff))
      job := match s.rco.job with
        | none => none
        | some j => if allAmong refs j.requesters then none
            else some { j with requesters := j.requesters.filter fun r => !refs.contains r } }
    dir := { s.dir with
      queue := s.dir.queue.filter fun q => !refs.contains q.ref
      scan := s.dir.scan.map fun z => { z with detached := z.detached || refs.contains z.query.ref } } }

/-- The detachment of these requesters sets nothing off: in SERVICE no unit is IDLE after it while an entry waits, the
composer keeps its job or has no place left to take, and the directory keeps its scan or has no query left (04 R56,
05 R81, 08 R137). -/
def State.quietAfterDetaching (s : State) (refs : List Ref) : Prop :=
  (s.mod.mode ≠ .service ∨ (∀ e ∈ s.search.queue, e.unit = none → allAmong refs e.requesters = true)
      ∨ ∀ u : Fin 2, s.search.units[u.val].state ≠ .idle ∧ s.drops refs u = false)
    ∧ ((∃ j, s.rco.job = some j ∧ allAmong refs j.requesters = false)
      ∨ ∀ u ∈ s.rco.queue, s.drops refs u = true ∧ s.search.units[u.val].state = .handoff)
    ∧ (s.dir.scan ≠ none ∨ ∀ q ∈ s.dir.queue, q.ref ∈ refs)

/-! ## The words of a frame's processing -/

/-- The Chebyshev distance of two cells (10 R172). -/
def cellsApart (a b : Nat × Nat) : Nat := max ((a.1 - b.1) + (b.1 - a.1)) ((a.2 - b.2) + (b.2 - a.2))

/-- The place of a cell in row-major scan order (10 R169). -/
def scanPlace (c : Nat × Nat) : Nat := 40 * c.2 + c.1

/-- The peaks that no track in use claims. -/
def unclaimed (peaks : List Peak) (ts : Vector Track 5) (m : Fin 5 → Option Peak) : List Peak :=
  peaks.filter fun k => decide (∀ j : Fin 5, ts[j.val].state ≠ .free → m j ≠ some k)

/-- The numbers of the FREE tracks, lowest first. -/
def freeNumbers (ts : Vector Track 5) : List (Fin 5) := (List.finRange 5).filter fun i => decide (ts[i.val].state = .free)

/-- How the peaks of a frame go to the tracks (10 R172): each track in use takes in index order the nearest peak within 3
cells that no lower one has taken, the first in scan order among equally near ones; the peaks left open the FREE tracks,
lowest number first. -/
def Matching (peaks : List Peak) (ts : Vector Track 5) (m : Fin 5 → Option Peak) : Prop :=
  (∀ i : Fin 5, ts[i.val].state ≠ .free → ∀ left, left = (peaks.filter fun k =>
        decide (∀ j : Fin 5, j < i → ts[j.val].state ≠ .free → m j ≠ some k)) →
      (m i = none → ∀ k ∈ left, 3 < cellsApart ts[i.val].cell k.cell)
      ∧ ∀ k, m i = some k → k ∈ left ∧ cellsApart ts[i.val].cell k.cell ≤ 3
        ∧ ∀ o ∈ left, o ≠ k → cellsApart ts[i.val].cell k.cell < cellsApart ts[i.val].cell o.cell
          ∨ (cellsApart ts[i.val].cell k.cell = cellsApart ts[i.val].cell o.cell ∧ scanPlace k.cell < scanPlace o.cell))
    ∧ ∀ (n : Nat) (i : Fin 5), (freeNumbers ts)[n]? = some i → m i = (unclaimed peaks ts m)[n]?

/-- A PENDING track whose counts have been taken is tested: it becomes DOWN, with a CONTACT DOWN, or SUPPRESSED, or stays
(10 R173, R174). `lead` says that it takes the primary flag. A CONTACT report is given by its kind code and position. -/
def Track.tested (f : Processing) (lead : Bool) (t : Track) : Track × Option (Byte × (Nat × Nat)) :=
  if f.config.nLo ≤ t.lowCount ∧ f.config.nHi ≤ t.highCount then
    ({ t with state := .down, reported := t.position, missing := 0, hotspot := hitTest f.page t.position
              page := f.pageNumber, primary := lead }, some (0, t.position))
  else if 16 ≤ t.lowCount then ({ t with state := .suppressed }, none)
  else (t, none)

/-- A track brought forward by its state and the peak it matched or was opened by, if any, and the CONTACT report that it
makes (10 R172 to R174). The values of a FREE or PENDING track that the spec does not give are log entry 35. -/
def Track.brought (f : Processing) (lead : Bool) (t : Track) (peak : Option Peak) :
    Track × Option (Byte × (Nat × Nat)) :=
  match t.state, peak with
  | .free, none => (t, none)
  | .free, some k => Track.tested f lead
      { state := .pending, cell := k.cell, position := k.position, reported := (0, 0), lowCount := 1
        highCount := if f.config.high.toNat ≤ k.strength then 1 else 0, missing := 0, hotspot := none, page := 0
        primary := false }
  | .pending, none => (Track.free, none)
  | .pending, some k => Track.tested f lead
      { t with cell := k.cell, position := k.position, missing := 0, lowCount := min (t.lowCount + 1) 16
               highCount := min (t.highCount + if f.config.high.toNat ≤ k.strength then 1 else 0) 16 }
  | .suppressed, none => (Track.free, none)
  | .suppressed, some k => ({ t with cell := k.cell, position := k.position, missing := 0 }, none)
  | .down, none =>
    if t.missing = 0 then ({ t with missing := 1 }, none) else (Track.free, some (2, t.position))
  | .down, some k =>
    let dx := (k.position.1 - t.reported.1) + (t.reported.1 - k.position.1)
    let dy := (k.position.2 - t.reported.2) + (t.reported.2 - k.position.2)
    if k.position ≠ t.reported ∧ (f.config.move.toNat ≤ dx ∨ f.config.move.toNat ≤ dy) then
      ({ t with cell := k.cell, position := k.position, missing := 0, reported := k.position }, some (1, k.position))
    else ({ t with cell := k.cell, position := k.position, missing := 0 }, none)

/-- The track that becomes DOWN takes the primary flag: no track of the panel holds it, those of lower number as the frame
leaves them, those of higher number as it found them (10 R174). -/
def takesLead (before after : Vector Track 5) (i : Fin 5) : Bool :=
  decide (∀ j : Fin 5, (j < i → after[j.val].primary = false) ∧ (i < j → before[j.val].primary = false))

/-! ## The words of composition -/

/-- A provisional step merges into the one before it (05 R86). -/
def RouteStep.Joins (a b : RouteStep) : Prop :=
  ((a.action = .walk ∧ b.action = .walk) ∨ (a.action = .takeTravelator ∧ b.action = .takeTravelator))
    ∧ b.turn = .straight ∧ a.landmark = 0x3FF

/-- A step is a run of provisional steps merged (05 R86). -/
def RouteStep.MergedFrom (run : List RouteStep) (m : RouteStep) : Prop :=
  run.IsChain RouteStep.Joins ∧ ∃ a b, run.head? = some a ∧ run.getLast? = some b
    ∧ m = { a with length := (run.map (·.length)).sum, levelCode := b.levelCode, endWaypoint := b.endWaypoint
                   landmark := b.landmark }

/-- The provisional step of a segment, behind a segment of this heading where one is before it (05 R83, R85). -/
def State.stepOf (s : State) (before : Option (BitVec 8)) (g : Segment) : RouteStep :=
  { action := match g.kind with
      | .walk => .walk | .escalator => .takeEscalator | .stairs => .takeStairs | .lift => .takeLift
      | .ramp => .takeRamp | .travelator => .takeTravelator | .door => .passDoor | .outdoor => .goOutside
    turn := match before with | none => .none | some h => turnClass h g.heading
    length := if g.kind = .lift then 0 else g.length.toNat
    levelCode := (s.waypoint g.dst.toNat).levelCode
    endWaypoint := g.dst
    landmark := (s.waypoint g.dst.toNat).landmark }

/-- The bytes that a table keeps of a record written to it: the record it then holds (01 R4, R9, R10, 03 R40, 08 R129). -/
def TableId.stored (t : TableId) (r : List Byte) : List Byte :=
  match t with
  | .waypoints => (Waypoint.ofBytes r).toBytes
  | .segments => (Segment.ofBytes r).toBytes
  | .listings => (Listing.ofBytes r).toBytes
  | .profiles => (Profile.ofBytes r).toBytes
  | .curve _ => [byteAt r 0]
  | .baseline _ => baselineToBytes (baselineOfBytes r)

/-- The pass of the map check that makes findings of a kind (02 section 2.5). -/
def FindingKind.pass : FindingKind → Nat
  | .emptyMap => 1
  | .segmentEndpoint | .segmentOrder | .levelMismatch | .kindLevel => 2
  | .entranceInvalid | .keySymbol | .keyOrder => 3
  | .originInvalid => 4

/-- The reset values of every block, without the link bit rate and the report queue (02 R21, R37, 01 R2 to R11, 03 R41,
04 R57, 06 R100, 08 R131, 09 R146, R162, 10 R164, R180, 11 R187, R189, R190). -/
def State.AtReset (t : State) : Prop :=
  (t.mod = { mode := .loading, label := 0, findings := [], findingCount := 0, commit := none, freezing := none
             resetAsked := false })
    ∧ (t.map.waypoints = [] ∧ t.map.segments = [] ∧ t.dir.listings = [] ∧ t.map.closedCount = 0
        ∧ t.map.startIndex = none ∧ t.map.cursor = none ∧ t.map.generation = 0)
    ∧ (∀ k : Fin 8, t.profiles[k.val].weights.toList = [16, 20, 24, 32, 16, 14, 16, 20]
        ∧ t.profiles[k.val].penalty = 400 ∧ t.profiles[k.val].speed = 13 ∧ t.profiles[k.val].liftWait = 30)
    ∧ (t.search.queue = [] ∧ t.rco.queue = [] ∧ t.rco.job = none ∧ t.dir.queue = [] ∧ t.dir.scan = none)
    ∧ (∀ u : Fin 2, t.search.units[u.val] =
        { state := .idle, key := { origin := 0, kind := .listing, number := 0, profile := 0 }
          cost := .replicate 4096 16777215, pred := .replicate 4096 none, settled := .replicate 4096 false
          frontier := [], targets := [], settledCount := 0, restarts := 0, detour := false, captured := none
          result := none })
    ∧ (∀ e : Fin 512, (t.rcc.at e).valid = false ∧ (t.rcc.at e).referenced = false ∧ (t.rcc.at e).alternate = false
        ∧ (t.rcc.at e).generation = 0
        ∧ (t.rcc.at e).route.key = { origin := 0, kind := .listing, number := 0, profile := 0 }
        ∧ (t.rcc.at e).route.steps = [] ∧ (t.rcc.at e).segments = [])
    ∧ ((∀ g : Fin 64, t.rcc.hands[g.val] = 0) ∧ t.rcc.sweep = [] ∧ t.rcc.scan = none)
    ∧ (∀ i : Fin 4, t.screens[i.val] =
        { enabled := false, origin := 0, heading := 0, profile := 0, width := 1080, height := 1920, timeout := 60
          active := false, idle := none, text := [], terms := Terms.empty, outstanding := [], seq := 0, released := 0
          nextId := 0 })
    ∧ (∀ p : Fin 4, t.panels[p.val].state = .off
        ∧ t.panels[p.val].config =
            { enabled := false, source := .sensor, low := 32, high := 64, nLo := 2, nHi := 1, move := 8 }
        ∧ (∀ k : Fin 256, t.panels[p.val].curve[k.val].toNat = k.val)
        ∧ (∀ k : Fin 960, t.panels[p.val].baseline[k.val] = 0)
        ∧ t.panels[p.val].page = [] ∧ t.panels[p.val].pageNumber = 0
        ∧ (∀ k : Fin 5, t.panels[p.val].tracks[k.val] = Track.free) ∧ t.panels[p.val].timer = none
        ∧ t.panels[p.val].buffer = none ∧ t.panels[p.val].processing = none ∧ t.panels[p.val].capture = none
        ∧ t.panels[p.val].drift = 0 ∧ t.panels[p.val].badFrame = false ∧ t.panels[p.val].overContact = false)
    ∧ (t.link.hunter = .hunting ∧ t.link.inbound = [] ∧ t.link.slotsUsed = 0 ∧ t.link.replies = []
        ∧ t.link.reserved = 0 ∧ t.link.sending = none ∧ t.link.lastUsed = .reports ∧ t.link.mask = 0
        ∧ t.link.suppressed = 0 ∧ t.link.overrun = false)

/-- A law is kept by every step: from every state that meets it, a step that answers a next state gives one that
meets it. -/
def KeptByEveryStep (law : State → Prop) : Prop := ∀ s t, law s → step s = .next t → law t

/-! ## Mode laws -/

/-- R26, with the composer and the directory, which the same means keep empty (02 R25, R80, R131). -/
def State.RestsOutsideService (s : State) : Prop :=
  s.mod.mode.serving = false →
    s.search.queue = [] ∧ (∀ u : Fin 2, s.search.units[u.val].state = .idle)
      ∧ (∀ e : Fin 512, (s.rcc.at e).valid = false)
      ∧ s.rco.queue = [] ∧ s.rco.job = none ∧ s.dir.queue = [] ∧ s.dir.scan = none

/-- A MAP_COMMIT waits for its reply exactly while the mode is CHECKING (02 R27, R33 to R35). -/
def State.CheckInHand (s : State) : Prop := s.mod.commit.isSome = true ↔ s.mod.mode = .checking

/-- In FROZEN no unit is RUNNING, once the MODE_SET that entered it has been answered (02 R24, 04 R75). -/
def State.FrozenHolds (s : State) : Prop :=
  (s.mod.freezing.isSome = true → s.mod.mode = .frozen)
    ∧ (s.mod.mode = .frozen → s.mod.freezing = none → ∀ u : Fin 2, s.search.units[u.val].state ≠ .running)

/-! ## Map laws -/

/-- The closed-segment count is the number of CLOSED records (01 R5), and no count passes its capacity (01 R6). -/
def State.CountsRight (s : State) : Prop :=
  s.map.closedCount = s.map.segments.countP (·.closed)
    ∧ s.waypointCount ≤ 4096 ∧ s.segmentCount ≤ 16384 ∧ s.listingCount ≤ 2048

/-! ## Search laws -/

/-- R60 of one unit: the frontier is in order, holds each waypoint at most once and with its working cost, no settled
waypoint, and no cost above 16,777,214. -/
def SearchUnit.FrontierLaw (u : SearchUnit) : Prop :=
  u.frontier.Pairwise (fun a b => a.1 < b.1 ∨ (a.1 = b.1 ∧ a.2.toNat < b.2.toNat))
    ∧ (u.frontier.map (·.2)).Nodup
    ∧ ∀ x ∈ u.frontier, x.1 = place u.cost x.2 ∧ place u.settled x.2 = false ∧ x.1 ≤ 16777214

/-- R60 of both units. -/
def State.FrontierLaw (s : State) : Prop := ∀ u : Fin 2, s.search.units[u.val].FrontierLaw

/-- No two search-queue entries carry the same key, each carries a requester, and each unit holds at most one
(04 R54, R55). -/
def State.QueueLaw (s : State) : Prop :=
  (s.search.queue.map (·.key)).Nodup ∧ (∀ e ∈ s.search.queue, e.requesters ≠ [])

/-- The laws of the search queue and the units together. -/
def State.SearchLaw (s : State) : Prop := s.FrontierLaw ∧ s.QueueLaw

/-! ## Cache laws -/

/-- R102: no two valid entries hold the same key, and every valid entry sits in its primary group with alternate 0 or
in its secondary group with alternate 1. -/
def State.CacheLaw (s : State) : Prop :=
  (∀ e f : Fin 512, (s.rcc.at e).valid = true → (s.rcc.at f).valid = true →
      (s.rcc.at e).route.key = (s.rcc.at f).route.key → e = f)
    ∧ ∀ e : Fin 512, (s.rcc.at e).valid = true →
        ((s.rcc.at e).alternate = false ∧ e.val / 8 = (primaryGroup (s.rcc.at e).route.key).val)
          ∨ ((s.rcc.at e).alternate = true ∧ e.val / 8 = (secondaryGroup (s.rcc.at e).route.key).val)

/-- R110: the sweep list holds at most 8 segment numbers and none twice, and a scan is in hand exactly while it is not
empty (R111). -/
def State.SweepLaw (s : State) : Prop :=
  s.rcc.sweep.length ≤ 8 ∧ s.rcc.sweep.Nodup ∧ (s.rcc.scan.isSome = true ↔ s.rcc.sweep ≠ [])

/-- Why no hit uses a closed segment (06 R116): every closed segment of a valid entry still stands in the sweep list,
and every valid entry that uses the segment being scanned for lies at or behind the scan position. -/
def State.ClosuresCovered (s : State) : Prop :=
  s.RestsOutsideService ∧ s.SweepLaw
    ∧ (∀ e : Fin 512, (s.rcc.at e).valid = true → ∀ g ∈ (s.rcc.at e).segments,
        (s.segment g).closed = true → g ∈ s.rcc.sweep)
    ∧ (∀ e p : Fin 512, ∀ g rest, s.rcc.sweep = g :: rest → s.rcc.scan = some p → (s.rcc.at e).valid = true →
        g ∈ (s.rcc.at e).segments → p.val ≤ e.val)

/-! ## Session laws -/

/-- The laws of one screen context (09 R146, R150, R158). -/
def Screen.Law (c : Screen) : Prop :=
  c.outstanding.length ≤ 4
    ∧ c.text.length ≤ 16 ∧ (∀ b ∈ c.text, 1 ≤ b.toNat ∧ b.toNat ≤ 40)
    ∧ (c.active = true ↔ c.idle.isSome = true)
    ∧ 10 ≤ c.timeout ∧ c.timeout ≤ 600
    ∧ (c.enabled = false →
        c.active = false ∧ c.idle = none ∧ c.text = [] ∧ c.terms = Terms.empty ∧ c.outstanding = [])

/-- The laws of the four screen contexts. -/
def State.SessionLaw (s : State) : Prop := ∀ i : Fin 4, s.screens[i.val].Law

/-! ## Link laws -/

/-- The places that two queued items hold in one screen's release order are as given (11 R186). -/
def OutItem.before (a b : OutItem) : Prop :=
  ∀ i m n, a.release = some (i, m) → b.release = some (i, n) → m < n

/-- The two outbound queues are the two halves of one history, in which the released results of each screen stand in
its release order; and every place that a queued item holds has been given out (09 R151, 11 R186, R187). -/
def State.ReleaseOrder (s : State) : Prop :=
  (∃ h : List (OutQueue × OutItem),
      (h.filter fun x => decide (x.1 = .replies)).map (·.2) = s.link.replies
        ∧ (h.filter fun x => decide (x.1 = .reports)).map (·.2) = s.link.reports
        ∧ h.Pairwise fun x y => x.2.before y.2)
    ∧ ∀ a ∈ s.link.replies ++ s.link.reports, ∀ i n, a.release = some (i, n) → n < s.screens[i.val].released

/-- No DONE entry stands at the head of an outstanding list: it would have been released (09 R151). -/
def State.HeadsWait (s : State) : Prop := ∀ i : Fin 4, s.screens[i.val].headWaits

/-- The panel-originated entries of a screen's outstanding list. -/
def Screen.panelEntries (c : Screen) : Nat := c.outstanding.countP Entry.ofPanel

/-- The host-originated entries of a screen's outstanding list. -/
def Screen.hostEntries (c : Screen) : Nat :=
  c.outstanding.countP fun e => !e.ofPanel

/-- One report slot is reserved for each panel-originated entry, and no more than 32 are held and reserved
(11 R186, 09 R156). -/
def State.ReportSlotLaw (s : State) : Prop :=
  s.link.reserved = (s.screens.toList.map Screen.panelEntries).sum
    ∧ s.link.reportsHeld + s.link.reserved ≤ 32

/-- The replies a panel still owes: to a capture in hand and to injected frames that wait or are being processed
(10 R167, R179). -/
def Panel.owed (q : Panel) : Nat :=
  (match q.capture with | some _ => 1 | none => 0)
    + (match q.buffer with | some f => (match f.inject with | some _ => 1 | none => 0) | none => 0)
    + (match q.processing with | some f => (match f.frame.inject with | some _ => 1 | none => 0) | none => 0)

/-- The reply being sent, if one is. -/
def LinkState.sendingReply (l : LinkState) : Nat :=
  match l.sending with | some t => if t.queue = .replies then 1 else 0 | none => 0

/-- Every request the link has accepted and not yet finished answering, counted where it stands: in the inbound queue,
with its owner, in the reply queue, or on TXD (11 R183, R185). -/
def State.unanswered (s : State) : Nat :=
  s.link.inbound.length
    + ((match s.mod.commit with | some _ => 1 | none => 0) + (match s.mod.freezing with | some _ => 1 | none => 0))
    + (s.screens.toList.map Screen.hostEntries).sum
    + (s.panels.toList.map Panel.owed).sum
    + s.link.replies.length + s.link.sendingReply

/-! ## Panel laws -/

/-- The laws of one panel (10 R164, R171, R178, R179). -/
def Panel.Law (q : Panel) : Prop :=
  (q.capture.isSome = true ↔ q.state = .capturing)
    ∧ (q.state ≠ .running → ∀ k : Fin 5, q.tracks[k.val] = Track.free)
    ∧ (∀ j k : Fin 5, q.tracks[j.val].primary = true → q.tracks[k.val].primary = true → j = k)
    ∧ (∀ k : Fin 5, q.tracks[k.val].primary = true → q.tracks[k.val].state = .down)
    ∧ (∀ f, q.processing = some f → (f.role = .detect → q.state = .running) ∧ (f.role = .capture → q.state = .capturing))
    ∧ q.drift ≤ 7
    ∧ (q.state = .off ↔ q.config.enabled = false)

/-- The laws of the four panels. -/
def State.PanelLaw (s : State) : Prop := ∀ p : Fin 4, s.panels[p.val].Law

/-- Every accepted request holds one reply slot until its reply has been sent, and gets one reply: the slots in use are
the requests not yet answered, at most 24 of them, at most 8 in the inbound queue (11 R183, R185). -/
def State.EverySlotOwed (s : State) : Prop :=
  s.CheckInHand ∧ s.PanelLaw
    ∧ s.link.slotsUsed = s.unanswered ∧ s.link.slotsUsed ≤ 24 ∧ s.link.inbound.length ≤ 8

end Sys2Proof.Machine
end

