-- ==== Sys2Proof/Certificates/Slice0/Obligations.lean ====
section
/-! DEFINITION. The statements for the provers, in the order of OBLIGATIONS.json.

A statement of a command's effect gives the whole next state, so that what it does not name is unchanged: its frame is
part of the equation. Byte lists are payloads as the link carries them. Throughout, a request row takes the frame at the
head of the inbound queue, and a command that finds nothing to act on changes nothing: the model's choice, log entry 1. -/

section
open Sys2Proof Sys2Proof.Machine

/-! ## The step, time and reset -/

/-- A step carries out the command at the front of the queue, with the queue's rest. -/
def Obligations.StepTakesFrontCommand : Prop :=
  ∀ (c : Instr) (s : State) (rest : List Instr),
    step { s with pending := c :: rest } = exec c { s with pending := rest }

/-- The model's choice (log entry 2): a step on an empty queue is one millisecond. In a millisecond in which no timer
reaches its end the running timers advance and nothing else changes; a gap of more than 2 ms discards the frame in hand
(R182), a frame timer expires at 250 ms (R166), and an idle timer at its timeout (R149). -/
def Obligations.OneMillisecond : Prop :=
  ∀ s : State, s.pending = [] →
    (s.resetLow = true → step s = .next s)
    ∧ (s.resetLow = false → s.link.hunter = .hunting →
        (∀ p : Fin 4, s.panels[p.val].timed = true → ∀ n, s.panels[p.val].timer = some n → n < 249) →
        (∀ i : Fin 4, s.screens[i.val].active = true → ∀ n, s.screens[i.val].idle = some n →
          n + 1 < s.screens[i.val].timeout * 1000) →
        step s = .next { s with
          panels := s.panels.map fun q => { q with timer := if q.timed then q.timer.map (· + 1) else q.timer }
          screens := s.screens.map fun c => { c with idle := c.idle.map (· + 1) } })
    ∧ (s.resetLow = false → s.link.hunter ≠ .hunting →
        (s.link.gap < 2 → Answers (step s) fun t =>
          t.link.hunter = s.link.hunter ∧ t.link.gap = s.link.gap + 1 ∧ t.link.inbound = s.link.inbound)
        ∧ (2 ≤ s.link.gap → Answers (step s) fun t =>
          t.link.hunter = .hunting ∧ t.link.inbound = s.link.inbound ∧ t.link.slotsUsed = s.link.slotsUsed))
    ∧ (∀ p : Fin 4, s.resetLow = false → s.panels[p.val].timed = true → s.panels[p.val].timer = some 249 →
        Answers (step s) fun t => t.panels[p.val].state = .fault ∧ t.panels[p.val].timer = none)
    ∧ (∀ i : Fin 4, s.resetLow = false → s.screens[i.val].active = true →
        s.screens[i.val].idle = some (s.screens[i.val].timeout * 1000 - 1) → 0 < s.screens[i.val].timeout →
        Answers (step s) fun t => t.screens[i.val].active = false ∧ t.screens[i.val].idle = none
          ∧ t.screens[i.val].text = [] ∧ t.screens[i.val].terms = Terms.empty)

/-- R37: while RESET_N is low every block holds its reset values and LINK_READY is low; at the release the straps are
read, and STARTED with part code 4416, revision 1 and cause 0 is the one queued message. No other command has an
effect while the pin is low, and a pin that is high cannot rise (log entry 1). Values of a FREE track that R171 does not give
(log entry 35), the two counters of a screen that number its entries and its releases, at 0 (log entry 13), and the link
bit rate while the pin is low (log entry 36) are the model's choice. -/
def Obligations.ResetPin : Prop :=
  ∀ s : State,
    (∃ t, exec .resetPinAssert s = .next t ∧ t.resetLow = true ∧ t.linkReady = false ∧ t.AtReset
      ∧ t.link.reports = [] ∧ t.pending = s.pending)
    ∧ (s.resetLow = true → ∀ straps, ∃ t, exec (.resetPinRelease straps) s = .next t ∧ t.resetLow = false
      ∧ t.AtReset ∧ t.link.rate = straps ∧ t.linkReady = true
      ∧ t.link.reports =
          [{ cls := 0x40, tag := 0, payload := [0x40, 0x11, 0x01, 0x00], release := none, resets := false }]
      ∧ t.pending = s.pending)
    ∧ (s.resetLow = false → ∀ straps, exec (.resetPinRelease straps) s = .next s)
    ∧ (s.resetLow = true → ∀ c, c ≠ .resetPinAssert → (∀ straps, c ≠ .resetPinRelease straps) → exec c s = .next s)

/-- Every law of Safety holds right after reset. -/
def Obligations.LawsHoldAtReset : Prop :=
  State.reset.RestsOutsideService ∧ State.reset.FrozenHolds ∧ State.reset.CountsRight ∧ State.reset.SearchLaw
    ∧ State.reset.CacheLaw ∧ State.reset.ClosuresCovered ∧ State.reset.SessionLaw ∧ State.reset.HeadsWait
    ∧ State.reset.ReleaseOrder ∧ State.reset.ReportSlotLaw ∧ State.reset.EverySlotOwed

/-- R38: a RESET FULL is answered OK and stops the dispatcher; the reset takes effect when that reply has been sent,
with the bit rate kept and STARTED carrying cause 1. Values of a FREE track that R171 does not give (log entry 35), and the
two counters of a screen that number its entries and its releases, at 0 (log entry 13), are the model's choice. -/
def Obligations.ResetFull : Prop :=
  (∀ s tag rest, s.headIs 0x04 tag [1] rest →
    exec .resetFull s = .next { s with
      link := { s.link with
        inbound := rest
        replies := s.link.replies ++ [{ cls := 0x84, tag := tag, payload := [0], release := none, resets := true }] }
      mod := { s.mod with resetAsked := true } })
  ∧ (∀ s : State, s.resetLow = false → s.mod.resetAsked = true →
    ∀ c ∈ ([.unknownClass, .stateGet, .modeSet, .mapCommit, .resetFull, .resetSessions, .loadOpen, .loadWrite,
        .loadRead, .segmentSet, .listingSet, .screenSet, .routeAsk, .directoryAsk, .fence, .cancel, .hotspotsSet,
        .panelSet, .panelInject, .baselineCapture, .reportMask, .unitPeek] : List Instr), exec c s = .next s)
  ∧ (∀ (s : State) (x : Sending), s.resetLow = false → s.link.sending = some x → x.resets = true →
    ∃ t, exec .transmitComplete s = .next t ∧ t.resetLow = false ∧ t.AtReset ∧ t.link.rate = s.link.rate
      ∧ t.link.reports =
          [{ cls := 0x40, tag := 0, payload := [0x40, 0x11, 0x01, 0x01], release := none, resets := false }]
      ∧ t.pending = s.pending)

/-- R39, R35, R179, R180: a RESET SESSIONS ends all work in flight, empties every outstanding list, ends every session, frees
every track, abandons a map check and a capture, keeps the map, the tables and the configurations, and is answered last.
The entries of each screen leave in join order, with ABORTED where they were not DONE. That MAP_COMMIT's and the captures'
ABORTED replies stand behind them, in this order, is the model's choice (log entry 11), and so are the values
of a FREE track that R171 does not give (log entry 35). A result discarded under the mask sets its pending flag. The frame
timer runs on, and restarts at the return from CAPTURING; that a frame in processing then plays no further part in the
panel's work is the model's reading (log entry 9). -/
def Obligations.ResetSessions : Prop :=
  ∀ s tag rest, s.CheckInHand → s.headIs 0x04 tag [0] rest →
    ∃ t xs rs, exec .resetSessions s = .next t
      ∧ t.link.replies = s.link.replies ++ xs
          ++ (match s.mod.commit with
            | none => []
            | some c => [{ cls := 0x83, tag := c.tag, payload := [10], release := none, resets := false }])
          ++ (([0, 1, 2, 3] : List (Fin 4)).filterMap fun p => s.panels[p.val].capture.map fun c =>
              { cls := 0x92, tag := c.tag, payload := [10, BitVec.ofNat 8 p.val], release := none, resets := false })
          ++ [{ cls := 0x84, tag := tag, payload := [0], release := none, resets := false }]
      ∧ t.link.reports = s.link.reports ++ rs
      ∧ (∀ x ∈ xs ++ rs, x.release ≠ none)
      ∧ (∀ i : Fin 4,
          xs.filter (fun x => decide (x.release.map (·.1) = some i))
              = ((s.leaving i 10 s.screens[i.val].outstanding).filter fun x => decide (x.1 = .replies)).map (·.2)
            ∧ rs.filter (fun x => decide (x.release.map (·.1) = some i))
              = ((s.leaving i 10 s.screens[i.val].outstanding).filter fun x => decide (x.1 = .reports)).map (·.2))
      ∧ (t.link.inbound = rest ∧ t.link.slotsUsed = s.link.slotsUsed ∧ t.link.hunter = s.link.hunter
          ∧ t.link.mask = s.link.mask ∧ t.link.sending = s.link.sending ∧ t.link.lastUsed = s.link.lastUsed
          ∧ t.link.overrun = s.link.overrun
          ∧ t.link.reserved = s.link.reserved - (s.screens.toList.map Screen.panelEntries).sum
          ∧ t.link.suppressed = s.link.suppressed
            ||| (if ([0, 1, 2, 3] : List (Fin 4)).any fun i => s.screens[i.val].outstanding.any fun e =>
                s.link.discards e && decide (e.ask.leavesAs.1 = .route) then 0b000100 else 0)
            ||| (if ([0, 1, 2, 3] : List (Fin 4)).any fun i => s.screens[i.val].outstanding.any fun e =>
                s.link.discards e && decide (e.ask.leavesAs.1 = .matchList) then 0b001000 else 0)
          ∧ t.link.rate = s.link.rate ∧ t.link.gap = s.link.gap)
      ∧ (t.mod.mode = (if s.mod.mode = .checking then .loading else s.mod.mode) ∧ t.mod.commit = none
          ∧ t.mod.label = s.mod.label ∧ t.mod.resetAsked = s.mod.resetAsked)
      ∧ t.map = s.map ∧ t.profiles = s.profiles ∧ t.dir.listings = s.dir.listings
      ∧ (t.search.queue = [] ∧ (∀ u : Fin 2, t.search.units[u.val] = SearchUnit.idle) ∧ t.rco.queue = []
          ∧ t.rco.job = none ∧ t.dir.queue = [] ∧ t.dir.scan = none)
      ∧ ((∀ e : Fin 512, (t.rcc.at e).valid = false) ∧ (∀ g : Fin 64, t.rcc.hands[g.val] = 0) ∧ t.rcc.sweep = []
          ∧ t.rcc.scan = none)
      ∧ (∀ i : Fin 4, t.screens[i.val] = { s.screens[i.val] with
          active := false, idle := none, text := [], terms := Terms.empty, outstanding := []
          released := s.screens[i.val].released + (s.leaving i 10 s.screens[i.val].outstanding).length })
      ∧ (∀ p : Fin 4, t.panels[p.val] = { s.panels[p.val] with
          state := if s.panels[p.val].state = .capturing then .running else s.panels[p.val].state
          tracks := .replicate 5 .free, drift := 0, capture := none
          timer :=
            if s.panels[p.val].state = .capturing then
              (if s.panels[p.val].config.source = .sensor then some 0 else none)
            else s.panels[p.val].timer
          processing :=
            if s.panels[p.val].capture = none then s.panels[p.val].processing
            else s.panels[p.val].processing.map fun f => { f with role := .stale } })

/-! ## The message link -/

/-- R183: a frame whose CHECK agrees joins the inbound queue and takes a reply slot where both have room, and is
discarded with OVERRUN set where not; one whose CHECK differs leaves no trace. -/
def Obligations.FrameReceivedIsJudged : Prop :=
  ∀ (s : State) (cls tag : Byte) (p : List Byte) (check : BitVec 16), s.resetLow = false → s.link.hunter = .hunting →
    p.length ≤ 1024 →
    (check ≠ frameCheck cls tag p →
      exec (.frameReceived cls tag p check) s = .next { s with link := { s.link with gap := 0 } })
    ∧ (check = frameCheck cls tag p → s.link.inbound.length < 8 → s.link.slotsUsed < 24 →
      exec (.frameReceived cls tag p check) s = .next { s with link := { s.link with
        gap := 0, inbound := s.link.inbound ++ [{ cls := cls, tag := tag, payload := p }]
        slotsUsed := s.link.slotsUsed + 1 } })
    ∧ (check = frameCheck cls tag p → 8 ≤ s.link.inbound.length ∨ 24 ≤ s.link.slotsUsed →
      exec (.frameReceived cls tag p check) s = .next { s with link := { s.link with gap := 0, overrun := true } })

/-- R182: the receive hunter, byte by byte, up to the byte that completes a frame; and a gap of more than 2 ms,
for which the command stands (log entry 3), and which discards the frame in hand. -/
def Obligations.ReceiveHunter : Prop :=
  ∀ (s : State) (b : Byte), s.resetLow = false →
    (exec .receiveGapTimeout s = .next { s with link := { s.link with hunter := .hunting, gap := 0 } })
    ∧ (s.link.hunter = .hunting → b ≠ 0x5A → exec (.linkByteReceived b) s = .next s)
    ∧ (s.link.hunter = .hunting → b = 0x5A →
        exec (.linkByteReceived b) s = .next { s with link := { s.link with hunter := .header [], gap := 0 } })
    ∧ (∀ got, s.link.hunter = .header got → got.length = 0 ∨ got.length = 2 →
        exec (.linkByteReceived b) s = .next { s with link := { s.link with hunter := .header (got ++ [b]), gap := 0 } })
    ∧ (∀ a, s.link.hunter = .header [a] → a.toNat + 256 * b.toNat ≤ 1024 →
        exec (.linkByteReceived b) s = .next { s with link := { s.link with hunter := .header [a, b], gap := 0 } })
    ∧ (∀ a, s.link.hunter = .header [a] → 1024 < a.toNat + 256 * b.toNat →
        exec (.linkByteReceived b) s = .next { s with link := { s.link with hunter := .hunting, gap := 0 } })
    ∧ (∀ x y cls, s.link.hunter = .header [x, y, cls] →
        exec (.linkByteReceived b) s = .next { s with link := { s.link with
          hunter := .body (x.toNat + 256 * y.toNat) cls b [], gap := 0 } })
    ∧ (∀ n cls tag got, s.link.hunter = .body n cls tag got → got.length + 1 < n + 2 →
        exec (.linkByteReceived b) s = .next { s with link := { s.link with
          hunter := .body n cls tag (got ++ [b]), gap := 0 } })

/-- R184: LINK_READY is low while the inbound queue holds 7 frames or more, while fewer than 2 of the 24 reply slots are
free, and while RESET_N is low; otherwise it is high. A frame that completes while it is high is accepted, and one that
completes while it is low is accepted where R183 allows it. -/
def Obligations.LinkReady : Prop :=
  ∀ s : State,
    (s.linkReady = false ↔ 7 ≤ s.link.inbound.length ∨ 24 < s.link.slotsUsed + 2 ∨ s.resetLow = true)
    ∧ ∀ (cls tag : Byte) (p : List Byte), p.length ≤ 1024 → s.link.hunter = .hunting →
        s.linkReady = true ∨ (s.resetLow = false ∧ s.link.inbound.length < 8 ∧ s.link.slotsUsed < 24) →
        Answers (exec (.frameReceived cls tag p (frameCheck cls tag p)) s) fun t =>
          t.link.inbound = s.link.inbound ++ [{ cls := cls, tag := tag, payload := p }]
            ∧ t.link.slotsUsed = s.link.slotsUsed + 1 ∧ t.link.overrun = s.link.overrun

/-- R185: a frame of a class that is no request class is answered UNKNOWN_CLASS with its CLASS byte; a payload of a
length that the table does not allow BAD_ARGUMENT; a request that the mode gate of R22 refuses WRONG_MODE. Each refusal
takes the frame, queues its one reply, and changes nothing else. -/
def Obligations.DispatcherRefuses : Prop :=
  (∀ s cls tag p rest, s.headIs cls tag p rest → cls.toNat = 0 ∨ 0x14 < cls.toNat →
    exec .unknownClass s = .next (s.answered rest 0x80 tag [12, cls]))
  ∧ (∀ row ∈ ([(.stateGet, 0x01, 0), (.modeSet, 0x02, 1), (.mapCommit, 0x03, 8), (.resetFull, 0x04, 1),
        (.resetSessions, 0x04, 1), (.loadOpen, 0x05, 4), (.loadRead, 0x07, 2), (.segmentSet, 0x08, 3),
        (.listingSet, 0x09, 3), (.screenSet, 0x0A, 12), (.routeAsk, 0x0B, 8), (.directoryAsk, 0x0C, 38),
        (.fence, 0x0D, 5), (.cancel, 0x0E, 1), (.panelSet, 0x10, 9), (.baselineCapture, 0x12, 1),
        (.reportMask, 0x13, 1), (.unitPeek, 0x14, 1)] : List (Instr × Byte × Nat)),
      ∀ s tag p rest, s.headIs row.2.1 tag p rest → p.length ≠ row.2.2 →
        exec row.1 s = .next (s.answered rest (row.2.1 + 0x80) tag [5]))
  ∧ (∀ s tag p rest, s.headIs 0x06 tag p rest → 1024 < p.length →
      exec .loadWrite s = .next (s.answered rest 0x86 tag [5]))
  ∧ (∀ s tag p rest, s.headIs 0x0F tag p rest → (∀ n ≤ 64, p.length ≠ 2 + 14 * n) →
      exec .hotspotsSet s = .next (s.answered rest 0x8F tag [5]))
  ∧ (∀ s tag p rest, s.headIs 0x11 tag p rest → (∀ n ≤ 64, p.length ≠ 3 + 4 * n) →
      exec .panelInject s = .next (s.answered rest 0x91 tag [5]))
  ∧ (∀ row ∈ ([(.modeSet, 0x02, 1, [.checking]), (.mapCommit, 0x03, 8, [.checking, .service, .frozen]),
        (.screenSet, 0x0A, 12, [.checking]), (.routeAsk, 0x0B, 8, [.loading, .checking]),
        (.directoryAsk, 0x0C, 38, [.loading, .checking])] : List (Instr × Byte × Nat × List Mode)),
      ∀ s tag p rest, s.headIs row.2.1 tag p rest → p.length = row.2.2.1 → s.mod.mode ∈ row.2.2.2 →
        exec row.1 s = .next (s.answered rest (row.2.1 + 0x80) tag [3]))

/-- R37, R181, R183, R186, R187: the arbiter begins to send the reply head when the report queue is empty or its head is
blocked, the report head when the reply queue is empty or its head is blocked, and of two heads that are not blocked the
one from the queue not used last; nothing while a frame is being sent (log entry 1). STARTED goes before a reply that has
come to wait beside it (R37 as the model reads it, log entry 30). The end of a transmission frees the item's slot. -/
def Obligations.Transmission : Prop :=
  ∀ (s reply report : State) (h k : OutItem) (q r : List OutItem), s.resetLow = false →
    reply = { s with link := { s.link with
      replies := q, lastUsed := .replies
      sending := some { queue := .replies, bytes := h.bytes, resets := h.resets } } } →
    report = { s with link := { s.link with
      reports := r, lastUsed := .reports
      sending := some { queue := .reports, bytes := k.bytes, resets := k.resets } } } →
    (∀ x, s.link.sending = some x → exec .transmitStart s = .next s)
    ∧ (s.link.sending = none → s.link.replies = [] → s.link.reports = [] → exec .transmitStart s = .next s)
    ∧ (s.link.sending = none → s.link.replies = h :: q → ¬ h.BlockedBy s.link.reports →
        (∀ o, s.link.reports.head? = some o → o.BlockedBy s.link.replies) → exec .transmitStart s = .next reply)
    ∧ (s.link.sending = none → s.link.reports = k :: r → ¬ k.BlockedBy s.link.replies →
        (∀ o, s.link.replies.head? = some o → o.BlockedBy s.link.reports) → exec .transmitStart s = .next report)
    ∧ (s.link.sending = none → s.link.replies = h :: q → s.link.reports = k :: r → ¬ h.BlockedBy s.link.reports →
        ¬ k.BlockedBy s.link.replies →
        (k.cls ≠ 0x40 → exec .transmitStart s = .next (if s.link.lastUsed = .reports then reply else report))
        ∧ (k.cls = 0x40 → exec .transmitStart s = .next report))
    ∧ h.bytes = [0x5A] ++ le 2 h.payload.length ++ [h.cls, h.tag] ++ h.payload
        ++ le 2 (crc (le 2 h.payload.length ++ [h.cls, h.tag] ++ h.payload)).toNat
    ∧ (∀ x, s.link.sending = some x → x.resets = false → x.queue = .replies →
        exec .transmitComplete s = .next { s with link := { s.link with
          sending := none, slotsUsed := s.link.slotsUsed - 1 } })
    ∧ (∀ x, s.link.sending = some x → x.resets = false → x.queue = .reports →
        exec .transmitComplete s = .next { s with link := { s.link with sending := none } })

/-- R187: both heads are never blocked at once. While something is queued and TXD is idle, the arbiter always finds a
frame to send. -/
def Obligations.ArbiterNeverStuck : Prop :=
  ∀ s : State, s.ReleaseOrder → s.resetLow = false → s.link.sending = none →
    s.link.replies ≠ [] ∨ s.link.reports ≠ [] →
    Answers (exec .transmitStart s) fun t => t.link.sending.isSome = true
      ∧ t.link.replies.length + t.link.reports.length + 1 = s.link.replies.length + s.link.reports.length

/-- R189: a REPORT_MASK replaces the six mask flags, offers SUPPRESSED for each kind it leaves unmasked whose pending flag
is set, in code order, and is then answered with the mask. Stated where the report queue has room for six more. -/
def Obligations.ReportMask : Prop :=
  ∀ s tag b rest, s.headIs 0x13 tag [b] rest → s.link.reportsHeld + s.link.reserved + 6 ≤ 32 →
    exec .reportMask s = .next { s with link := { s.link with
      inbound := rest
      mask := b.setWidth 6
      suppressed := s.link.suppressed &&& b.setWidth 6
      reports := s.link.reports ++
        (([0, 1, 2, 3, 4, 5].filter fun k => s.link.suppressed.getLsbD k && !b.getLsbD k).map fun k =>
          { cls := 0x47, tag := 0, payload := [BitVec.ofNat 8 k], release := none, resets := false })
      replies := s.link.replies ++
        [{ cls := 0x93, tag := tag, payload := [0, b &&& 0x3F], release := none, resets := false }] } }

/-! ## Mode control -/

/-- R36: STATE_GET is answered in every mode with its 27 bytes as they stand, and clears OVERRUN and the eight panel
flags. -/
def Obligations.StateGet : Prop :=
  ∀ s tag rest, s.headIs 0x01 tag [] rest →
    exec .stateGet s = .next { s with
      link := { s.link with
        overrun := false
        inbound := rest
        replies := s.link.replies ++
          [{ cls := 0x81, tag := tag, release := none, resets := false
             payload := [0x00, 0x40, 0x11, 0x01, s.mod.mode.code] ++ le 8 s.mod.label.toNat
              ++ le 2 s.map.waypoints.length ++ le 2 s.map.segments.length ++ le 2 s.dir.listings.length
              ++ le 2 s.map.closedCount ++ le 2 s.map.generation.toNat
              ++ le 2 (s.rcc.entries.toList.countP fun e => e.valid)
              ++ [BitVec.ofNat 8 s.link.overrun.toNat,
                  BitVec.ofNat 8 (s.panels[0].badFrame.toNat + 2 * s.panels[0].overContact.toNat
                    + 4 * s.panels[1].badFrame.toNat + 8 * s.panels[1].overContact.toNat
                    + 16 * s.panels[2].badFrame.toNat + 32 * s.panels[2].overContact.toNat
                    + 64 * s.panels[3].badFrame.toNat + 128 * s.panels[3].overContact.toNat)] }] }
      panels := s.panels.map fun q => { q with badFrame := false, overContact := false } }

/-- R25: an entry to LOADING ends all work over the map, keeps the tables, the cursor, the generation, the panels and every
setting of the screens and sessions, and is answered last. Where every entry that is not DONE is held by some work, every
outstanding list empties: the entries of each screen leave in join order, with ABORTED where they were not DONE, ahead of
that answer. How the results of different screens interleave is left open. The last clause shows one request's reply. -/
def Obligations.EntryToLoading : Prop :=
  ∀ s tag rest, s.headIs 0x02 tag [0] rest → s.mod.mode.serving = true →
    ∃ t xs, exec .modeSet s = .next t
      ∧ t.link.replies =
          s.link.replies ++ xs ++ [{ cls := 0x82, tag := tag, payload := [0, 0], release := none, resets := false }]
      ∧ (t.link = { s.link with
            inbound := rest, replies := t.link.replies, reports := t.link.reports, reserved := t.link.reserved
            suppressed := t.link.suppressed } ∧ t.resetLow = s.resetLow ∧ t.pending = s.pending)
      ∧ t.mod = { s.mod with mode := .loading, label := 0, findings := [], findingCount := 0 }
      ∧ t.map = { s.map with startIndex := none } ∧ t.profiles = s.profiles ∧ t.dir.listings = s.dir.listings
      ∧ t.panels = s.panels
      ∧ (t.search.queue = [] ∧ (∀ u : Fin 2, t.search.units[u.val] = SearchUnit.idle) ∧ t.rco.queue = []
          ∧ t.rco.job = none ∧ t.dir.queue = [] ∧ t.dir.scan = none)
      ∧ ((∀ e : Fin 512, (t.rcc.at e).valid = false) ∧ (∀ g : Fin 64, t.rcc.hands[g.val] = 0) ∧ t.rcc.sweep = []
          ∧ t.rcc.scan = none)
      ∧ (∀ i : Fin 4, t.screens[i.val] = { s.screens[i.val] with
          outstanding := t.screens[i.val].outstanding, released := t.screens[i.val].released })
      ∧ (s.EveryEntryHeld → s.HeadsWait → ∃ rs, t.link.reports = s.link.reports ++ rs
          ∧ (∀ x ∈ xs ++ rs, x.release ≠ none)
          ∧ (∀ i : Fin 4, t.screens[i.val].outstanding = []
            ∧ t.screens[i.val].released
              = s.screens[i.val].released + (s.leaving i 10 s.screens[i.val].outstanding).length
            ∧ xs.filter (fun x => decide (x.release.map (·.1) = some i))
              = ((s.leaving i 10 s.screens[i.val].outstanding).filter fun x => decide (x.1 = .replies)).map (·.2)
            ∧ rs.filter (fun x => decide (x.release.map (·.1) = some i))
              = ((s.leaving i 10 s.screens[i.val].outstanding).filter fun x => decide (x.1 = .reports)).map (·.2))
          ∧ t.link.reserved = s.link.reserved - (s.screens.toList.map Screen.panelEntries).sum
          ∧ t.link.suppressed = s.link.suppressed
            ||| (if ([0, 1, 2, 3] : List (Fin 4)).any fun i => s.screens[i.val].outstanding.any fun e =>
                s.link.discards e && decide (e.ask.leavesAs.1 = .route) then 0b000100 else 0)
            ||| (if ([0, 1, 2, 3] : List (Fin 4)).any fun i => s.screens[i.val].outstanding.any fun e =>
                s.link.discards e && decide (e.ask.leavesAs.1 = .matchList) then 0b001000 else 0))
      ∧ (∀ (i : Fin 4) (id : Nat) (asked : Byte) (k : Key) (x : Bool) (e : SearchEntry),
          s.search.queue = [e] → e.requesters = [{ screen := i, id := id }] → s.rco.job = none → s.dir.queue = [] →
          s.dir.scan = none →
          s.screens[i.val].outstanding = [{ id := id, asker := .host asked, ask := .route k x, result := none }] →
          t.screens[i.val].outstanding = []
            ∧ xs = [{ cls := 0x8B, tag := asked, resets := false
                      release := some (i, s.screens[i.val].released)
                      payload := [10, 0] ++ le 2 k.origin.toNat ++ [k.kind.code] ++ le 2 k.number.toNat ++ [0, 0]
                        ++ [BitVec.ofNat 8 k.profile.val] ++ List.replicate 14 0 }])

/-- R23: the MODE_SETs that change no mode are answered with their result and the mode code. R24: MODE_SET FROZEN is
answered at once while no unit is RUNNING; while one is, its reply waits and the dispatcher takes nothing, and the settle
step that takes the last unit out of RUNNING queues the reply. The return to SERVICE lets HELD units run on, and IDLE units
take the oldest WAITING entries, RSU0 first (R56). That a RUNNING unit always has a step in hand is the model's reading (log
entry 6), and that the reply stands behind what the composer completes in that step is its choice (log entry 33). -/
def Obligations.ModeSetFreezeAndReturn : Prop :=
  (∀ s tag (target : Byte) rest, s.headIs 0x02 tag [target] rest → s.mod.mode ≠ .checking →
    (∀ row ∈ ([(.loading, 0, 0), (.loading, 2, 3), (.loading, 3, 3), (.service, 2, 0), (.frozen, 3, 0)] :
        List (Mode × Byte × Byte)), s.mod.mode = row.1 → target = row.2.1 →
      exec .modeSet s = .next (s.answered rest 0x82 tag [row.2.2, s.mod.mode.code]))
    ∧ (target = 1 ∨ 3 < target.toNat → exec .modeSet s = .next (s.answered rest 0x82 tag [5, s.mod.mode.code])))
  ∧ (∀ s tag rest, s.headIs 0x02 tag [3] rest → s.mod.mode = .service →
    ((∀ u : Fin 2, s.search.units[u.val].state ≠ .running) →
      exec .modeSet s = .next { s.answered rest 0x82 tag [0, 3] with mod := { s.mod with mode := .frozen } })
    ∧ ((∃ u : Fin 2, s.search.units[u.val].state = .running) →
      exec .modeSet s = .next { s.taken rest with mod := { s.mod with mode := .frozen, freezing := some tag } }))
  ∧ (∀ (s : State) (tag : Byte), s.resetLow = false → s.mod.freezing = some tag →
    ∀ c ∈ ([.unknownClass, .stateGet, .modeSet, .mapCommit, .resetFull, .resetSessions, .loadOpen, .loadWrite,
        .loadRead, .segmentSet, .listingSet, .screenSet, .routeAsk, .directoryAsk, .fence, .cancel, .hotspotsSet,
        .panelSet, .panelInject, .baselineCapture, .reportMask, .unitPeek] : List Instr), exec c s = .next s)
  ∧ (∀ (s : State) (tag : Byte) (u v : Fin 2), s.resetLow = false → s.mod.mode = .frozen →
    s.mod.freezing = some tag → u ≠ v → s.search.units[u.val].state = .running →
    s.search.units[v.val].state ≠ .running →
    Answers (exec (.settleStep u) s) fun t => t.mod.freezing = none ∧ t.mod.mode = .frozen
      ∧ t.search.units[u.val].state ≠ .running
      ∧ ∃ xs, t.link.replies = s.link.replies ++ xs
          ++ [{ cls := 0x82, tag := tag, payload := [0, 3], release := none, resets := false }])
  ∧ (∀ (s : State) (tag : Byte) (rest : List InFrame) (running : Vector SearchUnit 2) (queue : List SearchEntry)
        (units : Vector SearchUnit 2), s.headIs 0x02 tag [2] rest → s.mod.mode = .frozen →
    running = (s.search.units.map fun u => if u.state = .held then { u with state := .running } else u) →
    (NoneWaits s.search.queue ∨ ∀ u : Fin 2, s.search.units[u.val].state ≠ .idle) ∧ queue = s.search.queue ∧ units = running
      ∨ (∃ (u : Fin 2) (e : SearchEntry), s.search.units[u.val].state = .idle
        ∧ (∀ v : Fin 2, v ≠ u → s.search.units[v.val].state ≠ .idle) ∧ Granted u s.search.queue e queue
        ∧ units = running.set u.val (s.begun e.key))
      ∨ ((∀ u : Fin 2, s.search.units[u.val].state = .idle) ∧ ∃ e, Granted 0 s.search.queue e queue ∧ NoneWaits queue
        ∧ units = running.set 0 (s.begun e.key))
      ∨ ((∀ u : Fin 2, s.search.units[u.val].state = .idle) ∧ ∃ e f between, Granted 0 s.search.queue e between
        ∧ Granted 1 between f queue ∧ units = (running.set 0 (s.begun e.key)).set 1 (s.begun f.key)) →
    exec .modeSet s = .next { s.answered rest 0x82 tag [0, 2] with
      mod := { s.mod with mode := .service }, search := { queue := queue, units := units } })

/-- R27, R33, R34: a MAP_COMMIT starts the map check and its reply waits; a check without findings puts the map in
service, one with findings returns to LOADING and lists the first 16. The passes are evaluated at the end of the check
(log entry 20). -/
def Obligations.MapCommit : Prop :=
  (∀ s tag p rest, s.headIs 0x03 tag p rest → p.length = 8 → s.mod.mode = .loading →
    exec .mapCommit s = .next { s.taken rest with
      mod := { s.mod with mode := .checking, findings := [], findingCount := 0
                          commit := some { tag := tag, label := BitVec.ofNat 64 (ofLe p) } } })
  ∧ (∀ (s : State) (c : Commit), s.resetLow = false → s.mod.mode = .checking → s.mod.commit = some c →
    s.allFindings = [] →
    exec .mapCheckEnd s = .next { s with
      map := { s.map with startIndex := some (buildStartIndex s.waypointCount s.map.segments), generation := 0 }
      rcc := { entries := s.rcc.entries.map fun e => { e with valid := false, referenced := false }
               hands := .replicate 64 0, sweep := [], scan := none }
      screens := s.screens.map fun x => { x with active := false, idle := none, text := [], terms := Terms.empty }
      mod := { s.mod with mode := .service, label := c.label, findings := [], findingCount := 0, commit := none }
      link := { s.link with replies := s.link.replies ++
        [{ cls := 0x83, tag := c.tag, release := none, resets := false
           payload := [0] ++ le 8 c.label.toNat ++ le 2 s.waypointCount ++ le 2 s.segmentCount ++ le 2 s.listingCount
            ++ le 2 s.map.closedCount }] } })
  ∧ (∀ (s : State) (c : Commit), s.resetLow = false → s.mod.mode = .checking → s.mod.commit = some c →
    s.allFindings ≠ [] →
    exec .mapCheckEnd s = .next { s with
      mod := { s.mod with mode := .loading, findings := [], findingCount := 0, commit := none }
      link := { s.link with replies := s.link.replies ++
        [{ cls := 0x83, tag := c.tag, release := none, resets := false
           payload := [13] ++ le 2 s.allFindings.length ++ le 1 (min s.allFindings.length 16)
            ++ (s.allFindings.take 16).flatMap fun f => [f.kind.code] ++ le 2 f.index }] } })

/-- R28 to R32: the findings of a map check are exactly the tests that fail, each once, in the order of the passes and,
within a pass, of indices and tests. -/
def Obligations.FindingsAreTheFailedTests : Prop :=
  ∀ s : State,
    (s.allFindings.Pairwise fun a b => a.kind.pass < b.kind.pass ∨ (a.kind.pass = b.kind.pass
      ∧ (a.index < b.index ∨ (a.index = b.index ∧ a.kind.code.toNat < b.kind.code.toNat))))
    ∧ ∀ k i, { kind := k, index := i } ∈ s.allFindings ↔
      match k with
      | .emptyMap => i = 0 ∧ s.waypointCount = 0
      | .segmentEndpoint => i < s.segmentCount
          ∧ (s.waypointCount ≤ (s.segment i).src.toNat ∨ s.waypointCount ≤ (s.segment i).dst.toNat)
      | .segmentOrder => i < s.segmentCount ∧ 0 < i ∧ (s.segment i).src.toNat < (s.segment (i - 1)).src.toNat
      | .levelMismatch => i < s.segmentCount ∧ (s.segment i).src.toNat < s.waypointCount
          ∧ (s.segment i).dst.toNat < s.waypointCount
          ∧ ((s.waypoint (s.segment i).dst.toNat).levelCode.toNat : Int)
              - (s.waypoint (s.segment i).src.toNat).levelCode.toNat ≠ (s.segment i).delta.toInt
      | .kindLevel => i < s.segmentCount
          ∧ (((s.segment i).kind ∈ [.walk, .door, .travelator, .outdoor] ∧ (s.segment i).delta ≠ 0)
            ∨ ((s.segment i).kind ∈ [.escalator, .stairs, .lift] ∧ (s.segment i).delta = 0))
      | .entranceInvalid => i < s.listingCount
          ∧ ((s.listing i).entranceCount.toNat = 0 ∨ 4 < (s.listing i).entranceCount.toNat
            ∨ ∃ e ∈ (s.listing i).entrances.toList.take (s.listing i).entranceCount.toNat, s.waypointCount ≤ e.toNat)
      | .keySymbol => i < s.listingCount
          ∧ ((s.listing i).key[0] = 0 ∨ (∃ b ∈ (s.listing i).key.toList, 40 < b.toNat)
            ∨ ∃ m n : Fin 16, m < n ∧ (s.listing i).key[m.val] = 0 ∧ (s.listing i).key[n.val] ≠ 0)
      | .keyOrder => i < s.listingCount ∧ 0 < i
          ∧ { kind := .keySymbol, index := i } ∉ s.allFindings
          ∧ { kind := .keySymbol, index := i - 1 } ∉ s.allFindings
          ∧ sortsBefore (keySymbols (s.listing i).key) (keySymbols (s.listing (i - 1)).key) = true
      | .originInvalid => ∃ c : Fin 4, i = c.val ∧ s.screens[c.val].enabled = true
          ∧ s.waypointCount ≤ s.screens[c.val].origin.toNat

/-- R77: UNIT_PEEK is answered in every mode with the 17 bytes of a unit, or BAD_ARGUMENT for a unit above 1. An IDLE unit
reports zeros and the head cost 16,777,215. Nothing else changes. -/
def Obligations.UnitPeek : Prop :=
  ∀ s tag b rest, s.headIs 0x14 tag [b] rest →
    (1 < b.toNat → exec .unitPeek s = .next (s.answered rest 0x94 tag [5]))
    ∧ ∀ (u : Fin 2) (v : SearchUnit), b.toNat = u.val → v = s.search.units[u.val] →
      exec .unitPeek s = .next (s.answered rest 0x94 tag
        ([0, b, v.state.code] ++ le 2 v.key.origin.toNat ++ [v.key.kind.code] ++ le 2 v.key.number.toNat
          ++ [BitVec.ofNat 8 v.key.profile.val] ++ le 2 v.settledCount ++ le 2 v.frontier.length
          ++ le 3 (match v.frontier with | [] => 16777215 | x :: _ => x.1) ++ [BitVec.ofNat 8 v.restarts]))
      ∧ (v = SearchUnit.idle → exec .unitPeek s = .next (s.answered rest 0x94 tag
          [0, b, 0, 0, 0, 0, 0, 0, 0, 0, 0, 0, 0, 0xFF, 0xFF, 0xFF, 0]))

/-! ## The load stream -/

/-- R12, R13: LOAD_OPEN moves the cursor, clears the table where the clear is asked for and allowed, and is answered with
the cursor and the count. In CHECKING, with a table code above 11 or with an index above the capacity it leaves the
cursor; the layout of these refusals is the model's reading (log entry 18). -/
def Obligations.LoadOpen : Prop :=
  ∀ s tag (code : Byte) i (o : Byte) rest, s.headIs 0x05 tag ([code] ++ le 2 i ++ [o]) rest → i < 65536 →
    (∀ t : TableId, s.mod.mode ≠ .checking → code = t.code → i ≤ t.capacity →
      (o.getLsbD 0 = false →
        exec .loadOpen s = .next { s.answered rest 0x85 tag ([0, code] ++ le 2 i ++ le 2 (s.tableCount t)) with
          map := { s.map with cursor := some { table := t, index := i } } })
      ∧ (o.getLsbD 0 = true → t.inService = true → s.mod.mode ≠ .loading →
        exec .loadOpen s = .next { s.answered rest 0x85 tag ([2, code] ++ le 2 i ++ le 2 (s.tableCount t)) with
          map := { s.map with cursor := some { table := t, index := i } } })
      ∧ (o.getLsbD 0 = true → s.mod.mode = .loading → t = .waypoints →
        exec .loadOpen s = .next { s.answered rest 0x85 tag ([0, code] ++ le 2 i ++ [0, 0]) with
          map := { s.map with waypoints := [], cursor := some { table := t, index := i } } })
      ∧ (o.getLsbD 0 = true → s.mod.mode = .loading → t = .segments →
        exec .loadOpen s = .next { s.answered rest 0x85 tag ([0, code] ++ le 2 i ++ [0, 0]) with
          map := { s.map with segments := [], closedCount := 0, cursor := some { table := t, index := i } } })
      ∧ (o.getLsbD 0 = true → s.mod.mode = .loading → t = .listings →
        exec .loadOpen s = .next { s.answered rest 0x85 tag ([0, code] ++ le 2 i ++ [0, 0]) with
          map := { s.map with cursor := some { table := t, index := i } }
          dir := { s.dir with listings := [] } })
      ∧ (o.getLsbD 0 = true → s.mod.mode = .loading → t = .profiles →
        exec .loadOpen s = .next { s.answered rest 0x85 tag ([0, code] ++ le 2 i ++ [0, 0]) with
          map := { s.map with cursor := some { table := t, index := i } }
          profiles := .replicate 8 .standard })
      ∧ (∀ (q : Fin 4) (v : Vector Byte 256), o.getLsbD 0 = true → t = .curve q → (∀ k : Fin 256, v[k.val].toNat = k.val) →
        exec .loadOpen s = .next { s.answered rest 0x85 tag ([0, code] ++ le 2 i ++ [0, 0]) with
          map := { s.map with cursor := some { table := t, index := i } }
          panels := s.panels.set q.val { s.panels[q.val] with curve := v } })
      ∧ (∀ q : Fin 4, o.getLsbD 0 = true → t = .baseline q → s.panels[q.val].state ≠ .capturing →
        exec .loadOpen s = .next { s.answered rest 0x85 tag ([0, code] ++ le 2 i ++ [0, 0]) with
          map := { s.map with cursor := some { table := t, index := i } }
          panels := s.panels.set q.val { s.panels[q.val] with
            baseline := .replicate 960 0
            processing := s.panels[q.val].processing.map fun x => { x with driftCancelled := true } } })
      ∧ (∀ q : Fin 4, o.getLsbD 0 = true → t = .baseline q → s.panels[q.val].state = .capturing →
        exec .loadOpen s = .next { s.answered rest 0x85 tag ([2, code] ++ le 2 i ++ [0, 0]) with
          map := { s.map with cursor := some { table := t, index := i } } }))
    ∧ (∀ r : Byte, (s.mod.mode = .checking ∧ r = 3)
          ∨ (s.mod.mode ≠ .checking ∧ r = 5 ∧ (11 < code.toNat ∨ ∃ t : TableId, code = t.code ∧ t.capacity < i)) →
      exec .loadOpen s = .next (s.answered rest 0x85 tag
        (match s.map.cursor with
          | none => [r, 0xFF, 0, 0, 0, 0]
          | some c => [r, c.table.code] ++ le 2 c.index ++ le 2 (s.tableCount c.table))))

/-- R14, R15: a LOAD_WRITE that may write stores each record that falls below the capacity at its own index, raises the
count, moves the cursor behind the last record written, and changes no other record of any table; a record is read here
as LOAD_READ returns it. R16, R17: to a map table in SERVICE or FROZEN, or to the baseline of a panel that is
capturing, it writes nothing, and the cursor still advances, stopping at the capacity. -/
def Obligations.LoadWrite : Prop :=
  (∀ s tag p rest (t : TableId) (i n k : Nat), s.headIs 0x06 tag p rest →
    s.map.cursor = some { table := t, index := i } → s.mod.mode ≠ .checking →
    (t.inService = true → s.mod.mode = .loading) → (∀ q, t = .baseline q → s.panels[q.val].state ≠ .capturing) →
    p.length = n * t.recordSize → 0 < n → p.length ≤ 1024 → k = min n (t.capacity - i) →
    ∃ u, exec .loadWrite s = .next u
      ∧ u.link = (s.answered rest 0x86 tag ([if k < n then 1 else 0] ++ le 2 k ++ le 2 (i + k))).link
      ∧ u.map.cursor = some { table := t, index := i + k }
      ∧ (∀ j, u.recordBytes t j =
          if i ≤ j ∧ j < i + k then t.stored ((p.drop (t.recordSize * (j - i))).take t.recordSize)
          else s.recordBytes t j)
      ∧ (t.counted = true → u.tableCount t = if k = 0 then s.tableCount t else max (s.tableCount t) (i + k))
      ∧ (∀ t', t' ≠ t → u.tableCount t' = s.tableCount t' ∧ ∀ j, u.recordBytes t' j = s.recordBytes t' j)
      ∧ (u.mod = s.mod ∧ u.search = s.search ∧ u.rco = s.rco ∧ u.rcc = s.rcc ∧ u.screens = s.screens
          ∧ u.resetLow = s.resetLow ∧ u.pending = s.pending ∧ u.map.startIndex = s.map.startIndex
          ∧ u.map.generation = s.map.generation ∧ u.dir.queue = s.dir.queue ∧ u.dir.scan = s.dir.scan)
      ∧ (∀ q : Fin 4, u.panels[q.val] = { s.panels[q.val] with
          curve := u.panels[q.val].curve, baseline := u.panels[q.val].baseline
          processing := u.panels[q.val].processing }))
  ∧ (∀ s tag p rest (t : TableId) (i n : Nat), s.headIs 0x06 tag p rest →
    s.map.cursor = some { table := t, index := i } →
    (t.inService = true ∧ s.mod.mode.serving = true)
      ∨ (s.mod.mode ≠ .checking ∧ ∃ q, t = .baseline q ∧ s.panels[q.val].state = .capturing) →
    p.length = n * t.recordSize → 0 < n → p.length ≤ 1024 →
    exec .loadWrite s = .next { s.answered rest 0x86 tag ([2, 0, 0] ++ le 2 (min (i + n) t.capacity)) with
      map := { s.map with cursor := some { table := t, index := min (i + n) t.capacity } } })

/-- R18: LOAD_READ returns the least of the records wanted, the records remaining (below the count of a table that has
one, else below its capacity) and those that a payload of 1024 bytes carries, and moves the cursor behind them. The index
in a reply without records is the model's choice (log entry 18). -/
def Obligations.LoadRead : Prop :=
  ∀ s tag w rest (t : TableId) (i n : Nat), s.headIs 0x07 tag (le 2 w) rest → w < 65536 → s.mod.mode ≠ .checking →
    s.map.cursor = some { table := t, index := i } →
    n = min w (min ((if t.counted then s.tableCount t else t.capacity) - i) (1018 / t.recordSize)) →
    exec .loadRead s = .next { s.answered rest 0x87 tag
        ([if n = w then 0 else 1, t.code] ++ le 2 i ++ le 2 n ++ (List.range' i n).flatMap (s.recordBytes t)) with
      map := { s.map with cursor := some { table := t, index := i + n } } }

/-- R191, R4, R10, R40, R129: a stored waypoint, segment, listing, profile and baseline cell is read back from the record
that it is written out as, at every value that the part stores. A record as written is taken apart at the bits and bytes
of its layout, and is stored with its unused bits 0, a length of 0 as 1, a level delta of -16 as -15, a listing status of
3 as HIDDEN, a walking speed within 5 to 25 and a baseline within 4095. A term slot and a hotspot entry are read at their
bytes, a field code of 0 being an empty slot whatever follows (log entry 16), and a match record, a route record and its
steps are written at theirs. -/
def Obligations.RecordRoundTrips : Prop :=
  ((∀ w : Waypoint, Waypoint.ofBytes w.toBytes = w)
    ∧ (∀ g : Segment, g.length ≠ 0 → g.delta ≠ 0b10000 → Segment.ofBytes g.toBytes = g)
    ∧ (∀ l : Listing, Listing.ofBytes l.toBytes = l)
    ∧ (∀ p : Profile, 5 ≤ p.speed.toNat → p.speed.toNat ≤ 25 → Profile.ofBytes p.toBytes = p)
    ∧ (∀ b : Sample, baselineOfBytes (baselineToBytes b) = b))
  ∧ (∀ w : BitVec 16, Waypoint.ofBytes (le 2 w.toNat) = { levelCode := w.extractLsb' 0 4, landmark := w.extractLsb' 4 10 }
      ∧ TableId.waypoints.stored (le 2 w.toNat) = le 2 (w &&& 0x3FFF).toNat)
  ∧ (∀ w : BitVec 64,
      Segment.ofBytes (le 8 w.toNat) =
        { src := w.extractLsb' 0 12, dst := w.extractLsb' 12 12, kind := (Segment.ofBytes (le 8 w.toNat)).kind
          length := if w.extractLsb' 27 13 = 0 then 1 else w.extractLsb' 27 13, heading := w.extractLsb' 40 8
          delta := if w.extractLsb' 48 5 = 0b10000 then 0b10001 else w.extractLsb' 48 5
          ride := w.extractLsb' 53 5, closed := w.getLsbD 58 }
      ∧ ([.walk, .escalator, .stairs, .lift, .ramp, .travelator, .door, .outdoor] : List SegKind)[
          (w.extractLsb' 24 3).toNat]? = some (Segment.ofBytes (le 8 w.toNat)).kind
      ∧ TableId.segments.stored (le 8 w.toNat) = le 8 ((w ||| (if w.extractLsb' 27 13 = 0 then 1#64 <<< 27 else 0)
          ||| (if w.extractLsb' 48 5 = 0b10000 then 1#64 <<< 48 else 0)) &&& 0x07FFFFFFFFFFFFFF).toNat)
  ∧ (∀ (tenant : BitVec 32) (key : Vector Byte 16) (c l : Byte) (flags : BitVec 16) (es : Vector (BitVec 16) 4)
        (r : List Byte),
      r = le 4 tenant.toNat ++ key.toList ++ [c, l] ++ le 2 flags.toNat ++ es.toList.flatMap (fun e => le 2 e.toNat) →
      Listing.ofBytes r =
        { tenant := tenant, key := key, category := c.extractLsb' 0 6
          status := if c.toNat < 64 then .opened else if c.toNat < 128 then .closed else .hidden
          levelCode := l.extractLsb' 0 4, entranceCount := l.extractLsb' 4 3, attributes := flags
          entrances := es.map fun e => e.extractLsb' 0 12 }
      ∧ TableId.listings.stored r = le 4 tenant.toNat ++ key.toList
          ++ [if c.toNat < 192 then c else c &&& 0xBF, l &&& 0x7F] ++ le 2 flags.toNat
          ++ es.toList.flatMap (fun e => le 2 (e &&& 0x0FFF).toNat))
  ∧ (∀ (ws : Vector Byte 8) (penalty : BitVec 16) (v w clamped : Byte), clamped.toNat = min (max v.toNat 5) 25 →
      Profile.ofBytes (ws.toList ++ le 2 penalty.toNat ++ [v, w]) =
        { weights := ws, penalty := penalty, speed := clamped, liftWait := w }
      ∧ TableId.profiles.stored (ws.toList ++ le 2 penalty.toNat ++ [v, w])
        = ws.toList ++ le 2 penalty.toNat ++ [clamped, w])
  ∧ (∀ (q : Fin 4) (b : Byte) (w : BitVec 16), (TableId.curve q).stored [b] = [b]
      ∧ (TableId.baseline q).stored (le 2 w.toNat) = le 2 (min w.toNat 4095)
      ∧ (baselineOfBytes (le 2 w.toNat)).toNat = min w.toNat 4095)
  ∧ (∀ (f c : Byte) (operand : BitVec 16), termOfBytes ([f, c] ++ le 2 operand.toNat) =
      if f = 0 then none else some { field := f, condition := c, operand := operand })
  ∧ (∀ (x0 y0 x1 y1 number : BitVec 16) (code a b c d e : Byte) (r : List Byte),
      r = le 2 x0.toNat ++ le 2 y0.toNat ++ le 2 x1.toNat ++ le 2 y1.toNat ++ [code, a, b, c, d, e] →
      number.toNat = a.toNat + 256 * b.toNat →
      (8 < code.toNat → hotspotOfBytes r = none)
      ∧ ∀ row ∈ ([(0, .plain), (1, .listing number), (2, .waypoint number), (3, .key a), (4, .backspace), (5, .clearText),
          (6, .filter a (termOfBytes [b, c, d, e])), (7, .unfilter a), (8, .cancel)] : List (Byte × Action)),
        code = row.1 → hotspotOfBytes r = some { x0 := x0, y0 := y0, x1 := x1, y1 := y1, action := row.2 })
  ∧ (∀ (m : MatchRecord) (status : Byte), status = (match m.status with | .opened => 0 | .closed => 1 | .hidden => 2) →
      m.toBytes = le 2 m.index ++ le 4 m.tenant.toNat ++ m.key.toList
        ++ [m.levelCode.setWidth 8, m.category.setWidth 8, status] ∧ m.toBytes.length = 25)
  ∧ (∀ (y : RouteStep) (action turn : Byte),
      ([.departTurn, .walk, .takeEscalator, .takeStairs, .takeLift, .takeRamp, .takeTravelator, .passDoor, .goOutside,
        .continueOn, .arrive] : List StepAction)[action.toNat]? = some y.action →
      ([.none, .straight, .slightRight, .right, .sharpRight, .uTurn, .sharpLeft, .left, .slightLeft] :
        List TurnClass)[turn.toNat]? = some y.turn →
      y.toBytes = [action, turn] ++ le 4 y.length ++ [y.levelCode.setWidth 8] ++ le 2 y.endWaypoint.toNat
        ++ le 2 y.landmark.toNat ∧ y.toBytes.length = 11)
  ∧ (∀ (r : RouteRecord) (flags kind : Byte),
      (∀ k : Fin 8, flags.getLsbD k.val =
        ([r.fromCache, r.detour, r.destinationClosed, r.truncated, r.explicitOrigin].getD k.val false)) →
      kind = (match r.key.kind with | .listing => 0 | .waypoint => 1) →
      r.toBytes = [0, flags] ++ le 2 r.key.origin.toNat ++ [kind] ++ le 2 r.key.number.toNat ++ le 2 r.entrance.toNat
        ++ [BitVec.ofNat 8 r.key.profile.val] ++ le 4 r.distance ++ le 4 r.metres ++ le 2 r.seconds ++ le 2 r.minutes
        ++ [BitVec.ofNat 8 r.levelChanges, BitVec.ofNat 8 r.steps.length] ++ r.steps.flatMap RouteStep.toBytes
      ∧ r.toBytes.length = 24 + 11 * r.steps.length)

/-! ## Closures and listing status -/

/-- R117, R118, R110, R122, R123: a SEGMENT_SET CLOSED on an OPEN segment. In service the index joins the sweep list, or
is found listed, or finds eight others listed and the cache is flushed; in LOADING the status and the count alone
change. -/
def Obligations.SegmentClosed : Prop :=
  ∀ s tag g rest, s.headIs 0x08 tag (le 2 g ++ [1]) rest → g < 65536 → g < s.segmentCount → s.mod.mode ≠ .checking →
    ((s.segment g).closed = false →
      exec .segmentSet s = .next { s.answered rest 0x88 tag
          ([0, 0] ++ le 2 g ++ [1] ++ le 2 (s.map.closedCount + 1) ++ le 2 s.map.generation.toNat) with
        map := { s.map with
          segments := s.map.segments.set g { s.segment g with closed := true }
          closedCount := s.map.closedCount + 1 }
        rcc :=
          if s.mod.mode = .loading ∨ g ∈ s.rcc.sweep then s.rcc
          else if s.rcc.sweep.length < 8 then { s.rcc with
            sweep := s.rcc.sweep ++ [g], scan := if s.rcc.sweep = [] then some 0 else s.rcc.scan }
          else { entries := s.rcc.entries.map fun e => { e with valid := false, referenced := false }
                 hands := .replicate 64 0, sweep := [], scan := none } })
    ∧ ((s.segment g).closed = true →
      exec .segmentSet s = .next (s.answered rest 0x88 tag
        ([0, 1] ++ le 2 g ++ [1] ++ le 2 s.map.closedCount ++ le 2 s.map.generation.toNat)))

/-- R117, R119 to R123: a SEGMENT_SET OPEN on a CLOSED segment. In service it raises the reopen generation, and at the
wrap the cache is flushed and every unit that is not IDLE loses its captured generation; in LOADING the status and the
count alone change. A SEGMENT_SET of a segment outside the table, or of a status above 1, or in CHECKING is refused (with
the layout of log entry 18). -/
def Obligations.SegmentReopened : Prop :=
  ∀ s tag g (st : Byte) rest, s.headIs 0x08 tag (le 2 g ++ [st]) rest → g < 65536 →
    (s.mod.mode ≠ .checking → g < s.segmentCount → st = 0 → (s.segment g).closed = true →
      exec .segmentSet s = .next { s.answered rest 0x88 tag
          ([0, 0] ++ le 2 g ++ [0] ++ le 2 (s.map.closedCount - 1)
            ++ le 2 (if s.mod.mode = .loading then s.map.generation else s.map.generation + 1).toNat) with
        map := { s.map with
          segments := s.map.segments.set g { s.segment g with closed := false }
          closedCount := s.map.closedCount - 1
          generation := if s.mod.mode = .loading then s.map.generation else s.map.generation + 1 }
        rcc :=
          if s.mod.mode ≠ .loading ∧ s.map.generation = 65535 then
            { entries := s.rcc.entries.map fun e => { e with valid := false, referenced := false }
              hands := .replicate 64 0, sweep := [], scan := none }
          else s.rcc
        search := { s.search with
          units :=
            if s.mod.mode ≠ .loading ∧ s.map.generation = 65535 then
              s.search.units.map (fun u => if u.state = .idle then u else { u with captured := none })
            else s.search.units } })
    ∧ (s.mod.mode ≠ .checking → g < s.segmentCount → st = 0 → (s.segment g).closed = false →
      exec .segmentSet s = .next (s.answered rest 0x88 tag
        ([0, 1] ++ le 2 g ++ [0] ++ le 2 s.map.closedCount ++ le 2 s.map.generation.toNat)))
    ∧ (s.mod.mode ≠ .checking → s.segmentCount ≤ g ∨ 1 < st.toNat →
      exec .segmentSet s = .next (s.answered rest 0x88 tag
        ([5, 0] ++ le 2 g ++ [0] ++ le 2 s.map.closedCount ++ le 2 s.map.generation.toNat)))
    ∧ (s.mod.mode = .checking →
      exec .segmentSet s = .next (s.answered rest 0x88 tag
        ([3, 0] ++ le 2 g ++ [0] ++ le 2 s.map.closedCount ++ le 2 s.map.generation.toNat)))

/-- R124: LISTING_SET replaces a listing's status and is answered with the status before and after, and with NO_CHANGE
where they are the same; a listing outside the table or a status above 2 is refused. The bytes of the refusals, BAD_ARGUMENT
and WRONG_MODE, are the model's reading (log entry 18). -/
def Obligations.ListingSet : Prop :=
  ∀ s tag n (b : Byte) rest, s.headIs 0x09 tag (le 2 n ++ [b]) rest → n < 65536 →
    (∀ st : ListingStatus, s.mod.mode ≠ .checking → n < s.listingCount → b = BitVec.ofNat 8 st.code →
      exec .listingSet s = .next { s.answered rest 0x89 tag
          ([0, if (s.listing n).status = st then 1 else 0] ++ le 2 n
            ++ [BitVec.ofNat 8 (s.listing n).status.code, b]) with
        dir := { s.dir with listings := s.dir.listings.set n { s.listing n with status := st } } })
    ∧ (s.mod.mode ≠ .checking → s.listingCount ≤ n ∨ 2 < b.toNat →
      exec .listingSet s = .next (s.answered rest 0x89 tag ([5, 0] ++ le 2 n ++ [0, 0])))
    ∧ (s.mod.mode = .checking → exec .listingSet s = .next (s.answered rest 0x89 tag ([3, 0] ++ le 2 n ++ [0, 0])))

/-! ## Screen sessions -/

/-- R147: a SCREEN_SET that passes its tests replaces the seven configuration fields; a session whose screen is disabled
ends without a report, and one whose new timeout has already passed expires at once, its SESSION_ENDED report queued
before the reply. A screen with outstanding entries is refused. -/
def Obligations.ScreenSet : Prop :=
  ∀ s tag (i : Fin 4) (e : Byte) (origin : Nat) (heading profile : Byte) (w h n : Nat) rest,
    s.headIs 0x0A tag ([BitVec.ofNat 8 i.val, e] ++ le 2 origin ++ [heading, profile] ++ le 2 w ++ le 2 h ++ le 2 n) rest →
    e.toNat ≤ 1 → origin < 4096 → profile.toNat < 8 → 1 ≤ w → w ≤ 4096 → 1 ≤ h → h ≤ 4096 → n < 65536 →
    s.mod.mode ≠ .checking → (s.mod.mode.serving = true → e = 1 → origin < s.waypointCount) →
    ∀ (c d : Screen) (reply : List Byte), c = s.screens[i.val] →
      d = { c with enabled := e == 1, origin := BitVec.ofNat 12 origin, heading := heading
                   profile := Fin.ofNat 8 profile.toNat, width := w, height := h, timeout := min (max n 10) 600 } →
      reply = [0, BitVec.ofNat 8 i.val] ++ le 2 (min (max n 10) 600) →
      (c.outstanding = [] → e = 1 → (c.active = true → ∀ ms, c.idle = some ms → ms < min (max n 10) 600 * 1000) →
        exec .screenSet s = .next { s.answered rest 0x8A tag reply with screens := s.screens.set i.val d })
      ∧ (c.outstanding = [] → e = 0 → c.enabled = false → c.active = false →
        exec .screenSet s = .next { s.answered rest 0x8A tag reply with screens := s.screens.set i.val d })
      ∧ (c.outstanding = [] → e = 0 → c.enabled = true →
        exec .screenSet s = .next { s.answered rest 0x8A tag reply with
          screens := s.screens.set i.val { d with active := false, idle := none, text := [], terms := Terms.empty } })
      ∧ (∀ ms, c.outstanding = [] → e = 1 → c.active = true → c.idle = some ms → min (max n 10) 600 * 1000 ≤ ms →
        s.EnginesQuiet → s.WorkHeld → s.reportsFreely .session →
        exec .screenSet s = .next { s with
          link := { s.link with
            inbound := rest
            replies := s.link.replies ++
              [{ cls := 0x8A, tag := tag, payload := reply, release := none, resets := false }]
            reports := s.link.reports ++
              [{ cls := 0x45, tag := 0, payload := [BitVec.ofNat 8 i.val], release := none, resets := false }] }
          screens := s.screens.set i.val { d with active := false, idle := none, text := [], terms := Terms.empty } })
      ∧ (c.outstanding ≠ [] → exec .screenSet s = .next (s.answered rest 0x8A tag [4]))

/-- R153, R104, R55, R56, R59: a ROUTE_ASK that misses in the cache joins its screen's list and the search queue, merging
with an entry of the same key; in SERVICE its search begins on RSU0 where that unit is IDLE, else on RSU1 where that one is.
It misses with no match, or with a match of another generation or with a segment of the sweep list, which is invalidated. -/
def Obligations.RouteAskMiss : Prop :=
  ∀ s (i : Fin 4) tag kind number (options profile : Byte) origin rest,
    s.routeAsked i tag kind number options profile origin rest →
    ∀ (c d : Screen) (k : Key) (r : CacheState), c = s.screens[i.val] →
      k = c.askedKey kind number options profile origin → c.outstanding.length < 4 → c.headWaits →
      (kind = .listing → (s.listing number).status ≠ .hidden) → s.rco.queue = [] → s.dir.queue = [] →
      s.MissesWith k r →
      d = { c with active := true, idle := some 0, nextId := c.nextId + 1
                   outstanding := c.outstanding ++
                    [{ id := c.nextId, asker := .host tag, ask := .route k (options.getLsbD 1), result := none }] } →
      (s.mod.mode = .frozen ∨ (∀ u : Fin 2, s.search.units[u.val].state ≠ .idle) →
        (∀ e ∈ s.search.queue, e.key ≠ k) →
        exec .routeAsk s = .next { s.taken rest with
          screens := s.screens.set i.val d, rcc := r
          search := { s.search with queue := s.search.queue ++
            [{ key := k, requesters := [{ screen := i, id := c.nextId }], unit := none }] } })
      ∧ (s.mod.mode = .frozen ∨ (∀ u : Fin 2, s.search.units[u.val].state ≠ .idle) ∨ NoneWaits s.search.queue →
        s.QueueLaw → (∃ e ∈ s.search.queue, e.key = k) →
        exec .routeAsk s = .next { s.taken rest with
          screens := s.screens.set i.val d, rcc := r
          search := { s.search with queue := s.search.queue.map fun e =>
            if e.key = k then { e with requesters := e.requesters ++ [{ screen := i, id := c.nextId }] } else e } })
      ∧ (∀ u : Fin 2, s.mod.mode = .service → s.search.units[u.val].state = .idle →
        (u = 1 → s.search.units[0].state ≠ .idle) → NoneWaits s.search.queue → (∀ e ∈ s.search.queue, e.key ≠ k) →
        exec .routeAsk s = .next { s.taken rest with
          screens := s.screens.set i.val d, rcc := r
          search := {
            queue := s.search.queue ++ [{ key := k, requesters := [{ screen := i, id := c.nextId }], unit := some u }]
            units := s.search.units.set u.val (s.begun k) } })

/-- R104, R105, R153, R126, R151, R152: a ROUTE_ASK that is answered at once: from a cache entry of the current
generation that uses no segment of the sweep list; NOT_FOUND for a HIDDEN listing; BUSY where the list is full; and
BAD_ARGUMENT for a screen that is not enabled. -/
def Obligations.RouteAskAtOnce : Prop :=
  ∀ s (i : Fin 4) tag kind number (options profile : Byte) origin rest,
    (s.routeAsked i tag kind number options profile origin rest →
      ∀ (c : Screen) (k : Key), c = s.screens[i.val] → k = c.askedKey kind number options profile origin →
        (∀ e x y ys, c.outstanding = [] → s.EnginesQuiet →
          (kind = .listing → (s.listing number).status ≠ .hidden) → s.rcc.find k = some e → x = s.rcc.at e →
          x.generation = s.map.generation → (∀ g ∈ x.segments, g ∉ s.rcc.sweep) → x.route.steps = y :: ys →
          exec .routeAsk s = .next { s with
            link := { s.link with
              inbound := rest
              replies := s.link.replies ++
                [{ cls := 0x8B, tag := tag, resets := false, release := some (i, c.released)
                   payload := ({ fromCache := true, detour := x.route.detour
                                 destinationClosed := decide (kind = .listing ∧ (s.listing number).status ≠ .opened)
                                 truncated := x.route.truncated, explicitOrigin := options.getLsbD 1, key := k
                                 entrance := x.route.entrance, distance := x.route.distance
                                 metres := (x.route.distance + 5) / 10
                                 seconds := min ((x.route.time + 9) / 10) 65535
                                 minutes := (min ((x.route.time + 9) / 10) 65535 + 59) / 60
                                 levelChanges := x.route.levelChanges
                                 steps := { y with turn :=
                                    (if options.getLsbD 1 = true ∨ y.action = .arrive then TurnClass.none
                                      else turnClass c.heading x.route.heading) } :: ys } : RouteRecord).toBytes }] }
            rcc := { s.rcc with entries := s.rcc.entries.set e.val { x with referenced := true } }
            screens := s.screens.set i.val
              { c with active := true, idle := some 0, nextId := c.nextId + 1, released := c.released + 1 } })
        ∧ (c.outstanding = [] → s.EnginesQuiet → kind = .listing → (s.listing number).status = .hidden →
          exec .routeAsk s = .next { s with
            link := { s.link with
              inbound := rest
              replies := s.link.replies ++
                [{ cls := 0x8B, tag := tag, resets := false, release := some (i, c.released)
                   payload := [6, 0] ++ le 2 k.origin.toNat ++ [0] ++ le 2 number ++ [0, 0]
                    ++ [BitVec.ofNat 8 k.profile.val] ++ List.replicate 14 0 }] }
            screens := s.screens.set i.val
              { c with active := true, idle := some 0, nextId := c.nextId + 1, released := c.released + 1 } })
        ∧ (4 ≤ c.outstanding.length →
          exec .routeAsk s = .next { s.answered rest 0x8B tag [4] with
            screens := s.screens.set i.val { c with active := true, idle := some 0 } }))
    ∧ (∀ b p, s.headIs 0x0B tag (b :: p) rest → p.length = 7 → s.mod.mode.serving = true →
        3 < b.toNat ∨ (b.toNat = i.val ∧ s.screens[i.val].enabled = false) →
        exec .routeAsk s = .next (s.answered rest 0x8B tag [5]))

/-- R132, R133, R137, R138, R141: a DIRECTORY_ASK joins its screen's list; with a scan in hand its query waits; else it
becomes the scan over the run of listings from the first whose key starts with the prefix; an empty run completes it at
once, and so does an invalid filter term. A prefix, or a maximum, out of range is refused. -/
def Obligations.DirectoryAsk : Prop :=
  ∀ s (i : Fin 4) tag (o len m : Byte) (symbols terms : List Byte) off rest,
    s.headIs 0x0C tag ([BitVec.ofNat 8 i.val, o, len] ++ symbols ++ le 2 off ++ [m] ++ terms) rest →
    symbols.length = 16 → terms.length = 16 → off < 65536 → s.mod.mode.serving = true →
    s.screens[i.val].enabled = true →
    ∀ (c d : Screen) (q : Query), c = s.screens[i.val] →
      q = { ref := { screen := i, id := c.nextId }, pfx := symbols.take len.toNat
            terms := if o.getLsbD 0 then c.terms else termsOfBytes terms
            offset := BitVec.ofNat 16 off, maximum := m.toNat } →
      d = { c with active := true, idle := some 0, nextId := c.nextId + 1
                   outstanding := c.outstanding ++
                    [{ id := c.nextId, asker := .host tag, ask := .directory (BitVec.ofNat 16 off), result := none }] } →
      (16 < len.toNat ∨ (∃ b ∈ q.pfx, b.toNat = 0 ∨ 40 < b.toNat) ∨ m.toNat = 0 ∨ 16 < m.toNat →
        exec .directoryAsk s = .next { s.answered rest 0x8C tag [5] with
          screens := s.screens.set i.val { c with active := true, idle := some 0 } })
      ∧ (len.toNat ≤ 16 → (∀ b ∈ q.pfx, 1 ≤ b.toNat ∧ b.toNat ≤ 40) → 1 ≤ m.toNat → m.toNat ≤ 16 →
        (4 ≤ c.outstanding.length →
          exec .directoryAsk s = .next { s.answered rest 0x8C tag [4] with
            screens := s.screens.set i.val { c with active := true, idle := some 0 } })
        ∧ (c.outstanding.length < 4 → c.headWaits → termsValid q.terms = true → s.dir.scan ≠ none → s.rco.queue = [] →
          (∀ e ∈ s.search.queue, e.unit ≠ none) →
          exec .directoryAsk s = .next { s.taken rest with
            screens := s.screens.set i.val d
            dir := { s.dir with queue := s.dir.queue ++ [q] } })
        ∧ (c.outstanding.length < 4 → c.headWaits → termsValid q.terms = true → s.dir.scan = none → s.EnginesQuiet →
          (∃ l ∈ s.dir.listings, startsWith q.pfx l = true) →
          ∃ a b, s.PrefixRun q.pfx a b
            ∧ exec .directoryAsk s = .next { s.taken rest with
                screens := s.screens.set i.val d
                dir := { s.dir with
                  scan := some { query := q, position := a, stop := b, total := 0, kept := [], nextSymbols := 0
                                 detached := false } } })
        ∧ (∀ r : Byte, c.outstanding = [] → s.dir.scan = none → s.EnginesQuiet →
          (termsValid q.terms = true ∧ (∀ l ∈ s.dir.listings, startsWith q.pfx l = false) ∧ r = 0)
            ∨ (termsValid q.terms = false ∧ r = 11) →
          exec .directoryAsk s = .next { s with
            link := { s.link with
              inbound := rest
              replies := s.link.replies ++
                [{ cls := 0x8C, tag := tag, resets := false, release := some (i, c.released)
                   payload := [r, 0, 0] ++ le 2 off ++ [0, 0, 0, 0, 0, 0] }] }
            screens := s.screens.set i.val
              { c with active := true, idle := some 0, nextId := c.nextId + 1, released := c.released + 1 } }))

/-- R139, R140, R141, R143: one examination counts a listing that is not HIDDEN and passes the terms, keeps it where its
place falls in the window, and adds the symbol that follows the prefix; the last one completes the query; a detached
scan is abandoned at its next examination (the model's reading: log entry 7). R137: at the end of a scan, complete or
abandoned, the oldest waiting query becomes the scan; one whose run is empty completes at once. -/
def Obligations.DirectoryExamination : Prop :=
  ∀ (s : State) (c d : Scan) (l : Listing), s.resetLow = false → s.dir.scan = some c → l = s.listing c.position →
    d = (if l.status ≠ .hidden ∧ passesTerms c.query.terms l = true then { c with
          position := c.position + 1, total := c.total + 1
          kept := if c.query.offset.toNat ≤ c.total ∧ c.total < c.query.offset.toNat + c.query.maximum then
              c.kept ++ [{ index := c.position, tenant := l.tenant, key := l.key, levelCode := l.levelCode
                           category := l.category, status := l.status }]
            else c.kept
          nextSymbols := match (keySymbols l.key)[c.query.pfx.length]? with
            | none => c.nextSymbols
            | some b => c.nextSymbols ||| (1#40 <<< (b.toNat - 1)) }
        else { c with position := c.position + 1 }) →
    (c.detached = false → c.position + 1 < c.stop →
      exec .directoryExamination s = .next { s with dir := { s.dir with scan := some d } })
    ∧ (∀ tag off waiting next, c.detached = false → c.stop ≤ c.position + 1 →
      (s.dir.queue = [] ∧ waiting = [] ∧ next = none)
        ∨ (∃ q a b, s.dir.queue = q :: waiting ∧ s.PrefixRun q.pfx a b
          ∧ next = some { query := q, position := a, stop := b, total := 0, kept := [], nextSymbols := 0
                          detached := false }) →
      s.screens[c.query.ref.screen.val].outstanding =
        [{ id := c.query.ref.id, asker := .host tag, ask := .directory off, result := none }] →
      exec .directoryExamination s = .next { s with
        dir := { s.dir with queue := waiting, scan := next }
        link := { s.link with replies := s.link.replies ++
          [{ cls := 0x8C, tag := tag, resets := false
             release := some (c.query.ref.screen, s.screens[c.query.ref.screen.val].released)
             payload := [0] ++ le 2 d.total ++ le 2 c.query.offset.toNat ++ le 1 d.kept.length
              ++ le 5 d.nextSymbols.toNat ++ d.kept.flatMap MatchRecord.toBytes }] }
        screens := s.screens.set c.query.ref.screen.val
          { s.screens[c.query.ref.screen.val] with
            outstanding := [], released := s.screens[c.query.ref.screen.val].released + 1 } })
    ∧ (∀ waiting next, c.detached = true →
      (s.dir.queue = [] ∧ waiting = [] ∧ next = none)
        ∨ (∃ q a b, s.dir.queue = q :: waiting ∧ s.PrefixRun q.pfx a b
          ∧ next = some { query := q, position := a, stop := b, total := 0, kept := [], nextSymbols := 0
                          detached := false }) →
      exec .directoryExamination s = .next { s with dir := { s.dir with queue := waiting, scan := next } })
    ∧ (∀ q tag off x, c.detached = true → s.dir.queue = [q] → (∀ l ∈ s.dir.listings, startsWith q.pfx l = false) →
      x = s.screens[q.ref.screen.val] →
      x.outstanding = [{ id := q.ref.id, asker := .host tag, ask := .directory off, result := none }] →
      exec .directoryExamination s = .next { s with
        dir := { s.dir with queue := [], scan := none }
        link := { s.link with replies := s.link.replies ++
          [{ cls := 0x8C, tag := tag, resets := false, release := some (q.ref.screen, x.released)
             payload := [0, 0, 0] ++ le 2 q.offset.toNat ++ [0, 0, 0, 0, 0, 0] }] }
        screens := s.screens.set q.ref.screen.val { x with outstanding := [], released := x.released + 1 } })

/-- R138 to R140: over a listing table in key order the prefix range holds exactly the listings whose keys start with
the prefix; and the examinations of a range, made over one table, count every match once, keep the window of the
matches that the offset and the maximum name, and collect exactly the symbols that follow the prefix. R134 to R136: which
term slots are valid, and which listings pass them. -/
def Obligations.DirectoryFindsAllMatches : Prop :=
  (∀ (pfx : List Byte) (ls : List Listing),
    (∀ n, n + 1 < ls.length →
      sortsBefore (keySymbols (ls.getD (n + 1) .reset).key) (keySymbols (ls.getD n .reset).key) = false) →
    ∀ j < ls.length, startsWith pfx (ls.getD j .reset) = true ↔ rangeStart pfx ls ≤ j ∧ j < rangeStop pfx ls)
  ∧ (∀ (q : Query) (ls : List Listing) (a n : Nat) (c : Scan) (found : List Nat),
    found = (List.range' a n).filter (fun j => decide ((ls.getD j .reset).status ≠ .hidden)
      && passesTerms q.terms (ls.getD j .reset)) →
    c = (List.range' a n).foldl (fun c j => c.examine (ls.getD j .reset))
      { query := q, position := a, stop := a + n, total := 0, kept := [], nextSymbols := 0, detached := false } →
    c.total = found.length ∧ c.position = a + n
      ∧ c.kept.map (·.index) = (found.drop q.offset.toNat).take q.maximum
      ∧ (∀ m ∈ c.kept, m.key = (ls.getD m.index .reset).key ∧ m.tenant = (ls.getD m.index .reset).tenant)
      ∧ ∀ k : Fin 40, c.nextSymbols.getLsbD k.val = true ↔
          ∃ j ∈ found, (keySymbols (ls.getD j .reset).key)[q.pfx.length]? = some (BitVec.ofNat 8 (k.val + 1)))
  ∧ (∀ ts : Terms, termsValid ts = true ↔ ∀ (k : Fin 4) (t : Term), ts[k.val] = some t →
      ((t.field = 1 ∨ t.field = 2) ∧ t.condition.toNat ≤ 5)
        ∨ (t.field = 3 ∧ t.condition.toNat ≤ 1 ∧ t.operand.toNat ≤ 1)
        ∨ (t.field = 4 ∧ 6 ≤ t.condition.toNat ∧ t.condition.toNat ≤ 8))
  ∧ (∀ (ts : Terms) (l : Listing), passesTerms ts l = true ↔
      ∀ (k : Fin 4) (t : Term), ts[k.val] = some t → t.holds l = true)
  ∧ (∀ (t : Term) (l : Listing),
      (∀ x y : Int, (t.field = 1 ∧ x = l.category.toNat ∧ y = t.operand.toNat)
          ∨ (t.field = 2 ∧ x = (l.levelCode.toNat : Int) - 4 ∧ y = t.operand.toInt)
          ∨ (t.field = 3 ∧ x = (match l.status with | .opened => 0 | .closed => 1 | .hidden => 2) ∧ y = t.operand.toNat) →
        (t.condition = 0 → (t.holds l = true ↔ x = y)) ∧ (t.condition = 1 → (t.holds l = true ↔ x ≠ y))
        ∧ (t.condition = 2 → (t.holds l = true ↔ x < y)) ∧ (t.condition = 3 → (t.holds l = true ↔ x ≤ y))
        ∧ (t.condition = 4 → (t.holds l = true ↔ y < x)) ∧ (t.condition = 5 → (t.holds l = true ↔ y ≤ x)))
      ∧ (t.field = 4 →
        (t.condition = 6 → (t.holds l = true ↔
          ∀ k : Fin 16, t.operand.getLsbD k.val = true → l.attributes.getLsbD k.val = true))
        ∧ (t.condition = 7 → (t.holds l = true ↔
          ∃ k : Fin 16, t.operand.getLsbD k.val = true ∧ l.attributes.getLsbD k.val = true))
        ∧ (t.condition = 8 → (t.holds l = true ↔
          ∀ k : Fin 16, t.operand.getLsbD k.val = true → l.attributes.getLsbD k.val = false))))

/-- R154, R151: a FENCE that finds its screen's list empty is answered at once with its token; behind older entries it
joins as DONE; with the list full it is BUSY. -/
def Obligations.Fence : Prop :=
  ∀ s (i : Fin 4) tag (token : BitVec 32) rest (c : Screen),
    s.headIs 0x0D tag ([BitVec.ofNat 8 i.val] ++ le 4 token.toNat) rest → c = s.screens[i.val] → c.enabled = true →
    (c.outstanding = [] →
      exec .fence s = .next { s with
        link := { s.link with
          inbound := rest
          replies := s.link.replies ++
            [{ cls := 0x8D, tag := tag, payload := [0, BitVec.ofNat 8 i.val] ++ le 4 token.toNat
               release := some (i, c.released), resets := false }] }
        screens := s.screens.set i.val
          { c with active := true, idle := some 0, nextId := c.nextId + 1, released := c.released + 1 } })
    ∧ (c.outstanding ≠ [] → c.headWaits → c.outstanding.length < 4 →
      exec .fence s = .next { s.taken rest with
        screens := s.screens.set i.val
          { c with active := true, idle := some 0, nextId := c.nextId + 1
                   outstanding := c.outstanding ++
                    [{ id := c.nextId, asker := .host tag, ask := .fence token, result := some (.bare .ok) }] } })
    ∧ (4 ≤ c.outstanding.length →
      exec .fence s = .next { s.answered rest 0x8D tag [4] with
        screens := s.screens.set i.val { c with active := true, idle := some 0 } })

/-- R155, R73, R74, R99, R143, R151: a CANCEL of a screen without entries is answered 0; one that reaches a route request
waiting in the search queue completes it with CANCELLED, detaches it there, and leaves the entry's other requesters. In
general every entry leaves in join order, CANCELLED where it was not DONE; the requesters reached leave the search queue,
the composer's job and the directory, with what that does to units, job and scan; and the reply counts them. The general
clause is stated where the detachment sets no engine to other work. -/
def Obligations.Cancel : Prop :=
  ∀ s (i : Fin 4) tag rest (c : Screen), s.headIs 0x0E tag [BitVec.ofNat 8 i.val] rest → c = s.screens[i.val] →
    c.enabled = true →
    (∀ refs t, refs = (c.outstanding.filter fun e => decide (e.result = none)).map (fun e => { screen := i, id := e.id }) →
      s.quietAfterDetaching refs →
      t = (State.afterLeaving { s.taken rest with
          screens := s.screens.set i.val { c with active := true, idle := some 0 } } i 9 c.outstanding []).afterDetaching
            refs →
      exec .cancel s = .next { t with link := { t.link with replies := t.link.replies ++
        [{ cls := 0x8E, tag := tag, payload := [0, BitVec.ofNat 8 i.val, BitVec.ofNat 8 refs.length], release := none
           resets := false }] } })
    ∧ (s.rco.queue = [] → s.dir.queue = [] → c.outstanding = [] → s.WorkHeld → (∀ e ∈ s.search.queue, e.unit ≠ none) →
      exec .cancel s = .next { s.answered rest 0x8E tag [0, BitVec.ofNat 8 i.val, 0] with
        screens := s.screens.set i.val { c with active := true, idle := some 0 } })
    ∧ (∀ (id : Nat) (asked : Byte) (k : Key) (x : Bool) (e : SearchEntry) (others : List Ref),
      s.rco.queue = [] → s.dir.queue = [] →
      c.outstanding = [{ id := id, asker := .host asked, ask := .route k x, result := none }] →
      s.search.queue = [e] → e.unit = none → e.requesters = { screen := i, id := id } :: others →
      { screen := i, id := id } ∉ others → s.rco.job = none → s.dir.scan = none →
      s.mod.mode = .frozen ∨ (∀ u : Fin 2, s.search.units[u.val].state ≠ .idle) →
      exec .cancel s = .next { s with
        link := { s.link with
          inbound := rest
          replies := s.link.replies ++
            [{ cls := 0x8B, tag := asked, resets := false, release := some (i, c.released)
               payload := [9, 0] ++ le 2 k.origin.toNat ++ [k.kind.code] ++ le 2 k.number.toNat ++ [0, 0]
                ++ [BitVec.ofNat 8 k.profile.val] ++ List.replicate 14 0 },
             { cls := 0x8E, tag := tag, payload := [0, BitVec.ofNat 8 i.val, 1], release := none, resets := false }] }
        search := { s.search with queue := if others = [] then [] else [{ e with requesters := others }] }
        screens := s.screens.set i.val
          { c with active := true, idle := some 0, outstanding := [], released := c.released + 1 } })

/-- R149: the expiry of an ACTIVE session ends it and reports SESSION_ENDED, or under the mask sets the pending flag; a
panel-originated query that waits leaves as a CANCELLED MATCHES report before it. A session in ATTRACT cannot expire. The
command stands for the idle time having passed (log entry 3). -/
def Obligations.SessionExpiry : Prop :=
  ∀ (s : State) (i : Fin 4) (c d : Screen), s.resetLow = false → c = s.screens[i.val] →
    d = { c with active := false, idle := none, text := [], terms := Terms.empty } →
    (c.active = false → exec (.sessionExpiry i) s = .next s)
    ∧ (c.active = true → c.headWaits → (∀ e ∈ c.outstanding, ∃ tag, e.asker = .host tag) → s.EnginesQuiet →
      s.WorkHeld →
      (s.reportsFreely .session →
        exec (.sessionExpiry i) s = .next { s with
          screens := s.screens.set i.val d
          link := { s.link with reports := s.link.reports ++
            [{ cls := 0x45, tag := 0, payload := [BitVec.ofNat 8 i.val], release := none, resets := false }] } })
      ∧ (s.link.mask.getLsbD 4 = true →
        exec (.sessionExpiry i) s = .next { s with
          screens := s.screens.set i.val d
          link := { s.link with suppressed := s.link.suppressed ||| 0b010000 } }))
    ∧ (∀ id seq off q z, c.active = true →
      c.outstanding = [{ id := id, asker := .panel seq, ask := .directory off, result := none }] →
      s.dir.queue = [q] → q.ref = { screen := i, id := id } → s.dir.scan = some z → z.query.ref ≠ q.ref →
      s.rco.queue = [] → (∀ e ∈ s.search.queue, e.unit ≠ none) →
      (∀ e ∈ s.search.queue, e.requesters ≠ [] ∧ q.ref ∉ e.requesters) →
      (∀ j, s.rco.job = some j → j.requesters ≠ [] ∧ q.ref ∉ j.requesters) →
      1 ≤ s.link.reserved → s.reportsFreely .session → s.link.masked .matchList = false →
      exec (.sessionExpiry i) s = .next { s with
        screens := s.screens.set i.val { d with outstanding := [], released := c.released + 1 }
        dir := { s.dir with queue := [] }
        link := { s.link with
          reserved := s.link.reserved - 1
          reports := s.link.reports ++
            [{ cls := 0x44, tag := 0, resets := false, release := some (i, c.released)
               payload := [BitVec.ofNat 8 i.val, seq, 9, 0, 0] ++ le 2 off.toNat ++ [0, 0, 0, 0, 0, 0] },
             { cls := 0x45, tag := 0, payload := [BitVec.ofNat 8 i.val], release := none, resets := false }] } })

/-! ## Search, composition and the cache -/

/-- R46 to R49: the weighted length rounded up, the level penalty, the lift wait of a LIFT alone, and their sum, each
within the bounds that the rules give. R45: a kind of weight 0 has no cost. -/
def Obligations.SegmentCost : Prop :=
  ∀ (p : Profile) (g : Segment) (w : Nat), w = p.weights[g.kind.code.val].toNat →
    (w = 0 → segmentCost p g = none)
    ∧ (w ≠ 0 → ∃ a b c,
      segmentCost p g = some (a + b + c)
        ∧ g.length.toNat * w ≤ 16 * a ∧ 16 * a < g.length.toNat * w + 16
        ∧ b = g.delta.toInt.natAbs * p.penalty.toNat
        ∧ c = (if g.kind = .lift then p.liftWait.toNat * p.speed.toNat else 0)
        ∧ a ≤ 130545 ∧ (g.delta ≠ 0b10000 → b ≤ 983025) ∧ (p.speed.toNat ≤ 25 → c ≤ 6375)
        ∧ (g.length ≠ 0 → g.delta ≠ 0b10000 → p.speed.toNat ≤ 25 → 1 ≤ a + b + c ∧ a + b + c ≤ 1119945))

/-- R7, R8: over segments in the order of their from waypoints, all of them waypoints of the map, the outgoing run of a
waypoint is exactly its segments, in increasing index order. -/
def Obligations.OutgoingRuns : Prop :=
  ∀ (s : State) (w : BitVec 12), s.map.startIndex = some (buildStartIndex s.waypointCount s.map.segments) →
    (∀ g, g + 1 < s.segmentCount → (s.segment g).src.toNat ≤ (s.segment (g + 1)).src.toNat) →
    (∀ g < s.segmentCount, (s.segment g).src.toNat < s.waypointCount) → w.toNat < s.waypointCount →
    s.outgoing w = (List.range s.segmentCount).filter fun g => decide ((s.segment g).src = w)

/-- R61 to R63: a settle step whose head is no target settles it and relaxes its outgoing run: a waypoint's cost falls
exactly where an open segment of an allowed kind offers a lower one within the greatest path cost, its predecessor is
that segment, the lowest in index of those that offer the same cost (R8), it stands in the frontier, and DETOUR records a
closed segment met on the way. Nothing else changes. -/
def Obligations.SettleStep : Prop :=
  ∀ (s : State) (u : Fin 2) (old : SearchUnit) (c : Nat) (w : BitVec 12) (rest : List (Nat × BitVec 12)),
    s.resetLow = false → s.mod.mode = .service → s.mod.freezing = none → s.EnginesQuiet →
    old = s.search.units[u.val] → old.state = .running → (∃ e ∈ s.search.queue, e.unit = some u) →
    old.result = none → old.frontier = (c, w) :: rest → w ∉ old.targets →
    ∃ v, exec (.settleStep u) s = .next { s with search := { s.search with units := s.search.units.set u.val v } }
      ∧ v = { old with cost := v.cost, pred := v.pred, frontier := v.frontier, detour := v.detour
                       settled := setPlace old.settled w true, settledCount := old.settledCount + 1 }
      ∧ (∀ x, place v.cost x ≤ place old.cost x)
      ∧ (∀ x, place v.cost x = place old.cost x → place v.pred x = place old.pred x)
      ∧ (∀ g ∈ s.outgoing w, ∀ k, segmentCost s.profiles[old.key.profile.val] (s.segment g) = some k →
          place v.settled (s.segment g).dst = false → (s.segment g).closed = false →
          place old.cost w + k ≤ 16777214 → place v.cost (s.segment g).dst ≤ place old.cost w + k)
      ∧ (∀ x, place v.cost x ≠ place old.cost x → ∃ g ∈ s.outgoing w, (s.segment g).dst = x
          ∧ (s.segment g).closed = false ∧ place v.settled x = false ∧ place v.pred x = some g
          ∧ ∃ k, segmentCost s.profiles[old.key.profile.val] (s.segment g) = some k
            ∧ place v.cost x = place old.cost w + k ∧ place v.cost x ≤ 16777214
            ∧ ∀ j ∈ s.outgoing w, j < g → (s.segment j).dst = x → (s.segment j).closed = false →
              ∀ n, segmentCost s.profiles[old.key.profile.val] (s.segment j) = some n →
                place v.cost x < place old.cost w + n)
      ∧ (∀ x, x ∈ v.frontier.map (·.2) ↔ x ∈ rest.map (·.2) ∨ place v.cost x ≠ place old.cost x)
      ∧ (v.detour = true ↔ old.detour = true ∨ ∃ g ∈ s.outgoing w, place v.settled (s.segment g).dst = false
          ∧ (s.segment g).closed = true ∧ segmentCost s.profiles[old.key.profile.val] (s.segment g) ≠ none)

/-- R64 to R69, R81: the settle step that ends a search. An exhausted frontier is NO_ROUTE; a settled target whose path is
open goes to the composer with its cacheable mark; a path with a closed segment begins a fresh attempt, and at the third
ends in NO_STABLE_ROUTE; a HIDDEN listing is NOT_FOUND. A composer that holds a job leaves each result at its unit, in
HANDOFF, and queues its place; R82: without a job it takes a result other than OK and completes its requesters with it, in
join order, and makes an OK result its job. R56, R69: the unit whose result the composer takes becomes IDLE, and takes the
oldest WAITING entry if one waits. The path [] and entrance 0 of a result other than OK are the model's choice (log entry
37). -/
def Obligations.SearchEnds : Prop :=
  ∀ (s : State) (u : Fin 2) (old : SearchUnit), s.resetLow = false → s.mod.mode = .service → s.mod.freezing = none →
    s.dir.queue = [] →
    NoneWaits s.search.queue ∨ (∀ w : Fin 2, w ≠ u → s.search.units[w.val].state ≠ .idle) →
    old = s.search.units[u.val] → old.state = .running → (∃ e ∈ s.search.queue, e.unit = some u) →
    (∀ (v : SearchUnit) (code : ResultCode), s.EndsWithout old v code → s.rco.job ≠ none →
      exec (.settleStep u) s = .next { s with
        search := { s.search with units := s.search.units.set u.val { v with
          state := .handoff
          result := some { code := code, path := [], entrance := 0, detour := v.detour, cacheable := false } } }
        rco := { s.rco with queue := s.rco.queue ++ [u] } })
    ∧ (∀ (v : SearchUnit) (code : ResultCode) (e : SearchEntry) (items : List OutItem) (queue : List SearchEntry)
        (n : SearchUnit),
      s.EndsWithout old v code → s.Freed u queue n → s.rco.job = none → s.rco.queue = [] →
      (s.search.queue.filter fun e => decide (e.unit = some u)) = [e] → (e.requesters.map (·.screen)).Nodup →
      List.Forall₂ (fun ref item => ∃ tag k x,
        s.screens[ref.screen.val].outstanding =
            [{ id := ref.id, asker := .host tag, ask := .route k x, result := none }]
          ∧ item = { cls := 0x8B, tag := tag, resets := false
                     release := some (ref.screen, s.screens[ref.screen.val].released)
                     payload := [code.code, 0] ++ le 2 k.origin.toNat ++ [k.kind.code] ++ le 2 k.number.toNat ++ [0, 0]
                      ++ [BitVec.ofNat 8 k.profile.val] ++ List.replicate 14 0 }) e.requesters items →
      exec (.settleStep u) s = .next { s with
        search := { queue := queue, units := s.search.units.set u.val n }
        link := { s.link with replies := s.link.replies ++ items }
        screens := .ofFn fun i => if i ∈ e.requesters.map (·.screen) then
            { s.screens[i.val] with outstanding := [], released := s.screens[i.val].released + 1 }
          else s.screens[i.val] })
    ∧ (∀ c w rest path v, old.frontier = (c, w) :: rest → w ∈ old.targets → ¬ s.seeksHidden old.key →
      v = { old with frontier := rest, settled := setPlace old.settled w true, settledCount := old.settledCount + 1 } →
      path = s.pathTo v w →
      (∀ cacheable, (∀ g ∈ path, (s.segment g).closed = false) →
        cacheable = decide (1 ≤ path.length ∧ path.length ≤ 128 ∧ old.captured = some s.map.generation) →
        (∀ queue n, s.Freed u queue n → s.rco.job = none → s.rco.queue = [] →
          exec (.settleStep u) s = .next { s with
            search := { queue := queue, units := s.search.units.set u.val n }
            rco := {
              queue := []
              job := some
                { key := old.key, requesters := s.requestersOf u, path := path, entrance := w, detour := old.detour
                  cacheable := cacheable, captured := old.captured, route := none } } })
        ∧ (s.rco.job ≠ none →
          exec (.settleStep u) s = .next { s with
            search := { s.search with units := s.search.units.set u.val { v with
              state := .handoff
              result := some
                { code := .ok, path := path, entrance := w, detour := old.detour, cacheable := cacheable } } }
            rco := { s.rco with queue := s.rco.queue ++ [u] } }))
      ∧ (s.rco.queue = [] → old.result = none → old.restarts < 2 → (∃ g ∈ path, (s.segment g).closed = true) →
        exec (.settleStep u) s = .next { s with search := { s.search with units := s.search.units.set u.val { old with
          cost := setPlace (.replicate 4096 16777215) old.key.origin 0, pred := .replicate 4096 none
          settled := .replicate 4096 false, frontier := [(0, old.key.origin)], settledCount := 0
          restarts := old.restarts + 1, detour := true } } }))

/-- R84: the turn delta is the outgoing heading less the incoming one modulo 256, read as signed, and the rows of the
table classify it. -/
def Obligations.TurnClasses : Prop :=
  ∀ (incoming outgoing : BitVec 8) (d : Int),
    (d = ((outgoing.toNat + 256 - incoming.toNat) % 256 : Nat) ∧ d < 128)
      ∨ (d = ((outgoing.toNat + 256 - incoming.toNat) % 256 : Nat) - 256 ∧ d < 0 ∧ -128 ≤ d) →
    (-16 ≤ d → d ≤ 16 → turnClass incoming outgoing = .straight)
    ∧ (17 ≤ d → d ≤ 48 → turnClass incoming outgoing = .slightRight)
    ∧ (49 ≤ d → d ≤ 96 → turnClass incoming outgoing = .right)
    ∧ (97 ≤ d → d ≤ 127 → turnClass incoming outgoing = .sharpRight)
    ∧ (d = -128 → turnClass incoming outgoing = .uTurn)
    ∧ (-127 ≤ d → d ≤ -97 → turnClass incoming outgoing = .sharpLeft)
    ∧ (-96 ≤ d → d ≤ -49 → turnClass incoming outgoing = .left)
    ∧ (-48 ≤ d → d ≤ -17 → turnClass incoming outgoing = .slightLeft)

/-- R83 to R94, R106, R107: composition ends with 1 to 48 steps, the last of them ARRIVE at the reached entrance, whose
lengths add up to the total distance; the totals cover the whole path. The steps before ARRIVE are the provisional steps
of the segments in path order, merged in runs as long as R86 allows, the first made DEPART_TURN as R87 says, and from 48
on cut to 46 and CONTINUE. A route marked cacheable that passes the four tests of its offer is then found in the cache
under its key; one that fails a test is declined. R91: the walking time of a segment. R101, R107, R109: the groups of a
key, the entry that an insertion writes, and the clock that chooses a victim; every other entry stays. That an offer is judged
by R106's tests alone, whether or not the generation has wrapped since its search began, is the model's choice (log entry
38). -/
def Obligations.CompositionEnd : Prop :=
  (∀ (s : State) (j : Job) (gs : List Segment), s.resetLow = false → s.rco.job = some j → j.route = none →
      gs = j.path.map s.segment →
      ∃ r, exec .compositionEnd s = .next { s with
            rco := { s.rco with job := some { j with route := some r } }
            rcc := if j.cacheable then (s.offer j.captured r j.path).rcc else s.rcc }
        ∧ (r.key = j.key ∧ r.entrance = j.entrance ∧ r.detour = j.detour
            ∧ r.heading = (match gs with | [] => 0 | g :: _ => g.heading))
        ∧ r.distance = ((gs.filter fun g => decide (g.kind ≠ .lift)).map fun g => g.length.toNat).sum
        ∧ r.time = (gs.map (segmentTime s.profiles[j.key.profile.val])).sum
        ∧ r.levelChanges = min (gs.countP fun g => decide (g.delta ≠ 0)) 255
        ∧ 1 ≤ r.steps.length ∧ r.steps.length ≤ 48 ∧ (r.truncated = true → r.steps.length = 48)
        ∧ r.steps.getLast? = some
            { action := .arrive, turn := .none, length := 0, levelCode := (s.waypoint j.entrance.toNat).levelCode
              endWaypoint := j.entrance, landmark := (s.waypoint j.entrance.toNat).landmark }
        ∧ (r.steps.map (·.length)).sum = r.distance
        ∧ (∃ (runs : List (List RouteStep)) (merged steps : List RouteStep),
            runs.flatten = List.zipWith s.stepOf (none :: gs.map fun g => some g.heading) gs
            ∧ List.Forall₂ RouteStep.MergedFrom runs merged
            ∧ runs.IsChain (fun a b => ∀ x y, a.getLast? = some x → b.head? = some y → ¬ x.Joins y)
            ∧ steps = (match merged with
                | a :: b :: rest => if a.action = .walk ∧ 1 ≤ a.length ∧ a.length ≤ 15 then
                    { a with action := .departTurn } :: b :: rest else merged
                | _ => merged)
            ∧ (steps.length ≤ 47 → r.truncated = false ∧ r.steps.dropLast = steps)
            ∧ (48 ≤ steps.length → r.truncated = true
              ∧ ∀ g, gs.getLast? = some g → r.steps.dropLast = steps.take 46 ++
                [{ action := .continueOn, turn := .none, length := ((steps.drop 46).map (·.length)).sum
                   levelCode := (s.waypoint j.entrance.toNat).levelCode, endWaypoint := g.src
                   landmark := (s.waypoint g.src.toNat).landmark }]))
        ∧ (1 ≤ j.path.length → j.path.length ≤ 128 → j.captured = some s.map.generation →
            (∀ g ∈ j.path, (s.segment g).closed = false ∧ g ∉ s.rcc.sweep) →
            ∃ e, (s.offer j.captured r j.path).rcc.find j.key = some e
              ∧ (s.offer j.captured r j.path).rcc.at e =
                  { valid := true, alternate := ((s.offer j.captured r j.path).rcc.at e).alternate, referenced := false
                    generation := s.map.generation, route := r, segments := j.path })
        ∧ (j.path = [] ∨ 128 < j.path.length ∨ j.captured ≠ some s.map.generation
            ∨ (∃ g ∈ j.path, (s.segment g).closed = true ∨ g ∈ s.rcc.sweep) →
            (s.offer j.captured r j.path).rcc = s.rcc))
  ∧ (∀ (p : Profile) (g : Segment) (v : Nat), 5 ≤ p.speed.toNat →
      v = (match g.kind with
        | .walk | .ramp | .door | .outdoor => p.speed.toNat
        | .stairs => max (p.speed.toNat / 2) 3
        | .escalator => if g.ride = 0 then p.speed.toNat else g.ride.toNat
        | .travelator => p.speed.toNat + g.ride.toNat
        | .lift => if g.ride = 0 then 10 else g.ride.toNat) →
      ∃ d, segmentTime p g = (if g.kind = .lift then p.liftWait.toNat * 10 else 0) + d
        ∧ 2 * v * d ≤ 2 * (g.length.toNat * 10) + v ∧ 2 * (g.length.toNat * 10) + v < 2 * v * (d + 1))
  ∧ (∀ (s : State) (captured : Option (BitVec 16)) (r : ComposedRoute) (path : List Nat) (c d : CacheState)
        (g : Fin 64) (new : Bool → CacheEntry),
      s.CacheLaw → 1 ≤ path.length → path.length ≤ 128 → captured = some s.map.generation →
      (∀ n ∈ path, (s.segment n).closed = false ∧ n ∉ s.rcc.sweep) →
      c = s.rcc → d = (s.offer captured r path).rcc →
      g.val = (r.key.origin.toNat ^^^ (3 * r.key.number.toNat) ^^^ (9 * r.key.profile.val)
        ^^^ (if r.key.kind = .waypoint then 32 else 0)) % 64 →
      new = (fun alternate => { valid := true, alternate := alternate, referenced := false
                                generation := s.map.generation, route := r, segments := path }) →
      (primaryGroup r.key = g ∧ (secondaryGroup r.key).val = 63 - g.val ∧ d.sweep = c.sweep ∧ d.scan = c.scan)
      ∧ (∀ e, (c.at e).valid = true → (c.at e).route.key = r.key →
          d.hands = c.hands ∧ ∀ x, d.at x = if x = e then new (c.at e).alternate else c.at x)
      ∧ ((∀ e, (c.at e).valid = true → (c.at e).route.key ≠ r.key) →
        (∀ e : Fin 512, e.val / 8 = g.val → (c.at e).valid = false →
          (∀ x < e, x.val / 8 = g.val → (c.at x).valid = true) →
          d.hands = c.hands ∧ ∀ x, d.at x = if x = e then new false else c.at x)
        ∧ ((∀ x : Fin 512, x.val / 8 = g.val → (c.at x).valid = true) →
          (∀ e : Fin 512, e.val / 8 = 63 - g.val → (c.at e).valid = false →
            (∀ x < e, x.val / 8 = 63 - g.val → (c.at x).valid = true) →
            d.hands = c.hands ∧ ∀ x, d.at x = if x = e then new true else c.at x)
          ∧ ((∀ x : Fin 512, x.val / 8 = 63 - g.val → (c.at x).valid = true) →
            ∀ n ≤ 8, ∀ passed : Nat → Fin 512,
              (∀ m, (passed m).val = 8 * g.val + (c.hands[g.val].val + m) % 8) →
              (∀ m < n, (c.at (passed m)).referenced = true) → n = 8 ∨ (c.at (passed n)).referenced = false →
              (∀ f : Fin 64, d.hands[f.val].val =
                if f = g then (c.hands[g.val].val + n + 1) % 8 else c.hands[f.val].val)
              ∧ ∀ x, d.at x =
                  if x = passed n then new false
                  else if ∃ m < n, x = passed m then { c.at x with referenced := false }
                  else c.at x))))

/-- R95 to R98, R151, R189: the finalisation of a composed job for a requester: the first step turned for its screen, the
rounded totals, and the record released as its reply, as its ROUTE report in the reserved slot, or under the mask
discarded; behind an older entry that is not DONE it waits in its place, and at the head it leaves with the DONE entries that
stand right behind it. The job ends after its last requester. -/
def Obligations.RouteFinalisation : Prop :=
  ∀ (s : State) (j : Job) (r : ComposedRoute) (ref : Ref) (others : List Ref) (c : Screen) (y : RouteStep)
      (ys : List RouteStep) (asker : Asker) (k : Key) (explicit : Bool) (record : RouteRecord) (bytes : List Byte)
      (after : State) (e : Entry),
    s.resetLow = false → s.rco.job = some j → j.route = some r → j.requesters = ref :: others →
    c = s.screens[ref.screen.val] → e = { id := ref.id, asker := asker, ask := .route k explicit, result := none } →
    r.steps = y :: ys → (others = [] → s.EnginesQuiet) →
    record = { fromCache := false, detour := r.detour
               destinationClosed := decide (r.key.kind = .listing ∧ (s.listing r.key.number.toNat).status ≠ .opened)
               truncated := r.truncated, explicitOrigin := explicit, key := r.key, entrance := r.entrance
               distance := r.distance, metres := (r.distance + 5) / 10
               seconds := min ((r.time + 9) / 10) 65535
               minutes := (min ((r.time + 9) / 10) 65535 + 59) / 60, levelChanges := r.levelChanges
               steps := { y with turn :=
                  (if explicit = true ∨ y.action = .arrive then TurnClass.none
                    else turnClass c.heading r.heading) } :: ys } →
    bytes = record.toBytes →
    after = { s with
      rco := { s.rco with job := if others = [] then none else some { j with requesters := others } } } →
    (∀ tag, c.outstanding = [e] → asker = .host tag →
      exec .routeFinalisation s = .next { after with
        link := { s.link with replies := s.link.replies ++
          [{ cls := 0x8B, tag := tag, payload := bytes, release := some (ref.screen, c.released), resets := false }] }
        screens := s.screens.set ref.screen.val { c with outstanding := [], released := c.released + 1 } })
    ∧ (∀ seq, c.outstanding = [e] → asker = .panel seq → s.link.masked .route = false →
      exec .routeFinalisation s = .next { after with
        link := { s.link with
          reserved := s.link.reserved - 1
          reports := s.link.reports ++
            [{ cls := 0x43, tag := 0, payload := [BitVec.ofNat 8 ref.screen.val, seq] ++ bytes
               release := some (ref.screen, c.released), resets := false }] }
        screens := s.screens.set ref.screen.val { c with outstanding := [], released := c.released + 1 } })
    ∧ (∀ seq, c.outstanding = [e] → asker = .panel seq → s.link.masked .route = true →
      exec .routeFinalisation s = .next { after with
        link := { s.link with
          reserved := s.link.reserved - 1, suppressed := s.link.suppressed ||| 0b000100 }
        screens := s.screens.set ref.screen.val { c with outstanding := [] } })
    ∧ (∀ older younger : List Entry, c.outstanding = older ++ e :: younger →
      (∀ x ∈ older ++ younger, x.id ≠ ref.id) →
      (older ≠ [] → c.headWaits →
        exec .routeFinalisation s = .next { after with
          screens := s.screens.set ref.screen.val
            { c with outstanding := older ++ { e with result := some (.route record) } :: younger } })
      ∧ (older = [] →
        exec .routeFinalisation s = .next (after.afterLeaving ref.screen 0
          ({ e with result := some (.route record) } :: younger.takeWhile fun x => x.result.isSome)
          (younger.dropWhile fun x => x.result.isSome))))

/-- R111: one sweep examination invalidates the entry at the scan position if its route uses the oldest segment of the
sweep list and moves on; after the last the segment leaves the list. 512 examinations in a row remove every route that
uses the segment and no other. -/
def Obligations.SweepExamination : Prop :=
  (∀ (s : State) (p : Fin 512) (g : Nat) (rest : List Nat) (x : CacheEntry), s.resetLow = false →
    s.rcc.sweep = g :: rest → s.rcc.scan = some p → x = s.rcc.at p →
    exec .sweepExamination s = .next { s with rcc := { s.rcc with
      entries := s.rcc.entries.set p.val
        (if x.valid = true ∧ g ∈ x.segments then { x with valid := false, referenced := false } else x)
      sweep := if p.val = 511 then rest else s.rcc.sweep
      scan := if p.val = 511 then (if rest = [] then none else some 0) else some (Fin.ofNat 512 (p.val + 1)) } })
  ∧ (∀ (c : CacheState) (g : Nat) (rest : List Nat), c.sweep = g :: rest → c.scan = some 0 →
    (CacheState.examine^[512] c).sweep = rest ∧ (CacheState.examine^[512] c).hands = c.hands
      ∧ (CacheState.examine^[512] c).scan = (if rest = [] then none else some 0)
      ∧ ∀ e : Fin 512, (CacheState.examine^[512] c).at e =
          if (c.at e).valid = true ∧ g ∈ (c.at e).segments then { c.at e with valid := false, referenced := false }
          else c.at e)

/-! ## Touch panels -/

/-- R175: HOTSPOTS_SET replaces a screen's page and page number whole; an entry with an action code above 8, or a screen
number above 3, leaves the page and is answered BAD_ARGUMENT. -/
def Obligations.HotspotsSet : Prop :=
  ∀ s tag (b n : Byte) (es : List (List Byte × Option Hotspot)) rest,
    s.headIs 0x0F tag ([b, n] ++ es.flatMap (·.1)) rest → es.length ≤ 64 →
    (∀ x ∈ es, x.1.length = 14 ∧ hotspotOfBytes x.1 = x.2) →
    (∀ (i : Fin 4) (hs : List Hotspot), b.toNat = i.val → es.map (·.2) = hs.map some →
      exec .hotspotsSet s = .next { s.answered rest 0x8F tag [0, b, n, BitVec.ofNat 8 hs.length] with
        panels := s.panels.set i.val { s.panels[i.val] with page := hs, pageNumber := n } })
    ∧ (3 < b.toNat ∨ none ∈ es.map (·.2) →
      exec .hotspotsSet s = .next (s.answered rest 0x8F tag [5]))
    ∧ (∀ x ∈ es, x.2 = none ↔ 8 < (byteAt x.1 8).toNat)

/-- R164: PANEL_SET stores the configuration with its clamps; it enables a panel that is OFF into WAITING, disables one
into OFF, takes one whose source changes to WAITING, and leaves the state of any other. A panel number above 3 and a
panel in CAPTURING are refused. R177, R167: at an entry to OFF or WAITING each DOWN track reports CONTACT UP with CANCELLED,
and an injected frame that waits in the buffer is answered DISCARDED ahead of the PANEL_SET. That a frame in processing then
plays no further part, and that a change of source enters WAITING also from WAITING, is the model's reading (log entries 9
and 28), and the values that a FREE track holds are its choice (log entry 35). -/
def Obligations.PanelSet : Prop :=
  ∀ s tag (b e src lo hi nlo nhi : Byte) mv rest,
    s.headIs 0x10 tag ([b, e, src, lo, hi, nlo, nhi] ++ le 2 mv) rest → e.toNat ≤ 1 → src.toNat ≤ 1 → mv < 65536 →
    (3 < b.toNat → exec .panelSet s = .next (s.answered rest 0x90 tag [5]))
    ∧ ∀ (p : Fin 4) (q : Panel) (f : PanelConfig) (reply : PanelMode → List Byte), b.toNat = p.val →
        q = s.panels[p.val] →
        f = { enabled := e == 1, source := if src = 1 then .injected else .sensor, low := lo
              high := if hi.toNat < lo.toNat then lo else hi, nLo := min (max nlo.toNat 1) 16
              nHi := min (max nhi.toNat 1) 16, move := BitVec.ofNat 16 mv } →
        reply = (fun m => [0, b, m.code, lo, f.high, BitVec.ofNat 8 f.nLo, BitVec.ofNat 8 f.nHi] ++ le 2 mv) →
        (q.state = .capturing → exec .panelSet s = .next (s.answered rest 0x90 tag [4]))
        ∧ (q.state ≠ .capturing → e = 1 → q.state ≠ .off → f.source = q.config.source →
          exec .panelSet s = .next { s.answered rest 0x90 tag (reply q.state) with
            panels := s.panels.set p.val { q with config := f } })
        ∧ (∀ (m : PanelMode) (t : State), q.state ≠ .capturing →
          (e = 1 ∧ (q.state = .off ∨ f.source ≠ q.config.source) ∧ m = .waiting) ∨ (e = 0 ∧ m = .off) →
          t = s.offered .contact (q.cancelReports p) →
          exec .panelSet s = .next { t with
            link := { t.link with
              inbound := rest
              replies := s.link.replies ++ q.discardReply p
                ++ [{ cls := 0x90, tag := tag, payload := reply m, release := none, resets := false }] }
            panels := s.panels.set p.val { q with
              config := f, state := m, timer := none, drift := 0, tracks := .replicate 5 .free, buffer := none
              processing := q.processing.map fun x => { x with role := .stale } } })

/-- R167: an injected frame fills every cell with the background and then each named cell with its last value, and waits
in the buffer with its reply; an injected frame that it replaces is answered DISCARDED, as is an injection into a panel
that is OFF or takes its frames from the sensor; a cell index above 959 and a panel number above 3 are refused. -/
def Obligations.PanelInject : Prop :=
  ∀ s tag (b : Byte) bg (pairs : List (Nat × Nat)) rest,
    s.headIs 0x11 tag ([b] ++ le 2 bg ++ pairs.flatMap (fun x => le 2 x.1 ++ le 2 x.2)) rest → bg < 65536 →
    pairs.length ≤ 64 → (∀ x ∈ pairs, x.1 < 65536 ∧ x.2 < 65536) →
    (3 < b.toNat ∨ (∃ x ∈ pairs, 960 ≤ x.1) → exec .panelInject s = .next (s.answered rest 0x91 tag [5]))
    ∧ ∀ (p : Fin 4) (q : Panel), b.toNat = p.val → q = s.panels[p.val] → (∀ x ∈ pairs, x.1 < 960) →
        (q.state = .off ∨ q.config.source = .sensor →
          exec .panelInject s = .next (s.answered rest 0x91 tag [2, b]))
        ∧ (q.state ≠ .off → q.config.source = .injected → ∃ f : Vector Sample 960,
          (∀ k : Fin 960, f[k.val] = BitVec.ofNat 12 (min
            (match pairs.reverse.find? (fun x => decide (x.1 = k.val)) with | some x => x.2 | none => bg) 4095))
          ∧ ((∀ g, q.buffer = some g → g.inject = none) →
            exec .panelInject s = .next { s.taken rest with
              panels := s.panels.set p.val { q with buffer := some { samples := f, inject := some tag } } })
          ∧ (∀ g old, q.buffer = some g → g.inject = some old →
            exec .panelInject s = .next { s.answered rest 0x91 old [2, b] with
              panels := s.panels.set p.val { q with buffer := some { samples := f, inject := some tag } } }))

/-- R179: a panel in RUNNING takes a BASELINE_CAPTURE, whose reply waits; every other panel refuses it. R177: at the start
each DOWN track reports CONTACT UP with CANCELLED and every track becomes FREE, with the values that the model gives such a
track (log entry 35). The frame buffer is kept, and a frame that waits there is taken in the capture (log entry 24). That a
frame already in processing then plays no part in the capture is the model's reading (log entry 9). -/
def Obligations.BaselineCapture : Prop :=
  ∀ s tag (b : Byte) rest, s.headIs 0x12 tag [b] rest →
    (3 < b.toNat → exec .baselineCapture s = .next (s.answered rest 0x92 tag [5]))
    ∧ ∀ (p : Fin 4) (q : Panel), b.toNat = p.val → q = s.panels[p.val] →
        (q.state = .off → exec .baselineCapture s = .next (s.answered rest 0x92 tag [5]))
        ∧ (q.state = .waiting ∨ q.state = .fault ∨ q.state = .capturing →
          exec .baselineCapture s = .next (s.answered rest 0x92 tag [4]))
        ∧ (∀ t, q.state = .running → t = s.offered .contact (q.cancelReports p) →
          exec .baselineCapture s = .next { t with
            link := { t.link with inbound := rest }
            panels := s.panels.set p.val { q with
              state := .capturing, drift := 0, tracks := .replicate 5 .free
              capture := some { tag := tag, sums := .replicate 960 0, count := 0 }
              processing := q.processing.map fun x => { x with role := .stale } } })

/-- R165, R163, R166: a sensor frame of 960 samples goes to the buffer and any other sets BAD_FRAME, while the panel is not
OFF and its source is SENSOR; the panel takes the buffered frame when none is in processing, restarts its frame timer,
and from WAITING or FAULT goes to RUNNING and reports it. Taking a frame is its start of processing (log entry 8). -/
def Obligations.PanelFrames : Prop :=
  ∀ (s : State) (p : Fin 4) (q : Panel), s.resetLow = false → q = s.panels[p.val] →
    (∀ samples : List Sample,
      (q.state = .off ∨ q.config.source = .injected → exec (.panelFrameReceived p samples) s = .next s)
      ∧ (q.state ≠ .off → q.config.source = .sensor → samples.length ≠ 960 →
        exec (.panelFrameReceived p samples) s = .next { s with
          panels := s.panels.set p.val { q with badFrame := true } })
      ∧ (∀ v : Vector Sample 960, q.state ≠ .off → q.config.source = .sensor → samples = v.toList →
        (∀ g, q.buffer = some g → g.inject = none) →
        exec (.panelFrameReceived p samples) s = .next { s with
          panels := s.panels.set p.val { q with buffer := some { samples := v, inject := none } } }))
    ∧ (q.state = .off ∨ q.processing ≠ none ∨ q.buffer = none → exec (.frameProcessingStart p) s = .next s)
    ∧ (∀ (f : PanelFrame) (x : Processing) (c : Screen), q.processing = none → q.buffer = some f →
      c = s.screens[p.val] →
      x = { frame := f, role := if q.state = .capturing then .capture else .detect, config := q.config
            curve := q.curve, baseline := q.baseline, page := q.page, pageNumber := q.pageNumber, width := c.width
            height := c.height, driftCancelled := false } →
      (q.state = .running ∨ q.state = .capturing →
        exec (.frameProcessingStart p) s = .next { s with
          panels := s.panels.set p.val { q with
            buffer := none, processing := some x
            timer := if q.config.source = .sensor then some 0 else none } })
      ∧ (q.state = .waiting ∨ q.state = .fault → s.reportsFreely .panel →
        exec (.frameProcessingStart p) s = .next { s with
          panels := s.panels.set p.val { q with
            buffer := none, processing := some x, state := .running
            timer := if q.config.source = .sensor then some 0 else none }
          link := { s.link with reports := s.link.reports ++
            [{ cls := 0x46, tag := 0, payload := [BitVec.ofNat 8 p.val, 2], release := none, resets := false }] } }))

/-- R168 to R174, R176, R178, R179: the end of a frame's processing. The strength of a cell, the peaks of a frame in scan
order, and the position of a peak as the weighted mean of its window. An untouched frame moves the drift count, and at the
eighth the baseline, unless the baseline was written meanwhile, which returns the count to 0; a strong new peak that needs
one frame becomes CONTACT DOWN on track 0; the second frame without it CONTACT UP, and on the primary's own hotspot a
SELECTION. In general the peaks go to the five tracks by R172, each track is brought forward in index order with the
CONTACT report that it makes, which the mask discards or which is dropped with OVERRUN where no slot is free, and a peak
without a track sets OVER_CONTACT: stated where no selection forms. A capture adds the samples, and its eighth frame replaces
the baseline by the averages and answers. An injected frame is answered OK, in a capture too, at the eighth frame behind the
BASELINE_CAPTURE (log entry 32), and also where its panel has left the state it was taken in (log entry 9); the end of a
capture restarts the frame timer (log entry 27); that a baseline write returns the drift count to 0 at the end of the frame
is log entry 10; the values of a FREE or PENDING track that R171 does not give are log entry 35. -/
def Obligations.FrameProcessed : Prop :=
  (∀ (curve : Vector Byte 256) (raw base : Sample) (k : Fin 256), k.val = (raw.toNat - base.toNat) / 16 →
    strengthOf curve raw base = curve[k.val].toNat)
  ∧ (∀ (curve : Vector Byte 256) (samples base : Vector Sample 960) (c r : Nat) (k : Fin 960), c < 40 → r < 24 →
    k.val = 40 * r + c →
    strengthAt (strengths curve samples base) c r = strengthOf curve samples[k.val] base[k.val])
  ∧ (∀ (m : Vector Nat 960) (low width height : Nat),
    (peaksOf m low width height).Pairwise (fun a b => scanPlace a.cell < scanPlace b.cell)
    ∧ ∀ k : Peak, k ∈ peaksOf m low width height ↔ ∃ c r, c < 40 ∧ r < 24 ∧ low ≤ strengthAt m c r
        ∧ (∀ x y, x < 40 → y < 24 → x ≤ c + 1 → c ≤ x + 1 → y ≤ r + 1 → r ≤ y + 1 →
          strengthAt m x y ≤ strengthAt m c r
            ∧ (scanPlace (x, y) < scanPlace (c, r) → strengthAt m x y ≠ strengthAt m c r))
        ∧ k = { cell := (c, r), strength := strengthAt m c r, position := peakPosition m low width height c r })
  ∧ (∀ c r : Nat, c < 40 → r < 24 → (window c r).Nodup ∧ ∀ x y, (x, y) ∈ window c r ↔
      x < 40 ∧ y < 24 ∧ x ≤ c + 1 ∧ c ≤ x + 1 ∧ y ≤ r + 1 ∧ r ≤ y + 1)
  ∧ (∀ (m : Vector Nat 960) (low width height c r sum column row : Nat) (weight : Nat × Nat → Nat), c < 40 → r < 24 →
    low ≤ strengthAt m c r → 1 ≤ width → 1 ≤ height →
    (∀ n, weight n = if low ≤ strengthAt m n.1 n.2 then strengthAt m n.1 n.2 - low + 1 else 0) →
    sum = ((window c r).map weight).sum →
    column = (2 * 16 * ((window c r).map fun n => weight n * n.1).sum + sum) / (2 * sum) + 8 →
    row = (2 * 16 * ((window c r).map fun n => weight n * n.2).sum + sum) / (2 * sum) + 8 →
    1 ≤ sum ∧ peakPosition m low width height c r =
      (min (column * width / 640) (width - 1), min (row * height / 384) (height - 1)))
  ∧ (∀ (s : State) (p : Fin 4) (q : Panel) (f : Processing), s.resetLow = false → q = s.panels[p.val] →
      q.processing = some f →
      (f.role = .stale →
        exec (.frameProcessed p) s = .next { s with
          panels := s.panels.set p.val { q with processing := none }
          link := { s.link with replies := s.link.replies ++ f.frame.answer p 0 } })
      ∧ (f.role = .detect → f.frame.inject = none → (∀ k : Fin 5, q.tracks[k.val] = Track.free) →
        (∀ k : Fin 960, strengthOf f.curve f.frame.samples[k.val] f.baseline[k.val] < f.config.low.toNat) →
        (q.drift < 7 → f.driftCancelled = false →
          exec (.frameProcessed p) s = .next { s with
            panels := s.panels.set p.val { q with processing := none, drift := q.drift + 1 } })
        ∧ (∀ v : Vector Sample 960, q.drift = 7 → f.driftCancelled = false →
          (∀ k : Fin 960, v[k.val].toNat =
            if q.baseline[k.val].toNat < f.frame.samples[k.val].toNat
                ∧ f.frame.samples[k.val].toNat ≤ q.baseline[k.val].toNat + 16 then q.baseline[k.val].toNat + 1
            else if f.frame.samples[k.val].toNat < q.baseline[k.val].toNat
                ∧ q.baseline[k.val].toNat ≤ f.frame.samples[k.val].toNat + 16 then q.baseline[k.val].toNat - 1
            else q.baseline[k.val].toNat) →
          exec (.frameProcessed p) s = .next { s with
            panels := s.panels.set p.val { q with processing := none, drift := 0, baseline := v } })
        ∧ (f.driftCancelled = true →
          exec (.frameProcessed p) s = .next { s with
            panels := s.panels.set p.val { q with processing := none, drift := 0 } }))
      ∧ (∀ peaks, f.role = .detect →
        peaks = peaksOf (strengths f.curve f.frame.samples f.baseline) f.config.low.toNat f.width f.height →
        (∀ i : Fin 5, q.tracks[i.val].primary = true → q.tracks[i.val].state = .down) →
        ∃ m : Fin 5 → Option Peak, Matching peaks q.tracks m
          ∧ ((∀ i : Fin 5, q.tracks[i.val].primary = true → q.tracks[i.val].missing ≠ 0 → m i = none →
              ∀ h, q.tracks[i.val].hotspot = some h → q.tracks[i.val].page = f.pageNumber →
                hitTest f.page q.tracks[i.val].position ≠ some h) →
            ∀ (v : Vector Track 5) (t : State),
              (∀ i : Fin 5, v[i.val] = ((q.tracks[i.val]).brought f (takesLead q.tracks v i) (m i)).1) →
              f.driftCancelled = true ∨ (∃ i : Fin 5, v[i.val].state ≠ .free) ∨ q.drift < 7 →
              t = s.offered .contact ((List.finRange 5).filterMap fun i =>
                ((q.tracks[i.val]).brought f (takesLead q.tracks v i) (m i)).2.map fun x =>
                  { cls := 0x41, tag := 0, release := none, resets := false
                    payload := [BitVec.ofNat 8 p.val, BitVec.ofNat 8 i.val, x.1, 0] ++ le 2 x.2.1 ++ le 2 x.2.2 }) →
              exec (.frameProcessed p) s = .next { t with
                panels := s.panels.set p.val { q with
                  processing := none, tracks := v
                  drift := if f.driftCancelled = true ∨ ∃ i : Fin 5, v[i.val].state ≠ .free then 0 else q.drift + 1
                  overContact := q.overContact
                    || decide ((freeNumbers q.tracks).length < (unclaimed peaks q.tracks m).length) }
                link := { t.link with replies := s.link.replies ++ f.frame.answer p 0 }
                screens := s.screens.set p.val
                  (if s.screens[p.val].enabled = true
                      ∧ ∃ i : Fin 5, v[i.val].state = .down ∧ q.tracks[i.val].state ≠ .down then
                    { s.screens[p.val] with active := true, idle := some 0 }
                  else s.screens[p.val]) }))
      ∧ (∀ k : Peak, f.role = .detect → f.frame.inject = none → (∀ k : Fin 5, q.tracks[k.val] = Track.free) →
        peaksOf (strengths f.curve f.frame.samples f.baseline) f.config.low.toNat f.width f.height = [k] →
        f.config.high.toNat ≤ k.strength → f.config.nLo ≤ 1 → f.config.nHi ≤ 1 → s.reportsFreely .contact →
        exec (.frameProcessed p) s = .next { s with
          panels := s.panels.set p.val { q with
            processing := none, drift := 0
            tracks := q.tracks.set 0
              { state := .down, cell := k.cell, position := k.position, reported := k.position, lowCount := 1
                highCount := 1, missing := 0, hotspot := hitTest f.page k.position, page := f.pageNumber
                primary := true } }
          link := { s.link with reports := s.link.reports ++
            [{ cls := 0x41, tag := 0, release := none, resets := false
               payload := [BitVec.ofNat 8 p.val, 0, 0, 0] ++ le 2 k.position.1 ++ le 2 k.position.2 }] }
          screens := s.screens.set p.val
            (if s.screens[p.val].enabled then { s.screens[p.val] with active := true, idle := some 0 }
             else s.screens[p.val]) })
      ∧ (∀ (h : Nat) (x : Hotspot), s.selectsOn p f h x → x.action = .plain →
        exec (.frameProcessed p) s =
          .next (s.afterSelection p f h x 0 { s.screens[p.val] with active := true, idle := some 0 }))
      ∧ (∀ (c : Capture) (sums : Vector Nat 960), f.role = .capture → q.capture = some c →
        (∀ k : Fin 960, sums[k.val] = c.sums[k.val] + f.frame.samples[k.val].toNat) →
        (c.count < 7 →
          exec (.frameProcessed p) s = .next { s with
            panels := s.panels.set p.val { q with
              processing := none, capture := some { c with sums := sums, count := c.count + 1 } }
            link := { s.link with replies := s.link.replies ++ f.frame.answer p 0 } })
        ∧ (c.count = 7 →
          exec (.frameProcessed p) s = .next { s with
            panels := s.panels.set p.val { q with
              processing := none, capture := none, state := .running, drift := 0
              baseline := sums.map fun n => BitVec.ofNat 12 (n / 8)
              timer := if q.config.source = .sensor then some 0 else none }
            link := { s.link with
              replies := s.link.replies
                ++ [{ cls := 0x92, tag := c.tag, payload := [0, BitVec.ofNat 8 p.val], release := none, resets := false }]
                ++ f.frame.answer p 0 } })))

/-- R156 to R161, R142: the actions of a selection. A text or term edit is made in every mode; TEXT_FULL is set by a
KEY on a full text. In SERVICE and FROZEN an action that calls for a request sets DROPPED_BUSY on a full list; with room it
joins the list with the panel sequence number and reserves a report slot: a query of the edited text and terms, which waits or
is taken as the scan, or at once a MATCHES report for an invalid term or for a text that no listing starts with; a route
request, which waits, merges or begins its search, or at once a ROUTE report behind the SELECTION with the cached route, with
NOT_FOUND for a HIDDEN listing, and with BAD_ARGUMENT for a destination outside the map. Where the request reserves the last
slot, the SELECTION report is dropped with OVERRUN set. A CANCEL action ends the panel's own entries with CANCELLED and leaves
the host's. Where the UP takes the last report slot, no request is made, the edit stands, and the SELECTION report is dropped
with OVERRUN set. On a screen that is not enabled every action is PLAIN. The values of a FREE track are log entry 35. -/
def Obligations.HotspotActions : Prop :=
  (∀ (s : State) (p : Fin 4) (f : Processing) (h : Nat) (x : Hotspot) (c : Screen), s.selectsOn p f h x →
      c = s.screens[p.val] →
      (∀ (text : List Byte) (terms : Terms) (calls : Bool) (full : Byte),
        c.Edits x.action text terms calls full →
        (s.mod.mode.serving = false ∨ calls = false →
          exec (.frameProcessed p) s = .next (s.afterSelection p f h x full
            { c with active := true, idle := some 0, text := text, terms := terms }))
        ∧ (s.mod.mode.serving = true → calls = true → 4 ≤ c.outstanding.length →
          exec (.frameProcessed p) s = .next (s.afterSelection p f h x 1
            { c with active := true, idle := some 0, text := text, terms := terms }))
        ∧ (∀ t, s.mod.mode.serving = true → calls = true → c.outstanding.length < 4 → termsValid terms = true →
          t = s.afterRequest p f h x { c with
            active := true, idle := some 0, text := text, terms := terms, seq := c.seq + 1, nextId := c.nextId + 1
            outstanding := c.outstanding ++
              [{ id := c.nextId, asker := .panel c.seq, ask := .directory 0, result := none }] } →
          ∀ q : Query, q = { ref := { screen := p, id := c.nextId }, pfx := text, terms := terms, offset := 0, maximum := 8 } →
            (s.dir.scan ≠ none →
              exec (.frameProcessed p) s = .next { t with
                dir := { s.dir with queue := [q] }, link := { t.link with reserved := s.link.reserved + 1 } })
            ∧ (∀ a b, s.dir.scan = none → s.PrefixRun text a b →
              exec (.frameProcessed p) s = .next { t with
                dir := { s.dir with
                  scan := some { query := q, position := a, stop := b, total := 0, kept := [], nextSymbols := 0
                                 detached := false } }
                link := { t.link with reserved := s.link.reserved + 1 } }))
        ∧ (∀ (t : State) (r : Byte), s.mod.mode.serving = true → calls = true → c.outstanding = [] →
          (r = 11 ∧ termsValid terms = false)
            ∨ (r = 0 ∧ termsValid terms = true ∧ s.dir.scan = none ∧ ∀ l ∈ s.dir.listings, startsWith text l = false) →
          s.link.masked .matchList = false →
          t = s.afterRequest p f h x { c with
            active := true, idle := some 0, text := text, terms := terms, seq := c.seq + 1, nextId := c.nextId + 1
            released := c.released + 1 } →
          exec (.frameProcessed p) s = .next { t with
            link := { t.link with reports := t.link.reports ++
              [{ cls := 0x44, tag := 0, release := some (p, c.released), resets := false
                 payload := [BitVec.ofNat 8 p.val, c.seq, r, 0, 0, 0, 0, 0, 0, 0, 0, 0, 0] }] } }))
      ∧ (∀ (kind : DestKind) (number : BitVec 16) (k : Key),
        (kind = .listing ∧ x.action = .listing number) ∨ (kind = .waypoint ∧ x.action = .waypoint number) →
        k = { origin := c.origin, kind := kind, number := number, profile := c.profile } →
        (s.mod.mode.serving = false →
          exec (.frameProcessed p) s = .next (s.afterSelection p f h x 0 { c with active := true, idle := some 0 }))
        ∧ (s.mod.mode.serving = true → 4 ≤ c.outstanding.length →
          exec (.frameProcessed p) s = .next (s.afterSelection p f h x 1 { c with active := true, idle := some 0 }))
        ∧ (∀ (t : State) (r : CacheState), s.mod.mode.serving = true → c.outstanding.length < 4 →
          (kind = .listing → number.toNat < s.listingCount ∧ (s.listing number.toNat).status ≠ .hidden) →
          (kind = .waypoint → number.toNat < s.waypointCount) → s.MissesWith k r →
          t = s.afterRequest p f h x { c with
            active := true, idle := some 0, seq := c.seq + 1, nextId := c.nextId + 1
            outstanding := c.outstanding ++
              [{ id := c.nextId, asker := .panel c.seq, ask := .route k false, result := none }] } →
          ((∀ e ∈ s.search.queue, e.key ≠ k) →
            s.mod.mode = .frozen ∨ (∀ u : Fin 2, s.search.units[u.val].state ≠ .idle) →
            exec (.frameProcessed p) s = .next { t with
              rcc := r
              search := { s.search with queue := s.search.queue ++
                [{ key := k, requesters := [{ screen := p, id := c.nextId }], unit := none }] }
              link := { t.link with reserved := s.link.reserved + 1 } })
          ∧ (s.QueueLaw → (∃ e ∈ s.search.queue, e.key = k) →
            exec (.frameProcessed p) s = .next { t with
              rcc := r
              search := { s.search with queue := s.search.queue.map fun e =>
                if e.key = k then { e with requesters := e.requesters ++ [{ screen := p, id := c.nextId }] } else e }
              link := { t.link with reserved := s.link.reserved + 1 } })
          ∧ (∀ u : Fin 2, (∀ e ∈ s.search.queue, e.key ≠ k) → s.mod.mode = .service →
            s.search.units[u.val].state = .idle → (u = 1 → s.search.units[0].state ≠ .idle) →
            exec (.frameProcessed p) s = .next { t with
              rcc := r
              search := {
                queue := s.search.queue ++ [{ key := k, requesters := [{ screen := p, id := c.nextId }], unit := some u }]
                units := s.search.units.set u.val (s.begun k) }
              link := { t.link with reserved := s.link.reserved + 1 } }))
        ∧ (∀ (t : State) (e : Fin 512) (y : CacheEntry) (z : RouteStep) (zs : List RouteStep),
          s.mod.mode.serving = true → c.outstanding = [] →
          (kind = .listing → number.toNat < s.listingCount ∧ (s.listing number.toNat).status ≠ .hidden) →
          (kind = .waypoint → number.toNat < s.waypointCount) → s.rcc.find k = some e → y = s.rcc.at e →
          y.generation = s.map.generation → (∀ g ∈ y.segments, g ∉ s.rcc.sweep) → y.route.steps = z :: zs →
          s.link.masked .route = false →
          t = s.afterRequest p f h x { c with
            active := true, idle := some 0, seq := c.seq + 1, nextId := c.nextId + 1, released := c.released + 1 } →
          exec (.frameProcessed p) s = .next { t with
            rcc := { s.rcc with entries := s.rcc.entries.set e.val { y with referenced := true } }
            link := { t.link with reports := t.link.reports ++
              [{ cls := 0x43, tag := 0, release := some (p, c.released), resets := false
                 payload := [BitVec.ofNat 8 p.val, c.seq] ++
                  ({ fromCache := true, detour := y.route.detour
                     destinationClosed := decide (kind = .listing ∧ (s.listing number.toNat).status ≠ .opened)
                     truncated := y.route.truncated, explicitOrigin := false, key := k, entrance := y.route.entrance
                     distance := y.route.distance, metres := (y.route.distance + 5) / 10
                     seconds := min ((y.route.time + 9) / 10) 65535
                     minutes := (min ((y.route.time + 9) / 10) 65535 + 59) / 60
                     levelChanges := y.route.levelChanges
                     steps := { z with turn := (if z.action = .arrive then TurnClass.none
                        else turnClass c.heading y.route.heading) } :: zs } : RouteRecord).toBytes }] } })
        ∧ (∀ (t : State) (r : Byte), s.mod.mode.serving = true → c.outstanding = [] →
          (r = 5 ∧ ((kind = .listing ∧ s.listingCount ≤ number.toNat)
                ∨ (kind = .waypoint ∧ s.waypointCount ≤ number.toNat)))
            ∨ (r = 6 ∧ kind = .listing ∧ number.toNat < s.listingCount ∧ (s.listing number.toNat).status = .hidden) →
          s.link.masked .route = false →
          t = s.afterRequest p f h x { c with
            active := true, idle := some 0, seq := c.seq + 1, nextId := c.nextId + 1, released := c.released + 1 } →
          exec (.frameProcessed p) s = .next { t with
            link := { t.link with reports := t.link.reports ++
              [{ cls := 0x43, tag := 0, release := some (p, c.released), resets := false
                 payload := [BitVec.ofNat 8 p.val, c.seq, r, 0] ++ le 2 c.origin.toNat ++ [kind.code]
                  ++ le 2 number.toNat ++ [0, 0] ++ [BitVec.ofNat 8 c.profile.val] ++ List.replicate 14 0 }] } }))
      ∧ (x.action = .cancel → (∀ e ∈ c.outstanding, ∃ tag, e.asker = .host tag) →
        exec (.frameProcessed p) s = .next (s.afterSelection p f h x 0 { c with active := true, idle := some 0 }))
      ∧ (∀ (leaves : Entry → Bool) (refs : List Ref) (t : State), x.action = .cancel →
        c.outstanding.countP Entry.ofPanel ≤ s.link.reserved → leaves = (fun e => e.result.isSome || e.ofPanel) →
        refs = (c.outstanding.filter fun e => decide (e.result = none) && e.ofPanel).map
          (fun e => { screen := p, id := e.id }) →
        t = (State.afterLeaving { s.afterUp p with
            screens := s.screens.set p.val { c with active := true, idle := some 0 } } p 9 (c.outstanding.takeWhile leaves)
              ((c.outstanding.dropWhile leaves).map fun e =>
                if e.result = none ∧ e.ofPanel = true then { e with result := some (.bare .cancelled) } else e)).afterDetaching
              refs →
        exec (.frameProcessed p) s = .next (t.withSelection p f h x 0)))
  ∧ (∀ (s : State) (p : Fin 4) (f : Processing) (h : Nat) (x : Hotspot) (c : Screen), s.formsSelection p f h x →
    c = s.screens[p.val] →
    (∀ text terms calls full, c.enabled = true → s.link.reportsHeld + s.link.reserved = 31 →
      c.Edits x.action text terms calls full
        ∨ (text = c.text ∧ terms = c.terms
          ∧ (x.action = .plain ∨ ∃ number, x.action = .listing number ∨ x.action = .waypoint number)) →
      exec (.frameProcessed p) s = .next (s.afterDropped p
        { c with active := true, idle := some 0, text := text, terms := terms }))
    ∧ (c.enabled = false → s.link.reportsHeld + s.link.reserved + 2 ≤ 32 →
      exec (.frameProcessed p) s = .next (s.afterSelection p f h x 0 c))
    ∧ (c.enabled = false → s.link.reportsHeld + s.link.reserved = 31 →
      exec (.frameProcessed p) s = .next (s.afterDropped p c)))

/-- R166, R177, R179: when 250 ms pass without a good frame, a panel on the sensor in RUNNING or CAPTURING goes to FAULT: a
DOWN track reports UP with CANCELLED, a capture is answered ABORTED, the buffer is emptied, and PANEL_STATE FAULT follows. No
other panel has a frame timer that runs. The command stands for the 250 ms (log entry 3), that a frame in processing then
plays no further part is the model's reading (log entry 9), and the values of a FREE track are its choice (log entry 35). -/
def Obligations.FrameTimerExpiry : Prop :=
  ∀ (s : State) (p : Fin 4) (q : Panel), s.resetLow = false → q = s.panels[p.val] →
    (q.config.source = .injected ∨ q.state = .off ∨ q.state = .waiting ∨ q.state = .fault →
      exec (.frameTimerExpiry p) s = .next s)
    ∧ (∀ t, q.config.source = .sensor → q.state = .running ∨ q.state = .capturing →
      t = (s.offered .contact (q.cancelReports p)).offered .panel
        [{ cls := 0x46, tag := 0, payload := [BitVec.ofNat 8 p.val, 4], release := none, resets := false }] →
      exec (.frameTimerExpiry p) s = .next { t with
        panels := s.panels.set p.val { q with
          state := .fault, timer := none, drift := 0, tracks := .replicate 5 .free, capture := none, buffer := none
          processing := q.processing.map fun x => { x with role := .stale } }
        link := { t.link with
          replies := s.link.replies
            ++ (q.capture.toList.map fun c =>
              { cls := 0x92, tag := c.tag, payload := [10, BitVec.ofNat 8 p.val], release := none, resets := false })
            ++ q.discardReply p } })

/-! ## Refused arguments -/

/-- R12 to R18, R38, R147, R152, R153, R154, R155, R164: the requests that pass the dispatcher and are then refused for an
argument, the load cursor or the mode, each answered with its result and changing nothing else but, where R148 says so,
the session and its idle timer. The bytes of the load refusals are the model's reading (log entry 18). -/
def Obligations.ArgumentsRefused : Prop :=
  ∀ (s : State) (tag : Byte) (rest : List InFrame),
    (∀ k : Byte, 1 < k.toNat → s.headIs 0x04 tag [k] rest → ∀ c ∈ ([.resetFull, .resetSessions] : List Instr),
      exec c s = .next (s.answered rest 0x84 tag [5]))
    ∧ (∀ (p : List Byte) (r : Byte), s.headIs 0x06 tag p rest → p.length ≤ 1024 →
      (s.mod.mode = .checking ∧ r = 3)
        ∨ (s.mod.mode ≠ .checking ∧ r = 5
          ∧ ∀ c, s.map.cursor = some c → p.length = 0 ∨ p.length % c.table.recordSize ≠ 0) →
      exec .loadWrite s = .next (s.answered rest 0x86 tag
        ([r, 0, 0] ++ le 2 (match s.map.cursor with | none => 0 | some c => c.index))))
    ∧ (∀ (w : Nat) (r : Byte), s.headIs 0x07 tag (le 2 w) rest →
      (s.mod.mode = .checking ∧ r = 3) ∨ (s.mod.mode ≠ .checking ∧ s.map.cursor = none ∧ r = 5) →
      exec .loadRead s = .next (s.answered rest 0x87 tag [r]))
    ∧ (∀ (b e heading profile : Byte) (origin w h n : Nat),
      s.headIs 0x0A tag ([b, e] ++ le 2 origin ++ [heading, profile] ++ le 2 w ++ le 2 h ++ le 2 n) rest →
      origin < 65536 → w < 65536 → h < 65536 → n < 65536 → s.mod.mode ≠ .checking →
      3 < b.toNat ∨ 1 < e.toNat ∨ 4096 ≤ origin ∨ 8 ≤ profile.toNat ∨ w = 0 ∨ 4096 < w ∨ h = 0 ∨ 4096 < h
        ∨ (s.mod.mode.serving = true ∧ e = 1 ∧ s.waypointCount ≤ origin) →
      exec .screenSet s = .next (s.answered rest 0x8A tag [5]))
    ∧ (∀ (i : Fin 4) (kind options profile : Byte) (number origin : Nat),
      s.headIs 0x0B tag ([BitVec.ofNat 8 i.val, kind] ++ le 2 number ++ [options, profile] ++ le 2 origin) rest →
      number < 65536 → origin < 65536 → s.mod.mode.serving = true → s.screens[i.val].enabled = true →
      1 < kind.toNat ∨ (kind = 0 ∧ s.listingCount ≤ number) ∨ (kind = 1 ∧ s.waypointCount ≤ number)
        ∨ (options.getLsbD 0 = true ∧ 8 ≤ profile.toNat) ∨ (options.getLsbD 1 = true ∧ s.waypointCount ≤ origin) →
      exec .routeAsk s = .next { s.answered rest 0x8B tag [5] with
        screens := s.screens.set i.val { s.screens[i.val] with active := true, idle := some 0 } })
    ∧ (∀ row ∈ ([(.directoryAsk, 0x0C, 38), (.fence, 0x0D, 5), (.cancel, 0x0E, 1)] : List (Instr × Byte × Nat)),
      ∀ (b : Byte) (p : List Byte), s.headIs row.2.1 tag (b :: p) rest → p.length + 1 = row.2.2 →
        (row.1 = .directoryAsk → s.mod.mode.serving = true) →
        3 < b.toNat ∨ (∃ i : Fin 4, b.toNat = i.val ∧ s.screens[i.val].enabled = false) →
        exec row.1 s = .next (s.answered rest (row.2.1 + 0x80) tag [5]))
    ∧ (∀ (b e src : Byte) (p : List Byte), s.headIs 0x10 tag ([b, e, src] ++ p) rest → p.length = 6 →
      3 < b.toNat ∨ 1 < e.toNat ∨ 1 < src.toNat → exec .panelSet s = .next (s.answered rest 0x90 tag [5]))

/-! ## The laws that every step keeps -/

/-- R26, and R24 for FROZEN: while the mode is LOADING or CHECKING the search queue is empty, both units are IDLE and the
cache holds no valid entry; once a MODE_SET FROZEN has been answered no unit is RUNNING. Every step keeps both. -/
def Obligations.ModeLawsKept : Prop :=
  KeptByEveryStep State.RestsOutsideService ∧ KeptByEveryStep State.FrozenHolds

/-- R5, R6: the closed-segment count is the number of CLOSED records, and no count passes its capacity. Every step keeps
this. -/
def Obligations.CountsKept : Prop := KeptByEveryStep State.CountsRight

/-- R54, R55, R60: the frontier of each unit stays in its order, holds a waypoint at most once, with its working cost, and
none that is settled; no two search-queue entries carry one key, and each holds a requester. Every step keeps this. -/
def Obligations.SearchLawKept : Prop := KeptByEveryStep State.SearchLaw

/-- R102: no two valid entries hold the same key, and every valid entry sits in its primary group with alternate 0 or in
its secondary group with alternate 1. Every step keeps this. -/
def Obligations.CacheLawKept : Prop := KeptByEveryStep State.CacheLaw

/-- R110, R116, R118: the sweep list holds at most 8 segments and none twice, and covers every closed segment of a cached
route, in every step; so a lookup that hits never hands out a route that uses a closed segment. -/
def Obligations.NoHitUsesClosedSegment : Prop :=
  KeptByEveryStep State.ClosuresCovered
    ∧ ∀ (s : State) (k : Key) (r : ComposedRoute), s.ClosuresCovered →
        (s.rcc.lookup s.map.generation k).2 = some r →
        ∃ e : Fin 512, (s.rcc.at e).valid = true ∧ (s.rcc.at e).route = r ∧ r.key = k
          ∧ ∀ g ∈ (s.rcc.at e).segments, (s.segment g).closed = false

/-- R146 to R151, R158: a list holds at most 4 entries and never a DONE one at its head, a text at most 16 symbols of codes
1 to 40, the idle timer runs just while the session is ACTIVE, the timeout stays within 10 to 600 s, and a disabled
screen holds nothing. Every step keeps this. -/
def Obligations.SessionLawKept : Prop := KeptByEveryStep fun s => s.SessionLaw ∧ s.HeadsWait

/-- R151, R156, R186, R187: the two outbound queues hold each screen's results in its release order, and one report slot
is reserved for each panel-originated entry, with at most 32 held and reserved. Every step keeps both. A place in the
order is the model's count of releases (log entry 13). -/
def Obligations.LinkLawsKept : Prop := KeptByEveryStep State.ReleaseOrder ∧ KeptByEveryStep State.ReportSlotLaw

/-- R183, R185: every accepted request holds one reply slot from its acceptance until its one reply has been sent: the
slots in use are exactly the requests that are not yet answered, at most 24 of them, and the inbound queue holds at most
8. Every step keeps this, together with the laws of the map check and of the panels that it rests on (R171, R178, R179). -/
def Obligations.EverySlotOwedKept : Prop := KeptByEveryStep State.EverySlotOwed

end
end

