-- ==== Sys2Proof/Laws/State.lean ====
section
/-! SUPPORT. What each update of State leaves unchanged and what it sets: one lemma per update, its parts true by rfl,
and the reading of one place after one place has been changed. -/

namespace Sys2Proof.Machine

variable (s : State)

/-- An update of the link changes the link alone. -/
@[simp] theorem State.onLink_fields (f : LinkState → LinkState) :
    (s.onLink f).resetLow = s.resetLow ∧ (s.onLink f).link = f s.link ∧ (s.onLink f).mod = s.mod
      ∧ (s.onLink f).map = s.map ∧ (s.onLink f).profiles = s.profiles ∧ (s.onLink f).search = s.search
      ∧ (s.onLink f).rco = s.rco ∧ (s.onLink f).rcc = s.rcc ∧ (s.onLink f).dir = s.dir
      ∧ (s.onLink f).screens = s.screens ∧ (s.onLink f).panels = s.panels ∧ (s.onLink f).pending = s.pending :=
  ⟨rfl, rfl, rfl, rfl, rfl, rfl, rfl, rfl, rfl, rfl, rfl, rfl⟩

/-- An update of a screen changes the screens alone. -/
@[simp] theorem State.onScreen_fields (i : Fin 4) (f : Screen → Screen) :
    (s.onScreen i f).resetLow = s.resetLow ∧ (s.onScreen i f).link = s.link ∧ (s.onScreen i f).mod = s.mod
      ∧ (s.onScreen i f).map = s.map ∧ (s.onScreen i f).profiles = s.profiles
      ∧ (s.onScreen i f).search = s.search ∧ (s.onScreen i f).rco = s.rco ∧ (s.onScreen i f).rcc = s.rcc
      ∧ (s.onScreen i f).dir = s.dir ∧ (s.onScreen i f).panels = s.panels
      ∧ (s.onScreen i f).pending = s.pending :=
  ⟨rfl, rfl, rfl, rfl, rfl, rfl, rfl, rfl, rfl, rfl, rfl⟩

/-- An update of a panel changes the panels alone. -/
@[simp] theorem State.onPanel_fields (i : Fin 4) (f : Panel → Panel) :
    (s.onPanel i f).resetLow = s.resetLow ∧ (s.onPanel i f).link = s.link ∧ (s.onPanel i f).mod = s.mod
      ∧ (s.onPanel i f).map = s.map ∧ (s.onPanel i f).profiles = s.profiles
      ∧ (s.onPanel i f).search = s.search ∧ (s.onPanel i f).rco = s.rco ∧ (s.onPanel i f).rcc = s.rcc
      ∧ (s.onPanel i f).dir = s.dir ∧ (s.onPanel i f).screens = s.screens
      ∧ (s.onPanel i f).pending = s.pending :=
  ⟨rfl, rfl, rfl, rfl, rfl, rfl, rfl, rfl, rfl, rfl, rfl⟩

/-- An update of a unit changes the search block alone. -/
@[simp] theorem State.onUnit_fields (u : Fin 2) (f : SearchUnit → SearchUnit) :
    (s.onUnit u f).resetLow = s.resetLow ∧ (s.onUnit u f).link = s.link ∧ (s.onUnit u f).mod = s.mod
      ∧ (s.onUnit u f).map = s.map ∧ (s.onUnit u f).profiles = s.profiles ∧ (s.onUnit u f).rco = s.rco
      ∧ (s.onUnit u f).rcc = s.rcc ∧ (s.onUnit u f).dir = s.dir ∧ (s.onUnit u f).screens = s.screens
      ∧ (s.onUnit u f).panels = s.panels ∧ (s.onUnit u f).pending = s.pending :=
  ⟨rfl, rfl, rfl, rfl, rfl, rfl, rfl, rfl, rfl, rfl, rfl⟩

/-- An update of a unit leaves the search queue. -/
@[simp] theorem State.onUnit_queue (u : Fin 2) (f : SearchUnit → SearchUnit) :
    (s.onUnit u f).search.queue = s.search.queue := rfl

/-- A change of the composer's job changes the composer alone. -/
@[simp] theorem State.withJob_fields (j : Option Job) :
    (s.withJob j).resetLow = s.resetLow ∧ (s.withJob j).link = s.link ∧ (s.withJob j).mod = s.mod
      ∧ (s.withJob j).map = s.map ∧ (s.withJob j).profiles = s.profiles ∧ (s.withJob j).search = s.search
      ∧ (s.withJob j).rcc = s.rcc ∧ (s.withJob j).dir = s.dir ∧ (s.withJob j).screens = s.screens
      ∧ (s.withJob j).panels = s.panels ∧ (s.withJob j).pending = s.pending :=
  ⟨rfl, rfl, rfl, rfl, rfl, rfl, rfl, rfl, rfl, rfl, rfl⟩

/-- A change of the composer's job leaves the composer queue. -/
@[simp] theorem State.withJob_rco (j : Option Job) :
    (s.withJob j).rco.job = j ∧ (s.withJob j).rco.queue = s.rco.queue := ⟨rfl, rfl⟩

/-- A move of the load cursor changes the map store alone. -/
@[simp] theorem State.setCursor_fields (t : TableId) (i : Nat) :
    (s.setCursor t i).resetLow = s.resetLow ∧ (s.setCursor t i).link = s.link ∧ (s.setCursor t i).mod = s.mod
      ∧ (s.setCursor t i).profiles = s.profiles ∧ (s.setCursor t i).search = s.search
      ∧ (s.setCursor t i).rco = s.rco ∧ (s.setCursor t i).rcc = s.rcc ∧ (s.setCursor t i).dir = s.dir
      ∧ (s.setCursor t i).screens = s.screens ∧ (s.setCursor t i).panels = s.panels
      ∧ (s.setCursor t i).pending = s.pending :=
  ⟨rfl, rfl, rfl, rfl, rfl, rfl, rfl, rfl, rfl, rfl, rfl⟩

/-- A move of the load cursor leaves the rest of the map store. -/
@[simp] theorem State.setCursor_map (t : TableId) (i : Nat) :
    (s.setCursor t i).map.waypoints = s.map.waypoints ∧ (s.setCursor t i).map.segments = s.map.segments
      ∧ (s.setCursor t i).map.closedCount = s.map.closedCount ∧ (s.setCursor t i).map.startIndex = s.map.startIndex
      ∧ (s.setCursor t i).map.generation = s.map.generation
      ∧ (s.setCursor t i).map.cursor = some { table := t, index := i } := ⟨rfl, rfl, rfl, rfl, rfl, rfl⟩

/-- A change of mode changes mode control alone. -/
@[simp] theorem State.setMode_fields (m : Mode) :
    (s.setMode m).resetLow = s.resetLow ∧ (s.setMode m).link = s.link ∧ (s.setMode m).map = s.map
      ∧ (s.setMode m).profiles = s.profiles ∧ (s.setMode m).search = s.search ∧ (s.setMode m).rco = s.rco
      ∧ (s.setMode m).rcc = s.rcc ∧ (s.setMode m).dir = s.dir ∧ (s.setMode m).screens = s.screens
      ∧ (s.setMode m).panels = s.panels ∧ (s.setMode m).pending = s.pending :=
  ⟨rfl, rfl, rfl, rfl, rfl, rfl, rfl, rfl, rfl, rfl, rfl⟩

/-- A join of the search queue changes the search block alone. -/
@[simp] theorem State.joinSearch_fields (k : Key) (r : Ref) :
    (s.joinSearch k r).resetLow = s.resetLow ∧ (s.joinSearch k r).link = s.link
      ∧ (s.joinSearch k r).mod = s.mod ∧ (s.joinSearch k r).map = s.map
      ∧ (s.joinSearch k r).profiles = s.profiles ∧ (s.joinSearch k r).rco = s.rco
      ∧ (s.joinSearch k r).rcc = s.rcc ∧ (s.joinSearch k r).dir = s.dir
      ∧ (s.joinSearch k r).screens = s.screens ∧ (s.joinSearch k r).panels = s.panels
      ∧ (s.joinSearch k r).pending = s.pending :=
  ⟨rfl, rfl, rfl, rfl, rfl, rfl, rfl, rfl, rfl, rfl, rfl⟩

/-- A join of the search queue leaves the units. -/
@[simp] theorem State.joinSearch_search (k : Key) (r : Ref) :
    (s.joinSearch k r).search.units = s.search.units
      ∧ (s.joinSearch k r).search.queue = joinQueue k r s.search.queue := ⟨rfl, rfl⟩

/-- A join of the query queue changes the directory alone. -/
@[simp] theorem State.joinDirectory_fields (q : Query) :
    (s.joinDirectory q).resetLow = s.resetLow ∧ (s.joinDirectory q).link = s.link
      ∧ (s.joinDirectory q).mod = s.mod ∧ (s.joinDirectory q).map = s.map
      ∧ (s.joinDirectory q).profiles = s.profiles ∧ (s.joinDirectory q).search = s.search
      ∧ (s.joinDirectory q).rco = s.rco ∧ (s.joinDirectory q).rcc = s.rcc
      ∧ (s.joinDirectory q).screens = s.screens ∧ (s.joinDirectory q).panels = s.panels
      ∧ (s.joinDirectory q).pending = s.pending :=
  ⟨rfl, rfl, rfl, rfl, rfl, rfl, rfl, rfl, rfl, rfl, rfl⟩

/-- A join of the query queue leaves the listings and the scan in hand. -/
@[simp] theorem State.joinDirectory_dir (q : Query) :
    (s.joinDirectory q).dir.listings = s.dir.listings ∧ (s.joinDirectory q).dir.scan = s.dir.scan
      ∧ (s.joinDirectory q).dir.queue = s.dir.queue ++ [q] := ⟨rfl, rfl, rfl⟩

/-- A flush changes the route cache alone. -/
@[simp] theorem State.flushCache_fields :
    (s.flushCache).resetLow = s.resetLow ∧ (s.flushCache).link = s.link ∧ (s.flushCache).mod = s.mod
      ∧ (s.flushCache).map = s.map ∧ (s.flushCache).profiles = s.profiles ∧ (s.flushCache).search = s.search
      ∧ (s.flushCache).rco = s.rco ∧ (s.flushCache).rcc = s.rcc.flush ∧ (s.flushCache).dir = s.dir
      ∧ (s.flushCache).screens = s.screens ∧ (s.flushCache).panels = s.panels
      ∧ (s.flushCache).pending = s.pending :=
  ⟨rfl, rfl, rfl, rfl, rfl, rfl, rfl, rfl, rfl, rfl, rfl, rfl⟩

/-- Taking the head frame changes the link alone. -/
@[simp] theorem State.taken_fields (rest : List InFrame) :
    (s.taken rest).resetLow = s.resetLow ∧ (s.taken rest).mod = s.mod ∧ (s.taken rest).map = s.map
      ∧ (s.taken rest).profiles = s.profiles ∧ (s.taken rest).search = s.search ∧ (s.taken rest).rco = s.rco
      ∧ (s.taken rest).rcc = s.rcc ∧ (s.taken rest).dir = s.dir ∧ (s.taken rest).screens = s.screens
      ∧ (s.taken rest).panels = s.panels ∧ (s.taken rest).pending = s.pending :=
  ⟨rfl, rfl, rfl, rfl, rfl, rfl, rfl, rfl, rfl, rfl, rfl⟩

/-- An answered request changes the link alone. -/
@[simp] theorem State.answered_fields (rest : List InFrame) (cls tag : Byte) (p : List Byte) :
    (s.answered rest cls tag p).resetLow = s.resetLow ∧ (s.answered rest cls tag p).mod = s.mod
      ∧ (s.answered rest cls tag p).map = s.map ∧ (s.answered rest cls tag p).profiles = s.profiles
      ∧ (s.answered rest cls tag p).search = s.search ∧ (s.answered rest cls tag p).rco = s.rco
      ∧ (s.answered rest cls tag p).rcc = s.rcc ∧ (s.answered rest cls tag p).dir = s.dir
      ∧ (s.answered rest cls tag p).screens = s.screens ∧ (s.answered rest cls tag p).panels = s.panels
      ∧ (s.answered rest cls tag p).pending = s.pending :=
  ⟨rfl, rfl, rfl, rfl, rfl, rfl, rfl, rfl, rfl, rfl, rfl⟩

/-! ## One place of a fixed number -/

/-- A screen after one screen has been changed. -/
@[simp] theorem State.onScreen_get (i j : Fin 4) (f : Screen → Screen) :
    (s.onScreen i f).screens[j.val] = if j = i then f s.screens[i.val] else s.screens[j.val] := by
  by_cases h : j = i
  · subst h; simp [State.onScreen]
  · rw [if_neg h]; exact Vector.getElem_set_ne i.isLt j.isLt fun e => h (Fin.ext e.symm)

/-- A panel after one panel has been changed. -/
@[simp] theorem State.onPanel_get (i j : Fin 4) (f : Panel → Panel) :
    (s.onPanel i f).panels[j.val] = if j = i then f s.panels[i.val] else s.panels[j.val] := by
  by_cases h : j = i
  · subst h; simp [State.onPanel]
  · rw [if_neg h]; exact Vector.getElem_set_ne i.isLt j.isLt fun e => h (Fin.ext e.symm)

/-- A unit after one unit has been changed. -/
@[simp] theorem State.onUnit_get (u v : Fin 2) (f : SearchUnit → SearchUnit) :
    (s.onUnit u f).search.units[v.val] = if v = u then f s.search.units[u.val] else s.search.units[v.val] := by
  by_cases h : v = u
  · subst h; simp [State.onUnit]
  · rw [if_neg h]; exact Vector.getElem_set_ne u.isLt v.isLt fun e => h (Fin.ext e.symm)

/-- A cache entry after one entry has been changed. -/
@[simp] theorem CacheState.onEntry_at (c : CacheState) (e d : Fin 512) (f : CacheEntry → CacheEntry) :
    (c.onEntry e f).at d = if d = e then f (c.at e) else c.at d := by
  by_cases h : d = e
  · subst h; simp [CacheState.onEntry, CacheState.at]
  · rw [if_neg h]; exact Vector.getElem_set_ne e.isLt d.isLt fun x => h (Fin.ext x.symm)

/-- A change of one entry leaves the hands, the sweep list and the scan. -/
@[simp] theorem CacheState.onEntry_fields (c : CacheState) (e : Fin 512) (f : CacheEntry → CacheEntry) :
    (c.onEntry e f).hands = c.hands ∧ (c.onEntry e f).sweep = c.sweep ∧ (c.onEntry e f).scan = c.scan :=
  ⟨rfl, rfl, rfl⟩

/-- A place of a working table after one place has been changed. -/
@[simp] theorem place_setPlace {α : Type} (t : Vector α 4096) (v w : BitVec 12) (x : α) :
    place (setPlace t v x) w = if w = v then x else place t w := by
  by_cases h : w = v
  · subst h; simp [place, setPlace]
  · rw [if_neg h]; exact Vector.getElem_set_ne _ _ fun e => h (BitVec.eq_of_toNat_eq e.symm)

end Sys2Proof.Machine
end

