-- ==== Sys2Proof/Laws/Ops.lean ====
section
/-! SUPPORT. The shared operations: what each leaves unchanged, and what the message link, the outstanding lists and
the release order become. -/

namespace Sys2Proof.Machine

variable (s : State)

/-! ## What they leave unchanged -/

/-- Queueing a reply changes the link alone. -/
@[simp] theorem State.queueReply_keeps (i : OutItem) :
    (s.queueReply i).resetLow = s.resetLow ∧ (s.queueReply i).mod = s.mod ∧ (s.queueReply i).map = s.map
      ∧ (s.queueReply i).profiles = s.profiles ∧ (s.queueReply i).search = s.search
      ∧ (s.queueReply i).rco = s.rco ∧ (s.queueReply i).rcc = s.rcc ∧ (s.queueReply i).dir = s.dir
      ∧ (s.queueReply i).screens = s.screens ∧ (s.queueReply i).panels = s.panels
      ∧ (s.queueReply i).pending = s.pending := by
  simp [State.queueReply]

/-- A reply changes the link alone. -/
@[simp] theorem State.reply_keeps (cls tag : Byte) (p : List Byte) :
    (s.reply cls tag p).resetLow = s.resetLow ∧ (s.reply cls tag p).mod = s.mod
      ∧ (s.reply cls tag p).map = s.map ∧ (s.reply cls tag p).profiles = s.profiles
      ∧ (s.reply cls tag p).search = s.search ∧ (s.reply cls tag p).rco = s.rco
      ∧ (s.reply cls tag p).rcc = s.rcc ∧ (s.reply cls tag p).dir = s.dir
      ∧ (s.reply cls tag p).screens = s.screens ∧ (s.reply cls tag p).panels = s.panels
      ∧ (s.reply cls tag p).pending = s.pending := by
  simp [State.reply]

/-- A refusal changes the link alone. -/
@[simp] theorem State.refuse_keeps (cls tag : Byte) (r : ResultCode) :
    (s.refuse cls tag r).resetLow = s.resetLow ∧ (s.refuse cls tag r).mod = s.mod
      ∧ (s.refuse cls tag r).map = s.map ∧ (s.refuse cls tag r).profiles = s.profiles
      ∧ (s.refuse cls tag r).search = s.search ∧ (s.refuse cls tag r).rco = s.rco
      ∧ (s.refuse cls tag r).rcc = s.rcc ∧ (s.refuse cls tag r).dir = s.dir
      ∧ (s.refuse cls tag r).screens = s.screens ∧ (s.refuse cls tag r).panels = s.panels
      ∧ (s.refuse cls tag r).pending = s.pending := by
  simp [State.refuse]

/-- Queueing a report changes the link alone. -/
@[simp] theorem State.queueReport_keeps (cls : Byte) (p : List Byte) :
    (s.queueReport cls p).resetLow = s.resetLow ∧ (s.queueReport cls p).mod = s.mod
      ∧ (s.queueReport cls p).map = s.map ∧ (s.queueReport cls p).profiles = s.profiles
      ∧ (s.queueReport cls p).search = s.search ∧ (s.queueReport cls p).rco = s.rco
      ∧ (s.queueReport cls p).rcc = s.rcc ∧ (s.queueReport cls p).dir = s.dir
      ∧ (s.queueReport cls p).screens = s.screens ∧ (s.queueReport cls p).panels = s.panels
      ∧ (s.queueReport cls p).pending = s.pending := by
  unfold State.queueReport
  split <;> simp

/-- Offering a report changes the link alone. -/
@[simp] theorem State.offerReport_keeps (k : MaskKind) (cls : Byte) (p : List Byte) :
    (s.offerReport k cls p).resetLow = s.resetLow ∧ (s.offerReport k cls p).mod = s.mod
      ∧ (s.offerReport k cls p).map = s.map ∧ (s.offerReport k cls p).profiles = s.profiles
      ∧ (s.offerReport k cls p).search = s.search ∧ (s.offerReport k cls p).rco = s.rco
      ∧ (s.offerReport k cls p).rcc = s.rcc ∧ (s.offerReport k cls p).dir = s.dir
      ∧ (s.offerReport k cls p).screens = s.screens ∧ (s.offerReport k cls p).panels = s.panels
      ∧ (s.offerReport k cls p).pending = s.pending := by
  unfold State.offerReport
  split <;> simp

/-- Placing a released result changes the link and the screens alone. -/
@[simp] theorem State.placeResult_keeps (i : Fin 4) (e : Entry) (r : EntryResult) :
    (s.placeResult i e r).resetLow = s.resetLow ∧ (s.placeResult i e r).mod = s.mod
      ∧ (s.placeResult i e r).map = s.map ∧ (s.placeResult i e r).profiles = s.profiles
      ∧ (s.placeResult i e r).search = s.search ∧ (s.placeResult i e r).rco = s.rco
      ∧ (s.placeResult i e r).rcc = s.rcc ∧ (s.placeResult i e r).dir = s.dir
      ∧ (s.placeResult i e r).panels = s.panels ∧ (s.placeResult i e r).pending = s.pending := by
  unfold State.placeResult
  split
  · simp
  · split <;> simp

/-- A release changes the link and the screens alone. -/
@[simp] theorem State.releaseList_keeps (i : Fin 4) (l : List Entry) :
    (s.releaseList i l).resetLow = s.resetLow ∧ (s.releaseList i l).mod = s.mod
      ∧ (s.releaseList i l).map = s.map ∧ (s.releaseList i l).profiles = s.profiles
      ∧ (s.releaseList i l).search = s.search ∧ (s.releaseList i l).rco = s.rco
      ∧ (s.releaseList i l).rcc = s.rcc ∧ (s.releaseList i l).dir = s.dir
      ∧ (s.releaseList i l).panels = s.panels ∧ (s.releaseList i l).pending = s.pending := by
  induction l generalizing s with
  | nil => simp [State.releaseList]
  | cons e es ih =>
    unfold State.releaseList
    split
    · simp
    · simp [ih]

/-- A release changes the link and the screens alone. -/
@[simp] theorem State.release_keeps (i : Fin 4) :
    (s.release i).resetLow = s.resetLow ∧ (s.release i).mod = s.mod ∧ (s.release i).map = s.map
      ∧ (s.release i).profiles = s.profiles ∧ (s.release i).search = s.search ∧ (s.release i).rco = s.rco
      ∧ (s.release i).rcc = s.rcc ∧ (s.release i).dir = s.dir ∧ (s.release i).panels = s.panels
      ∧ (s.release i).pending = s.pending := by
  simp [State.release]

/-- Marking an entry changes the screens alone. -/
@[simp] theorem State.mark_keeps (ref : Ref) (r : EntryResult) :
    (s.mark ref r).resetLow = s.resetLow ∧ (s.mark ref r).link = s.link ∧ (s.mark ref r).mod = s.mod
      ∧ (s.mark ref r).map = s.map ∧ (s.mark ref r).profiles = s.profiles ∧ (s.mark ref r).search = s.search
      ∧ (s.mark ref r).rco = s.rco ∧ (s.mark ref r).rcc = s.rcc ∧ (s.mark ref r).dir = s.dir
      ∧ (s.mark ref r).panels = s.panels ∧ (s.mark ref r).pending = s.pending := by
  simp [State.mark]

/-- A completion changes the link and the screens alone. -/
@[simp] theorem State.complete_keeps (ref : Ref) (r : EntryResult) :
    (s.complete ref r).resetLow = s.resetLow ∧ (s.complete ref r).mod = s.mod ∧ (s.complete ref r).map = s.map
      ∧ (s.complete ref r).profiles = s.profiles ∧ (s.complete ref r).search = s.search
      ∧ (s.complete ref r).rco = s.rco ∧ (s.complete ref r).rcc = s.rcc ∧ (s.complete ref r).dir = s.dir
      ∧ (s.complete ref r).panels = s.panels ∧ (s.complete ref r).pending = s.pending := by
  simp [State.complete]

/-- Completions change the link and the screens alone. -/
@[simp] theorem State.completeAll_keeps (refs : List Ref) (c : ResultCode) :
    (s.completeAll refs c).resetLow = s.resetLow ∧ (s.completeAll refs c).mod = s.mod
      ∧ (s.completeAll refs c).map = s.map ∧ (s.completeAll refs c).profiles = s.profiles
      ∧ (s.completeAll refs c).search = s.search ∧ (s.completeAll refs c).rco = s.rco
      ∧ (s.completeAll refs c).rcc = s.rcc ∧ (s.completeAll refs c).dir = s.dir
      ∧ (s.completeAll refs c).panels = s.panels ∧ (s.completeAll refs c).pending = s.pending := by
  induction refs generalizing s with
  | nil => simp [State.completeAll]
  | cons a l ih =>
    have h := ih (s.complete a (.bare c))
    simp only [State.completeAll, List.foldl_cons] at h ⊢
    simpa using h

/-- A join changes the screens alone. -/
@[simp] theorem State.join_keeps (i : Fin 4) (a : Asker) (k : Ask) (r : Option EntryResult) :
    (s.join i a k r).resetLow = s.resetLow ∧ (s.join i a k r).link = s.link ∧ (s.join i a k r).mod = s.mod
      ∧ (s.join i a k r).map = s.map ∧ (s.join i a k r).profiles = s.profiles
      ∧ (s.join i a k r).search = s.search ∧ (s.join i a k r).rco = s.rco ∧ (s.join i a k r).rcc = s.rcc
      ∧ (s.join i a k r).dir = s.dir ∧ (s.join i a k r).panels = s.panels ∧ (s.join i a k r).pending = s.pending := by
  simp [State.join]

/-- Touching a session changes the screens alone. -/
@[simp] theorem State.touchSession_keeps (i : Fin 4) :
    (s.touchSession i).resetLow = s.resetLow ∧ (s.touchSession i).link = s.link ∧ (s.touchSession i).mod = s.mod
      ∧ (s.touchSession i).map = s.map ∧ (s.touchSession i).profiles = s.profiles
      ∧ (s.touchSession i).search = s.search ∧ (s.touchSession i).rco = s.rco ∧ (s.touchSession i).rcc = s.rcc
      ∧ (s.touchSession i).dir = s.dir ∧ (s.touchSession i).panels = s.panels
      ∧ (s.touchSession i).pending = s.pending := by
  simp [State.touchSession]

/-! ## The link under a reply or report -/

/-- A reply goes to the end of the reply queue and changes nothing else of the link. -/
@[simp] theorem State.queueReply_link (i : OutItem) :
    (s.queueReply i).link = { s.link with replies := s.link.replies ++ [i] } := rfl

/-- A reply goes to the end of the reply queue and changes nothing else of the link. -/
@[simp] theorem State.reply_link (cls tag : Byte) (p : List Byte) :
    (s.reply cls tag p).link = { s.link with replies := s.link.replies ++ [plainReply cls tag p] } := rfl

/-- A refusal is a reply of one byte. -/
@[simp] theorem State.refuse_link (cls tag : Byte) (r : ResultCode) :
    (s.refuse cls tag r).link = { s.link with replies := s.link.replies ++ [plainReply cls tag [r.code]] } := rfl

/-- A report is queued behind the others in a free slot, or sets OVERRUN; nothing else of the link changes. -/
theorem State.queueReport_link (cls : Byte) (p : List Byte) :
    (s.link.reportSlotFree = true ∧ (s.queueReport cls p).link =
        { s.link with reports := s.link.reports ++
            [{ cls := cls, tag := 0, payload := p, release := none, resets := false }] })
      ∨ (s.link.reportSlotFree = false ∧ (s.queueReport cls p).link = { s.link with overrun := true }) := by
  unfold State.queueReport
  cases h : s.link.reportSlotFree <;> simp

/-- An offered report is discarded under its mask with its pending flag set, or queued. -/
theorem State.offerReport_cases (k : MaskKind) (cls : Byte) (p : List Byte) :
    (s.link.masked k = true ∧
        (s.offerReport k cls p).link = { s.link with suppressed := setKind s.link.suppressed k true })
      ∨ (s.link.masked k = false ∧ s.offerReport k cls p = s.queueReport cls p) := by
  unfold State.offerReport
  cases h : s.link.masked k <;> simp

/-- What no reply, report or release touches of the link: the hunter, the inbound queue, the frame being sent, the
arbiter's memory, the mask and the slots that requests hold. -/
def LinkState.SameReception (a b : LinkState) : Prop :=
  a.rate = b.rate ∧ a.hunter = b.hunter ∧ a.gap = b.gap ∧ a.inbound = b.inbound ∧ a.slotsUsed = b.slotsUsed
    ∧ a.sending = b.sending ∧ a.lastUsed = b.lastUsed ∧ a.mask = b.mask

/-- A link shares its reception side with itself. -/
theorem LinkState.SameReception.refl (a : LinkState) : a.SameReception a := ⟨rfl, rfl, rfl, rfl, rfl, rfl, rfl, rfl⟩

/-- Sharing the reception side is transitive. -/
theorem LinkState.SameReception.trans {a b c : LinkState} (h : a.SameReception b) (k : b.SameReception c) :
    a.SameReception c := by
  obtain ⟨h1, h2, h3, h4, h5, h6, h7, h8⟩ := h
  obtain ⟨k1, k2, k3, k4, k5, k6, k7, k8⟩ := k
  exact ⟨h1.trans k1, h2.trans k2, h3.trans k3, h4.trans k4, h5.trans k5, h6.trans k6, h7.trans k7, h8.trans k8⟩

/-- A reply leaves the reception side. -/
theorem State.reply_sameReception (cls tag : Byte) (p : List Byte) :
    (s.reply cls tag p).link.SameReception s.link := ⟨rfl, rfl, rfl, rfl, rfl, rfl, rfl, rfl⟩

/-- Queueing a report leaves the reception side. -/
theorem State.queueReport_sameReception (cls : Byte) (p : List Byte) :
    (s.queueReport cls p).link.SameReception s.link := by
  obtain ⟨-, h⟩ | ⟨-, h⟩ := s.queueReport_link cls p <;> rw [h] <;> exact ⟨rfl, rfl, rfl, rfl, rfl, rfl, rfl, rfl⟩

/-- Offering a report leaves the reception side. -/
theorem State.offerReport_sameReception (k : MaskKind) (cls : Byte) (p : List Byte) :
    (s.offerReport k cls p).link.SameReception s.link := by
  obtain ⟨-, h⟩ | ⟨-, h⟩ := s.offerReport_cases k cls p
  · rw [h]; exact ⟨rfl, rfl, rfl, rfl, rfl, rfl, rfl, rfl⟩
  · rw [h]; exact s.queueReport_sameReception cls p

/-- Placing a released result leaves the reception side. -/
theorem State.placeResult_sameReception (i : Fin 4) (e : Entry) (r : EntryResult) :
    (s.placeResult i e r).link.SameReception s.link := by
  unfold State.placeResult
  split
  · exact ⟨rfl, rfl, rfl, rfl, rfl, rfl, rfl, rfl⟩
  · split <;> exact ⟨rfl, rfl, rfl, rfl, rfl, rfl, rfl, rfl⟩

/-- A release leaves the reception side. -/
theorem State.releaseList_sameReception (i : Fin 4) (l : List Entry) :
    (s.releaseList i l).link.SameReception s.link := by
  induction l generalizing s with
  | nil => exact .refl _
  | cons e es ih =>
    unfold State.releaseList
    split
    · exact .refl _
    · exact (ih _).trans (s.placeResult_sameReception i e _)

/-- A completion leaves the reception side. -/
theorem State.complete_sameReception (ref : Ref) (r : EntryResult) :
    (s.complete ref r).link.SameReception s.link :=
  (s.mark ref r).releaseList_sameReception ref.screen _

/-- Completions leave the reception side. -/
theorem State.completeAll_sameReception (refs : List Ref) (c : ResultCode) :
    (s.completeAll refs c).link.SameReception s.link := by
  induction refs generalizing s with
  | nil => exact .refl _
  | cons a l ih => exact (ih (s.complete a (.bare c))).trans (s.complete_sameReception a (.bare c))

/-! ## Outstanding lists -/

/-- What is left of a list once the DONE entries at its head have been released. -/
def undone : List Entry → List Entry
  | [] => []
  | e :: es => if e.done then undone es else e :: es

/-- A placed result leaves every outstanding list. -/
@[simp] theorem State.placeResult_outstanding (i j : Fin 4) (e : Entry) (r : EntryResult) :
    (s.placeResult i e r).screens[j.val].outstanding = s.screens[j.val].outstanding := by
  unfold State.placeResult
  split
  · simp; split <;> simp_all
  · split
    · simp
    · simp; split <;> simp_all

/-- A release stops at an entry that is not DONE. -/
theorem State.releaseList_stop (i : Fin 4) (e : Entry) (es : List Entry) (h : e.result = none) :
    s.releaseList i (e :: es) = s.onScreen i fun c => { c with outstanding := e :: es } := by
  simp only [State.releaseList, h]

/-- A release places a DONE head and goes on. -/
theorem State.releaseList_go (i : Fin 4) (e : Entry) (es : List Entry) (r : EntryResult) (h : e.result = some r) :
    s.releaseList i (e :: es) = (s.placeResult i e r).releaseList i es := by
  simp only [State.releaseList, h]

/-- A release leaves the part of the list that begins with the first entry not DONE, and the other lists. -/
theorem State.releaseList_outstanding (i j : Fin 4) (l : List Entry) :
    (s.releaseList i l).screens[j.val].outstanding = if j = i then undone l else s.screens[j.val].outstanding := by
  induction l generalizing s with
  | nil => simp [State.releaseList, undone]; split <;> simp_all
  | cons e es ih =>
    unfold undone
    cases h : e.result with
    | none => rw [State.releaseList_stop _ _ _ _ h]; simp [Entry.done, h]; split <;> simp_all
    | some r => rw [State.releaseList_go _ _ _ _ r h]; simp [Entry.done, h, ih]

/-- A screen's release leaves the part of its list that begins with the first entry not DONE, and the other lists
(09 R151). -/
theorem State.release_outstanding (i j : Fin 4) :
    (s.release i).screens[j.val].outstanding
      = if j = i then undone s.screens[i.val].outstanding else s.screens[j.val].outstanding :=
  s.releaseList_outstanding i j _

/-- The fields of a screen that completions and releases leave unchanged. -/
def Screen.SameSession (a b : Screen) : Prop :=
  a.enabled = b.enabled ∧ a.origin = b.origin ∧ a.heading = b.heading ∧ a.profile = b.profile ∧ a.width = b.width
    ∧ a.height = b.height ∧ a.timeout = b.timeout ∧ a.active = b.active ∧ a.idle = b.idle ∧ a.text = b.text
    ∧ a.terms = b.terms ∧ a.seq = b.seq ∧ a.nextId = b.nextId

/-- A screen shares its session with itself. -/
theorem Screen.SameSession.refl (a : Screen) : a.SameSession a :=
  ⟨rfl, rfl, rfl, rfl, rfl, rfl, rfl, rfl, rfl, rfl, rfl, rfl, rfl⟩

/-- Sharing the session is transitive. -/
theorem Screen.SameSession.trans {a b c : Screen} (h : a.SameSession b) (k : b.SameSession c) : a.SameSession c := by
  unfold Screen.SameSession at *
  simp_all

/-- A change of the outstanding list or of the release place shares the session. -/
theorem State.onScreen_sameSession (i j : Fin 4) (f : Screen → Screen) (h : ∀ c, (f c).SameSession c) :
    (s.onScreen i f).screens[j.val].SameSession s.screens[j.val] := by
  rw [State.onScreen_get]
  split
  · subst_vars; exact h _
  · exact .refl _

/-- A placed result shares every session. -/
theorem State.placeResult_sameSession (i j : Fin 4) (e : Entry) (r : EntryResult) :
    (s.placeResult i e r).screens[j.val].SameSession s.screens[j.val] := by
  unfold State.placeResult
  split
  · exact State.onScreen_sameSession _ i j _ fun c => .refl c
  · split
    · exact .refl _
    · exact State.onScreen_sameSession _ i j _ fun c => .refl c

/-- A release shares every session. -/
theorem State.releaseList_sameSession (i j : Fin 4) (l : List Entry) :
    (s.releaseList i l).screens[j.val].SameSession s.screens[j.val] := by
  induction l generalizing s with
  | nil => exact State.onScreen_sameSession _ i j _ fun c => .refl c
  | cons e es ih =>
    cases h : e.result with
    | none => rw [State.releaseList_stop _ _ _ _ h]; exact State.onScreen_sameSession _ i j _ fun c => .refl c
    | some r => rw [State.releaseList_go _ _ _ _ r h]; exact (ih _).trans (s.placeResult_sameSession i j e r)

/-- A completion shares every session. -/
theorem State.complete_sameSession (ref : Ref) (r : EntryResult) (j : Fin 4) :
    (s.complete ref r).screens[j.val].SameSession s.screens[j.val] :=
  ((s.mark ref r).releaseList_sameSession ref.screen j _).trans
    (State.onScreen_sameSession _ _ j _ fun c => .refl c)

/-- Completions share every session. -/
theorem State.completeAll_sameSession (refs : List Ref) (c : ResultCode) (j : Fin 4) :
    (s.completeAll refs c).screens[j.val].SameSession s.screens[j.val] := by
  induction refs generalizing s with
  | nil => exact .refl _
  | cons a l ih => exact (ih (s.complete a (.bare c))).trans (s.complete_sameSession a (.bare c) j)

/-! ## Meanings -/

/-- Every meaning that the pin gates answers a next state: unchanged while RESET_N is low, else by its operation. -/
theorem whileRunning_eq (f : State → State) :
    whileRunning s f = .next (if s.resetLow then s else f s) := rfl

/-- Every meaning answers a next state. -/
theorem exec_next (c : Instr) : ∃ t, exec c s = .next t := by
  cases c <;> exact ⟨_, rfl⟩

/-- Every step answers a next state. -/
theorem step_next : ∃ t, step s = .next t := by
  unfold step
  split
  · exact ⟨_, rfl⟩
  · exact exec_next _ _

end Sys2Proof.Machine
end

