-- ==== Sys2Proof/Laws/Link.lean ====
section
/-! SUPPORT. The message link: what dispatch can do, what reception and transmission do to the queues and slots. -/

namespace Sys2Proof.Machine

variable (s : State)

/-! ## Dispatch (11 R185) -/

/-- The dispatcher takes the frame that State.headIs names. -/
theorem State.dispatchHead_of_headIs {cls tag : Byte} {p : List Byte} {rest : List InFrame}
    (h : s.headIs cls tag p rest) :
    s.dispatchHead = some ({ cls := cls, tag := tag, payload := p }, s.taken rest) := by
  obtain ⟨-, h1, h2, h3⟩ := h
  simp [State.dispatchHead, h1, h2, h3, State.taken, State.onLink]

/-- A request that passes the size test and the mode gate is handed to its owner, with the frame gone from the
inbound queue. -/
theorem State.dispatch_owner {cls tag : Byte} {p : List Byte} {rest : List InFrame} {row : List Byte → Bool}
    (owner : Byte → List Byte → State → State) (h : s.headIs cls tag p rest) (hr : row p = true)
    (hs : sizeAllowed cls p.length = true) (hm : modeGate s.mod.mode cls = true) :
    s.dispatch cls row owner = owner tag p (s.taken rest) := by
  simp [State.dispatch, s.dispatchHead_of_headIs h, hr, hs, hm]

/-- A request of a length that its class does not allow is answered BAD_ARGUMENT. -/
theorem State.dispatch_size {cls tag : Byte} {p : List Byte} {rest : List InFrame} {row : List Byte → Bool}
    (owner : Byte → List Byte → State → State) (h : s.headIs cls tag p rest) (hr : row p = true)
    (hs : sizeAllowed cls p.length = false) :
    s.dispatch cls row owner = (s.taken rest).refuse cls tag .badArgument := by
  simp [State.dispatch, s.dispatchHead_of_headIs h, hr, hs]

/-- A request that the mode gate does not allow is answered WRONG_MODE. -/
theorem State.dispatch_gate {cls tag : Byte} {p : List Byte} {rest : List InFrame} {row : List Byte → Bool}
    (owner : Byte → List Byte → State → State) (h : s.headIs cls tag p rest) (hr : row p = true)
    (hs : sizeAllowed cls p.length = true) (hm : modeGate s.mod.mode cls = false) :
    s.dispatch cls row owner = (s.taken rest).refuse cls tag .wrongMode := by
  simp [State.dispatch, s.dispatchHead_of_headIs h, hr, hs, hm]

/-- All that a dispatch can do: nothing; or it takes the head frame of its class and refuses it by its size, refuses
it by the mode gate, or hands it to its owner. -/
theorem State.dispatch_cases (cls : Byte) (row : List Byte → Bool) (owner : Byte → List Byte → State → State) :
    s.dispatch cls row owner = s
      ∨ ∃ tag p rest, s.mod.resetAsked = false ∧ s.mod.freezing = none
        ∧ s.link.inbound = { cls := cls, tag := tag, payload := p } :: rest ∧ row p = true
        ∧ ((sizeAllowed cls p.length = false
              ∧ s.dispatch cls row owner = (s.taken rest).refuse cls tag .badArgument)
          ∨ (sizeAllowed cls p.length = true ∧ modeGate s.mod.mode cls = false
              ∧ s.dispatch cls row owner = (s.taken rest).refuse cls tag .wrongMode)
          ∨ (sizeAllowed cls p.length = true ∧ modeGate s.mod.mode cls = true
              ∧ s.dispatch cls row owner = owner tag p (s.taken rest))) := by
  cases hf : s.mod.freezing with
  | some t => exact .inl (by simp [State.dispatch, State.dispatchHead, hf])
  | none =>
    cases ha : s.mod.resetAsked with
    | true => exact .inl (by simp [State.dispatch, State.dispatchHead, ha])
    | false =>
      cases hi : s.link.inbound with
      | nil => exact .inl (by simp [State.dispatch, State.dispatchHead, hf, ha, hi])
      | cons f rest =>
        have hd : s.dispatchHead = some (f, s.taken rest) := by
          simp [State.dispatchHead, hf, ha, hi, State.taken, State.onLink]
        by_cases hc : f.cls ≠ cls ∨ row f.payload = false
        · exact .inl (by simp only [State.dispatch, hd, if_pos hc])
        · obtain ⟨c1, c2⟩ := not_or.mp hc
          have e : f.cls = cls := not_not.mp c1
          have r : row f.payload = true := by simpa using c2
          refine .inr ⟨f.tag, f.payload, rest, rfl, rfl, by rw [← e], r, ?_⟩
          cases hs : sizeAllowed cls f.payload.length with
          | false => exact .inl ⟨rfl, by simp only [State.dispatch, hd, if_neg hc, hs, if_pos]⟩
          | true =>
            cases hm : modeGate s.mod.mode cls with
            | false => exact .inr (.inl ⟨rfl, rfl, by simp [State.dispatch, hd, hc, hs, hm]⟩)
            | true => exact .inr (.inr ⟨rfl, rfl, by simp [State.dispatch, hd, hc, hs, hm]⟩)

/-- An answer is a reply after the head frame has been taken. -/
theorem State.taken_reply (rest : List InFrame) (cls tag : Byte) (p : List Byte) :
    (s.taken rest).reply cls tag p = s.answered rest (cls + 0x80) tag p := rfl

/-- A refusal is an answer of the result byte alone. -/
theorem State.taken_refuse (rest : List InFrame) (cls tag : Byte) (r : ResultCode) :
    (s.taken rest).refuse cls tag r = s.answered rest (cls + 0x80) tag [r.code] := rfl

/-! ## Reception (11 R182, R183) -/

variable (l : LinkState)

/-- A complete frame is accepted with a slot, or discarded with OVERRUN; nothing else changes. -/
theorem LinkState.accept_cases (f : InFrame) :
    (l.inbound.length < 8 ∧ l.slotsUsed < 24
        ∧ l.accept f = { l with inbound := l.inbound ++ [f], slotsUsed := l.slotsUsed + 1 })
      ∨ (¬(l.inbound.length < 8 ∧ l.slotsUsed < 24) ∧ l.accept f = { l with overrun := true }) := by
  by_cases h : l.inbound.length < 8 ∧ l.slotsUsed < 24
  · exact .inl ⟨h.1, h.2, if_pos h⟩
  · exact .inr ⟨h, if_neg h⟩

/-- All that one received byte can do: it moves the hunter and the gap alone, or it completes a frame, which is then
judged. -/
theorem LinkState.receive_cases (b : Byte) :
    ∃ h g, l.receive b = { l with hunter := h, gap := g }
      ∨ ∃ f, l.receive b = ({ l with hunter := h, gap := g } : LinkState).accept f := by
  unfold LinkState.receive
  split
  · split
    · exact ⟨_, _, .inl rfl⟩
    · exact ⟨l.hunter, l.gap, .inl rfl⟩
  · exact ⟨_, _, .inl rfl⟩
  · split
    · simp only
      split
      · exact ⟨_, _, .inr ⟨_, rfl⟩⟩
      · exact ⟨_, _, .inl rfl⟩
    · exact ⟨_, _, .inl rfl⟩

/-- Bytes received one after another. -/
@[simp] theorem LinkState.receiveAll_cons (b : Byte) (bs : List Byte) :
    l.receiveAll (b :: bs) = (l.receive b).receiveAll bs := rfl

/-- No byte received. -/
@[simp] theorem LinkState.receiveAll_nil : l.receiveAll [] = l := rfl

/-- Bytes received in two runs. -/
theorem LinkState.receiveAll_append (as bs : List Byte) :
    l.receiveAll (as ++ bs) = (l.receiveAll as).receiveAll bs := List.foldl_append

/-- What reception leaves unchanged: the outbound queues, the frame being sent, the mask and the reservations. -/
theorem LinkState.receive_keeps (b : Byte) :
    (l.receive b).rate = l.rate ∧ (l.receive b).replies = l.replies ∧ (l.receive b).reports = l.reports
      ∧ (l.receive b).reserved = l.reserved ∧ (l.receive b).sending = l.sending
      ∧ (l.receive b).lastUsed = l.lastUsed ∧ (l.receive b).mask = l.mask
      ∧ (l.receive b).suppressed = l.suppressed := by
  obtain ⟨h, g, e | ⟨f, e⟩⟩ := l.receive_cases b
  · rw [e]; exact ⟨rfl, rfl, rfl, rfl, rfl, rfl, rfl, rfl⟩
  · rw [e]
    obtain ⟨-, -, k⟩ | ⟨-, k⟩ := LinkState.accept_cases { l with hunter := h, gap := g } f <;> rw [k] <;>
      exact ⟨rfl, rfl, rfl, rfl, rfl, rfl, rfl, rfl⟩

/-! ## Transmission (11 R187) -/

/-- Sending a queue's head takes it off that queue and puts its frame on TXD. -/
theorem LinkState.send_replies (h : OutItem) (t : List OutItem) :
    l.send .replies h t =
      { l with sending := some { queue := .replies, bytes := h.bytes, resets := h.resets }, lastUsed := .replies
               replies := t } := rfl

/-- Sending a queue's head takes it off that queue and puts its frame on TXD. -/
theorem LinkState.send_reports (h : OutItem) (t : List OutItem) :
    l.send .reports h t =
      { l with sending := some { queue := .reports, bytes := h.bytes, resets := h.resets }, lastUsed := .reports
               reports := t } := rfl

/-- A queue has a sendable head just when its head is present and not blocked. -/
theorem sendable_eq_some {q o t : List OutItem} {h : OutItem} :
    sendable q o = some (h, t) ↔ q = h :: t ∧ blocked h o = false := by
  cases q with
  | nil => simp [sendable]
  | cons a as =>
    by_cases hb : blocked a o = true
    · simp [sendable, hb]; rintro rfl -; exact hb
    · simp only [sendable, if_neg hb, Option.some.injEq, Prod.mk.injEq, List.cons.injEq]
      constructor
      · rintro ⟨rfl, rfl⟩; exact ⟨⟨rfl, rfl⟩, by simpa using hb⟩
      · rintro ⟨⟨rfl, rfl⟩, -⟩; exact ⟨rfl, rfl⟩

/-- All that the arbiter can do: nothing, or it sends the head of one queue. -/
theorem LinkState.arbitrate_cases :
    l.arbitrate = l
      ∨ (l.sending = none ∧ ∃ h t, l.replies = h :: t ∧ blocked h l.reports = false ∧ l.arbitrate = l.send .replies h t)
      ∨ (l.sending = none ∧ ∃ h t, l.reports = h :: t ∧ blocked h l.replies = false ∧ l.arbitrate = l.send .reports h t) := by
  unfold LinkState.arbitrate
  split
  · exact .inl rfl
  · rename_i hs
    split
    · exact .inl rfl
    · rename_i h1 h2
      obtain ⟨e1, e2⟩ := sendable_eq_some.mp h1
      exact .inr (.inl ⟨hs, _, _, e1, e2, rfl⟩)
    · rename_i h1 h2
      obtain ⟨e1, e2⟩ := sendable_eq_some.mp h2
      exact .inr (.inr ⟨hs, _, _, e1, e2, rfl⟩)
    · rename_i h1 h2
      obtain ⟨e1, e2⟩ := sendable_eq_some.mp h1
      obtain ⟨f1, f2⟩ := sendable_eq_some.mp h2
      split
      · exact .inr (.inl ⟨hs, _, _, e1, e2, rfl⟩)
      · exact .inr (.inr ⟨hs, _, _, f1, f2, rfl⟩)

/-- STARTED at the head of the report queue goes before any reply. -/
theorem LinkState.arbitrate_started {h : OutItem} {t : List OutItem} (hs : l.sending = none) (hr : l.reports = h :: t)
    (hb : blocked h l.replies = false) (hi : h.isStarted = true) : l.arbitrate = l.send .reports h t := by
  have e : sendable l.reports l.replies = some (h, t) := sendable_eq_some.mpr ⟨hr, hb⟩
  unfold LinkState.arbitrate
  rw [hs, e]
  cases sendable l.replies l.reports <;> simp [hi]

end Sys2Proof.Machine
end

