-- ==== Sys2Proof/Laws/Engines.lean ====
section
/-! SUPPORT. The engines: what the search queue, the units, the composer, the directory and the ends of work leave
unchanged. -/

namespace Sys2Proof.Machine

variable (s : State)

/-! ## The search queue and the units -/

/-- Dispatch to a unit changes the search block alone. -/
@[simp] theorem State.giveUnit_keeps (u : Fin 2) :
    (s.giveUnit u).resetLow = s.resetLow ∧ (s.giveUnit u).link = s.link ∧ (s.giveUnit u).mod = s.mod
      ∧ (s.giveUnit u).map = s.map ∧ (s.giveUnit u).profiles = s.profiles ∧ (s.giveUnit u).rco = s.rco
      ∧ (s.giveUnit u).rcc = s.rcc ∧ (s.giveUnit u).dir = s.dir ∧ (s.giveUnit u).screens = s.screens
      ∧ (s.giveUnit u).panels = s.panels ∧ (s.giveUnit u).pending = s.pending := by
  unfold State.giveUnit
  split
  · split <;> simp
  · simp

/-- Dispatch to the units changes the search block alone. -/
@[simp] theorem State.giveUnits_keeps :
    (s.giveUnits).resetLow = s.resetLow ∧ (s.giveUnits).link = s.link ∧ (s.giveUnits).mod = s.mod
      ∧ (s.giveUnits).map = s.map ∧ (s.giveUnits).profiles = s.profiles ∧ (s.giveUnits).rco = s.rco
      ∧ (s.giveUnits).rcc = s.rcc ∧ (s.giveUnits).dir = s.dir ∧ (s.giveUnits).screens = s.screens
      ∧ (s.giveUnits).panels = s.panels ∧ (s.giveUnits).pending = s.pending := by
  simp [State.giveUnits]

/-- Freeing a unit changes the search block alone. -/
@[simp] theorem State.freeUnit_keeps (u : Fin 2) :
    (s.freeUnit u).resetLow = s.resetLow ∧ (s.freeUnit u).link = s.link ∧ (s.freeUnit u).mod = s.mod
      ∧ (s.freeUnit u).map = s.map ∧ (s.freeUnit u).profiles = s.profiles ∧ (s.freeUnit u).rco = s.rco
      ∧ (s.freeUnit u).rcc = s.rcc ∧ (s.freeUnit u).dir = s.dir ∧ (s.freeUnit u).screens = s.screens
      ∧ (s.freeUnit u).panels = s.panels ∧ (s.freeUnit u).pending = s.pending := by
  simp [State.freeUnit]

/-- The end of a settle step changes the search block and the composer queue alone. -/
@[simp] theorem State.endSettle_keeps (u : Fin 2) (v : SearchUnit) :
    (s.endSettle u v).resetLow = s.resetLow ∧ (s.endSettle u v).link = s.link ∧ (s.endSettle u v).mod = s.mod
      ∧ (s.endSettle u v).map = s.map ∧ (s.endSettle u v).profiles = s.profiles ∧ (s.endSettle u v).rcc = s.rcc
      ∧ (s.endSettle u v).dir = s.dir ∧ (s.endSettle u v).screens = s.screens
      ∧ (s.endSettle u v).panels = s.panels ∧ (s.endSettle u v).pending = s.pending
      ∧ (s.endSettle u v).rco.job = s.rco.job := by
  unfold State.endSettle
  split
  · simp
  · split
    · simp
    · split <;> simp

/-- An idle unit that is given nothing stays as it was; a unit that is not IDLE is never given an entry. -/
theorem State.giveUnit_get (u v : Fin 2) (h : s.search.units[v.val].state ≠ .idle) :
    (s.giveUnit u).search.units[v.val] = s.search.units[v.val] := by
  unfold State.giveUnit
  split
  · rename_i g
    split
    · rfl
    · simp only [State.onUnit_get]
      split
      · subst_vars; exact absurd g.2 h
      · rfl
  · rfl

/-- A unit that is not IDLE is left alone when the units are offered entries. -/
theorem State.giveUnits_get (v : Fin 2) (h : s.search.units[v.val].state ≠ .idle) :
    s.giveUnits.search.units[v.val] = s.search.units[v.val] := by
  unfold State.giveUnits
  rw [State.giveUnit_get _ 1 v (by rw [State.giveUnit_get s 0 v h]; exact h), State.giveUnit_get s 0 v h]

/-- Outside SERVICE no unit takes an entry (04 R56). -/
theorem State.giveUnit_outside (u : Fin 2) (h : s.mod.mode ≠ .service) : s.giveUnit u = s := by
  simp [State.giveUnit, h]

/-- Outside SERVICE no unit takes an entry (04 R56). -/
theorem State.giveUnits_outside (h : s.mod.mode ≠ .service) : s.giveUnits = s := by
  simp [State.giveUnits, State.giveUnit_outside, h]

/-- Taking the oldest WAITING entry changes no key, no requester and no order of the queue. -/
theorem takeOldest_keys {u : Fin 2} {q : List SearchEntry} {k : Key} {r : List SearchEntry}
    (h : takeOldest u q = some (k, r)) :
    r.map (·.key) = q.map (·.key) ∧ r.map (·.requesters) = q.map (·.requesters) ∧ k ∈ q.map (·.key) := by
  induction q generalizing r with
  | nil => simp [takeOldest] at h
  | cons e es ih =>
    unfold takeOldest at h
    split at h
    · simp only [Option.some.injEq, Prod.mk.injEq] at h
      obtain ⟨rfl, rfl⟩ := h
      simp
    · cases ht : takeOldest u es with
      | none => simp [ht] at h
      | some w =>
        obtain ⟨k', r'⟩ := w
        simp only [ht, Option.map_some, Option.some.injEq, Prod.mk.injEq] at h
        obtain ⟨rfl, rfl⟩ := h
        obtain ⟨a, b, c⟩ := ih ht
        simp [a, b, c]

/-- A join keeps the keys of the queue and adds its own at the young end when no entry has it (04 R55). -/
theorem joinQueue_keys (k : Key) (ref : Ref) (q : List SearchEntry) :
    (joinQueue k ref q).map (·.key) = if k ∈ q.map (·.key) then q.map (·.key) else q.map (·.key) ++ [k] := by
  induction q with
  | nil => simp [joinQueue]
  | cons e es ih =>
    unfold joinQueue
    by_cases h : e.key = k
    · simp [h]
    · have hk : ¬ k = e.key := fun x => h x.symm
      simp only [h, if_false, List.map_cons, ih, List.mem_cons, hk, false_or]
      split <;> simp

/-! ## The composer -/

/-- Taking places changes the link, the screens, the search block and the composer alone. -/
@[simp] theorem State.takePlaces_keeps (l : List (Fin 2)) :
    (s.takePlaces l).resetLow = s.resetLow ∧ (s.takePlaces l).mod = s.mod ∧ (s.takePlaces l).map = s.map
      ∧ (s.takePlaces l).profiles = s.profiles ∧ (s.takePlaces l).rcc = s.rcc ∧ (s.takePlaces l).dir = s.dir
      ∧ (s.takePlaces l).panels = s.panels ∧ (s.takePlaces l).pending = s.pending := by
  induction l generalizing s with
  | nil => simp [State.takePlaces]
  | cons u us ih =>
    unfold State.takePlaces
    split
    · simp
    · simp only
      split
      · simp [ih]
      · split <;> simp [ih]

/-- Serving the composer changes the link, the screens, the search block and the composer alone. -/
@[simp] theorem State.serveComposer_keeps :
    (s.serveComposer).resetLow = s.resetLow ∧ (s.serveComposer).mod = s.mod ∧ (s.serveComposer).map = s.map
      ∧ (s.serveComposer).profiles = s.profiles ∧ (s.serveComposer).rcc = s.rcc ∧ (s.serveComposer).dir = s.dir
      ∧ (s.serveComposer).panels = s.panels ∧ (s.serveComposer).pending = s.pending := by
  simp [State.serveComposer]

/-- With a job in hand the composer takes nothing. -/
theorem State.takePlaces_busy (l : List (Fin 2)) (j : Job) (h : s.rco.job = some j) :
    s.takePlaces l = { s with rco := { s.rco with queue := l } } := by
  cases l with
  | nil => rfl
  | cons u us => simp only [State.takePlaces, h]

/-! ## The directory -/

/-- Taking queries changes the link, the screens and the directory's queue and scan alone. -/
@[simp] theorem State.takeQueries_keeps (l : List Query) :
    (s.takeQueries l).resetLow = s.resetLow ∧ (s.takeQueries l).mod = s.mod ∧ (s.takeQueries l).map = s.map
      ∧ (s.takeQueries l).profiles = s.profiles ∧ (s.takeQueries l).search = s.search
      ∧ (s.takeQueries l).rco = s.rco ∧ (s.takeQueries l).rcc = s.rcc ∧ (s.takeQueries l).panels = s.panels
      ∧ (s.takeQueries l).pending = s.pending ∧ (s.takeQueries l).dir.listings = s.dir.listings := by
  induction l generalizing s with
  | nil => simp [State.takeQueries]
  | cons q qs ih =>
    unfold State.takeQueries
    split
    · simp
    · simp only
      split <;> simp [ih]

/-- Serving the directory changes the link, the screens and the directory's queue and scan alone. -/
@[simp] theorem State.serveDirectory_keeps :
    (s.serveDirectory).resetLow = s.resetLow ∧ (s.serveDirectory).mod = s.mod ∧ (s.serveDirectory).map = s.map
      ∧ (s.serveDirectory).profiles = s.profiles ∧ (s.serveDirectory).search = s.search
      ∧ (s.serveDirectory).rco = s.rco ∧ (s.serveDirectory).rcc = s.rcc ∧ (s.serveDirectory).panels = s.panels
      ∧ (s.serveDirectory).pending = s.pending ∧ (s.serveDirectory).dir.listings = s.dir.listings := by
  simp [State.serveDirectory]

/-- An examination changes the link, the screens and the directory's queue and scan alone. -/
@[simp] theorem State.examineListing_keeps :
    (s.examineListing).resetLow = s.resetLow ∧ (s.examineListing).mod = s.mod ∧ (s.examineListing).map = s.map
      ∧ (s.examineListing).profiles = s.profiles ∧ (s.examineListing).search = s.search
      ∧ (s.examineListing).rco = s.rco ∧ (s.examineListing).rcc = s.rcc ∧ (s.examineListing).panels = s.panels
      ∧ (s.examineListing).pending = s.pending ∧ (s.examineListing).dir.listings = s.dir.listings := by
  unfold State.examineListing
  split
  · simp
  · simp only
    split
    · simp
    · split <;> simp

/-- With a scan in hand the directory takes nothing. -/
theorem State.takeQueries_busy (l : List Query) (c : Scan) (h : s.dir.scan = some c) :
    s.takeQueries l = { s with dir := { s.dir with queue := l } } := by
  cases l with
  | nil => rfl
  | cons q qs => simp only [State.takeQueries, h]

/-! ## What the engines take, and the engine rows -/

/-- Serving the engines changes the link, the screens, the search block, the composer and the directory's queue
and scan alone. -/
@[simp] theorem State.serve_keeps :
    (s.serve).resetLow = s.resetLow ∧ (s.serve).mod = s.mod ∧ (s.serve).map = s.map
      ∧ (s.serve).profiles = s.profiles ∧ (s.serve).rcc = s.rcc ∧ (s.serve).panels = s.panels
      ∧ (s.serve).pending = s.pending ∧ (s.serve).dir.listings = s.dir.listings := by
  simp [State.serve]

/-- Answering a MODE_SET FROZEN changes the link and its own mark alone. -/
@[simp] theorem State.answerFreezing_keeps :
    (s.answerFreezing).resetLow = s.resetLow ∧ (s.answerFreezing).map = s.map
      ∧ (s.answerFreezing).profiles = s.profiles ∧ (s.answerFreezing).search = s.search
      ∧ (s.answerFreezing).rco = s.rco ∧ (s.answerFreezing).rcc = s.rcc ∧ (s.answerFreezing).dir = s.dir
      ∧ (s.answerFreezing).screens = s.screens ∧ (s.answerFreezing).panels = s.panels
      ∧ (s.answerFreezing).pending = s.pending ∧ s.answerFreezing.mod.mode = s.mod.mode
      ∧ s.answerFreezing.mod.commit = s.mod.commit ∧ s.answerFreezing.mod.label = s.mod.label
      ∧ s.answerFreezing.mod.resetAsked = s.mod.resetAsked := by
  unfold State.answerFreezing
  split
  · simp
  · split <;> simp

/-- An offer changes the route cache alone. -/
@[simp] theorem State.offer_keeps (g : Option (BitVec 16)) (r : ComposedRoute) (l : List Nat) :
    (s.offer g r l).resetLow = s.resetLow ∧ (s.offer g r l).link = s.link ∧ (s.offer g r l).mod = s.mod
      ∧ (s.offer g r l).map = s.map ∧ (s.offer g r l).profiles = s.profiles ∧ (s.offer g r l).search = s.search
      ∧ (s.offer g r l).rco = s.rco ∧ (s.offer g r l).dir = s.dir ∧ (s.offer g r l).screens = s.screens
      ∧ (s.offer g r l).panels = s.panels ∧ (s.offer g r l).pending = s.pending := by
  unfold State.offer
  split <;> simp

/-- The end of composition changes the composer's job and the route cache alone. -/
@[simp] theorem State.endComposition_keeps :
    (s.endComposition).resetLow = s.resetLow ∧ (s.endComposition).link = s.link ∧ (s.endComposition).mod = s.mod
      ∧ (s.endComposition).map = s.map ∧ (s.endComposition).profiles = s.profiles
      ∧ (s.endComposition).search = s.search ∧ (s.endComposition).dir = s.dir
      ∧ (s.endComposition).screens = s.screens ∧ (s.endComposition).panels = s.panels
      ∧ (s.endComposition).pending = s.pending := by
  unfold State.endComposition
  split
  · simp
  · split
    · simp
    · simp only
      split <;> simp

/-- A finalisation changes the link, the screens, the search block, the composer and the directory's queue and
scan alone. -/
@[simp] theorem State.finaliseNext_keeps :
    (s.finaliseNext).resetLow = s.resetLow ∧ (s.finaliseNext).mod = s.mod ∧ (s.finaliseNext).map = s.map
      ∧ (s.finaliseNext).profiles = s.profiles ∧ (s.finaliseNext).rcc = s.rcc
      ∧ (s.finaliseNext).panels = s.panels ∧ (s.finaliseNext).pending = s.pending
      ∧ (s.finaliseNext).dir.listings = s.dir.listings := by
  unfold State.finaliseNext
  split
  · simp
  · split
    · simp
    · split
      · simp
      · simp only
        split <;> simp

/-! ## Detachment -/

/-- Dropping a unit's search changes the search block and the composer queue alone. -/
@[simp] theorem State.dropUnit_keeps (u : Fin 2) :
    (s.dropUnit u).resetLow = s.resetLow ∧ (s.dropUnit u).link = s.link ∧ (s.dropUnit u).mod = s.mod
      ∧ (s.dropUnit u).map = s.map ∧ (s.dropUnit u).profiles = s.profiles ∧ (s.dropUnit u).rcc = s.rcc
      ∧ (s.dropUnit u).dir = s.dir ∧ (s.dropUnit u).screens = s.screens ∧ (s.dropUnit u).panels = s.panels
      ∧ (s.dropUnit u).pending = s.pending ∧ (s.dropUnit u).rco.job = s.rco.job
      ∧ (s.dropUnit u).search.queue = s.search.queue := by
  unfold State.dropUnit
  split <;> simp

/-- Dropping several units' searches changes the units and the composer queue alone. -/
@[simp] theorem State.dropUnits_keeps (us : List (Fin 2)) :
    (us.foldl State.dropUnit s).resetLow = s.resetLow ∧ (us.foldl State.dropUnit s).link = s.link
      ∧ (us.foldl State.dropUnit s).mod = s.mod ∧ (us.foldl State.dropUnit s).map = s.map
      ∧ (us.foldl State.dropUnit s).profiles = s.profiles ∧ (us.foldl State.dropUnit s).rcc = s.rcc
      ∧ (us.foldl State.dropUnit s).dir = s.dir ∧ (us.foldl State.dropUnit s).screens = s.screens
      ∧ (us.foldl State.dropUnit s).panels = s.panels ∧ (us.foldl State.dropUnit s).pending = s.pending
      ∧ (us.foldl State.dropUnit s).rco.job = s.rco.job
      ∧ (us.foldl State.dropUnit s).search.queue = s.search.queue := by
  induction us generalizing s with
  | nil => simp
  | cons u us ih => simp [ih]

/-- A detachment from the search queue changes the search block and the composer queue alone. -/
@[simp] theorem State.detachSearch_keeps (refs : List Ref) :
    (s.detachSearch refs).resetLow = s.resetLow ∧ (s.detachSearch refs).link = s.link
      ∧ (s.detachSearch refs).mod = s.mod ∧ (s.detachSearch refs).map = s.map
      ∧ (s.detachSearch refs).profiles = s.profiles ∧ (s.detachSearch refs).rcc = s.rcc
      ∧ (s.detachSearch refs).dir = s.dir ∧ (s.detachSearch refs).screens = s.screens
      ∧ (s.detachSearch refs).panels = s.panels ∧ (s.detachSearch refs).pending = s.pending
      ∧ (s.detachSearch refs).rco.job = s.rco.job := by
  simp [State.detachSearch]

/-- A detachment from the job changes the composer alone. -/
@[simp] theorem State.detachJob_keeps (refs : List Ref) :
    (s.detachJob refs).resetLow = s.resetLow ∧ (s.detachJob refs).link = s.link ∧ (s.detachJob refs).mod = s.mod
      ∧ (s.detachJob refs).map = s.map ∧ (s.detachJob refs).profiles = s.profiles
      ∧ (s.detachJob refs).search = s.search ∧ (s.detachJob refs).rcc = s.rcc ∧ (s.detachJob refs).dir = s.dir
      ∧ (s.detachJob refs).screens = s.screens ∧ (s.detachJob refs).panels = s.panels
      ∧ (s.detachJob refs).pending = s.pending ∧ (s.detachJob refs).rco.queue = s.rco.queue := by
  unfold State.detachJob
  split <;> simp

/-- A detachment from the directory changes its queue and scan alone. -/
@[simp] theorem State.detachQueries_keeps (refs : List Ref) :
    (s.detachQueries refs).resetLow = s.resetLow ∧ (s.detachQueries refs).link = s.link
      ∧ (s.detachQueries refs).mod = s.mod ∧ (s.detachQueries refs).map = s.map
      ∧ (s.detachQueries refs).profiles = s.profiles ∧ (s.detachQueries refs).search = s.search
      ∧ (s.detachQueries refs).rco = s.rco ∧ (s.detachQueries refs).rcc = s.rcc
      ∧ (s.detachQueries refs).screens = s.screens ∧ (s.detachQueries refs).panels = s.panels
      ∧ (s.detachQueries refs).pending = s.pending ∧ (s.detachQueries refs).dir.listings = s.dir.listings := by
  simp [State.detachQueries]

/-- A detachment changes the search block, the composer and the directory's queue and scan alone. -/
@[simp] theorem State.detach_keeps (refs : List Ref) :
    (s.detach refs).resetLow = s.resetLow ∧ (s.detach refs).link = s.link ∧ (s.detach refs).mod = s.mod
      ∧ (s.detach refs).map = s.map ∧ (s.detach refs).profiles = s.profiles ∧ (s.detach refs).rcc = s.rcc
      ∧ (s.detach refs).screens = s.screens ∧ (s.detach refs).panels = s.panels
      ∧ (s.detach refs).pending = s.pending ∧ (s.detach refs).dir.listings = s.dir.listings := by
  simp [State.detach]

/-! ## The end of all work -/

/-- The abort of the searches changes the link, the screens, the search block and the composer queue alone. -/
@[simp] theorem State.abortSearch_keeps :
    (s.abortSearch).resetLow = s.resetLow ∧ (s.abortSearch).mod = s.mod ∧ (s.abortSearch).map = s.map
      ∧ (s.abortSearch).profiles = s.profiles ∧ (s.abortSearch).rcc = s.rcc ∧ (s.abortSearch).dir = s.dir
      ∧ (s.abortSearch).panels = s.panels ∧ (s.abortSearch).pending = s.pending
      ∧ s.abortSearch.rco.job = s.rco.job := by
  simp [State.abortSearch]

/-- The abort of the job changes the link, the screens and the composer alone. -/
@[simp] theorem State.abortJob_keeps :
    (s.abortJob).resetLow = s.resetLow ∧ (s.abortJob).mod = s.mod ∧ (s.abortJob).map = s.map
      ∧ (s.abortJob).profiles = s.profiles ∧ (s.abortJob).search = s.search ∧ (s.abortJob).rcc = s.rcc
      ∧ (s.abortJob).dir = s.dir ∧ (s.abortJob).panels = s.panels ∧ (s.abortJob).pending = s.pending := by
  unfold State.abortJob
  split <;> simp

/-- The abort of the directory's work changes the link, the screens and its queue and scan alone. -/
@[simp] theorem State.abortDirectory_keeps :
    (s.abortDirectory).resetLow = s.resetLow ∧ (s.abortDirectory).mod = s.mod ∧ (s.abortDirectory).map = s.map
      ∧ (s.abortDirectory).profiles = s.profiles ∧ (s.abortDirectory).search = s.search
      ∧ (s.abortDirectory).rco = s.rco ∧ (s.abortDirectory).rcc = s.rcc ∧ (s.abortDirectory).panels = s.panels
      ∧ (s.abortDirectory).pending = s.pending ∧ (s.abortDirectory).dir.listings = s.dir.listings := by
  simp [State.abortDirectory]

/-- The abort of all work leaves mode control, the map, the profiles, the listings and the panels. -/
@[simp] theorem State.abortWork_keeps :
    (s.abortWork).resetLow = s.resetLow ∧ (s.abortWork).mod = s.mod ∧ (s.abortWork).map = s.map
      ∧ (s.abortWork).profiles = s.profiles ∧ (s.abortWork).panels = s.panels
      ∧ (s.abortWork).pending = s.pending ∧ (s.abortWork).dir.listings = s.dir.listings := by
  simp [State.abortWork]

/-- After the abort of all work nothing is held by the search block, the composer, the cache or the directory
(02 R25). -/
theorem State.abortWork_empties :
    s.abortWork.search = { queue := [], units := .replicate 2 .idle } ∧ s.abortWork.rco = { queue := [], job := none }
      ∧ s.abortWork.rcc = s.rcc.flush ∧ s.abortWork.dir = { s.dir with queue := [], scan := none } := by
  refine ⟨?_, ?_, ?_, ?_⟩
  · simp [State.abortWork, State.abortSearch]
  · simp only [State.abortWork, State.abortDirectory_keeps, State.flushCache_fields]
    unfold State.abortJob
    split
    · rename_i h
      have hj : s.abortSearch.rco.job = none := h
      have hq : s.abortSearch.rco.queue = [] := by simp [State.abortSearch]
      cases hr : s.abortSearch.rco
      simp_all
    · have hq : s.abortSearch.rco.queue = [] := by simp [State.abortSearch]
      simp [State.withJob, hq]
  · simp [State.abortWork]
  · simp [State.abortWork, State.abortDirectory]

/-- A flush leaves no entry valid, every hand at 0, and no segment to sweep for (06 R113). -/
theorem CacheState.flush_at (c : CacheState) (e : Fin 512) :
    (c.flush.at e).valid = false ∧ (c.flush.at e).referenced = false := by
  simp [CacheState.flush, CacheState.at, CacheEntry.invalidate]

end Sys2Proof.Machine
end

