-- ==== Sys2Proof/Laws/Sessions.lean ====
section
/-! SUPPORT. The screen sessions: what requests, cancellations, expiries and hotspot actions leave unchanged. -/

namespace Sys2Proof.Machine

variable (s : State)

/-- Dispatch of a route request changes the screens, the route cache and the search queue alone. -/
@[simp] theorem State.dispatchRoute_keeps (ref : Ref) (k : Key) (x : Bool) :
    (s.dispatchRoute ref k x).resetLow = s.resetLow ∧ (s.dispatchRoute ref k x).link = s.link
      ∧ (s.dispatchRoute ref k x).mod = s.mod ∧ (s.dispatchRoute ref k x).map = s.map
      ∧ (s.dispatchRoute ref k x).profiles = s.profiles ∧ (s.dispatchRoute ref k x).rco = s.rco
      ∧ (s.dispatchRoute ref k x).dir = s.dir ∧ (s.dispatchRoute ref k x).panels = s.panels
      ∧ (s.dispatchRoute ref k x).pending = s.pending := by
  unfold State.dispatchRoute
  split
  · simp
  · simp only
    split <;> simp

/-- Dispatch of a query changes the screens and the query queue alone. -/
@[simp] theorem State.dispatchQuery_keeps (q : Query) :
    (s.dispatchQuery q).resetLow = s.resetLow ∧ (s.dispatchQuery q).link = s.link
      ∧ (s.dispatchQuery q).mod = s.mod ∧ (s.dispatchQuery q).map = s.map
      ∧ (s.dispatchQuery q).profiles = s.profiles ∧ (s.dispatchQuery q).search = s.search
      ∧ (s.dispatchQuery q).rco = s.rco ∧ (s.dispatchQuery q).rcc = s.rcc
      ∧ (s.dispatchQuery q).panels = s.panels ∧ (s.dispatchQuery q).pending = s.pending
      ∧ (s.dispatchQuery q).dir.listings = s.dir.listings := by
  unfold State.dispatchQuery
  split <;> simp

/-- A joined route request leaves mode control, the map, the profiles, the listings and the panels. -/
@[simp] theorem State.joinRoute_keeps (i : Fin 4) (tag : Byte) (k : Key) (x : Bool) :
    (s.joinRoute i tag k x).resetLow = s.resetLow ∧ (s.joinRoute i tag k x).mod = s.mod
      ∧ (s.joinRoute i tag k x).map = s.map ∧ (s.joinRoute i tag k x).profiles = s.profiles
      ∧ (s.joinRoute i tag k x).panels = s.panels ∧ (s.joinRoute i tag k x).pending = s.pending
      ∧ (s.joinRoute i tag k x).dir.listings = s.dir.listings := by
  simp [State.joinRoute]

/-- A ROUTE_ASK leaves mode control, the map, the profiles, the listings and the panels. -/
@[simp] theorem State.askRoute_keeps (i : Fin 4) (tag : Byte) (p : List Byte) :
    (s.askRoute i tag p).resetLow = s.resetLow ∧ (s.askRoute i tag p).mod = s.mod
      ∧ (s.askRoute i tag p).map = s.map ∧ (s.askRoute i tag p).profiles = s.profiles
      ∧ (s.askRoute i tag p).panels = s.panels ∧ (s.askRoute i tag p).pending = s.pending
      ∧ (s.askRoute i tag p).dir.listings = s.dir.listings := by
  unfold State.askRoute
  simp only
  split
  · simp
  · split
    · simp
    · split
      · simp
      · split
        · simp
        · split <;> simp

/-- A DIRECTORY_ASK leaves mode control, the map, the profiles, the cache, the listings and the panels. -/
@[simp] theorem State.askDirectory_keeps (i : Fin 4) (tag : Byte) (p : List Byte) :
    (s.askDirectory i tag p).resetLow = s.resetLow ∧ (s.askDirectory i tag p).mod = s.mod
      ∧ (s.askDirectory i tag p).map = s.map ∧ (s.askDirectory i tag p).profiles = s.profiles
      ∧ (s.askDirectory i tag p).rcc = s.rcc ∧ (s.askDirectory i tag p).panels = s.panels
      ∧ (s.askDirectory i tag p).pending = s.pending ∧ (s.askDirectory i tag p).dir.listings = s.dir.listings := by
  unfold State.askDirectory
  simp only
  split
  · simp
  · split
    · simp
    · split
      · simp
      · split <;> simp

/-- A cancellation leaves mode control, the map, the profiles, the cache, the listings and the panels. -/
@[simp] theorem State.cancelEntries_keeps (i : Fin 4) (b : Bool) :
    (s.cancelEntries i b).resetLow = s.resetLow ∧ (s.cancelEntries i b).mod = s.mod
      ∧ (s.cancelEntries i b).map = s.map ∧ (s.cancelEntries i b).profiles = s.profiles
      ∧ (s.cancelEntries i b).rcc = s.rcc ∧ (s.cancelEntries i b).panels = s.panels
      ∧ (s.cancelEntries i b).pending = s.pending ∧ (s.cancelEntries i b).dir.listings = s.dir.listings := by
  simp [State.cancelEntries]

/-- An expiry leaves mode control, the map, the profiles, the cache, the listings and the panels. -/
@[simp] theorem State.expire_keeps (i : Fin 4) :
    (s.expire i).resetLow = s.resetLow ∧ (s.expire i).mod = s.mod ∧ (s.expire i).map = s.map
      ∧ (s.expire i).profiles = s.profiles ∧ (s.expire i).rcc = s.rcc ∧ (s.expire i).panels = s.panels
      ∧ (s.expire i).pending = s.pending ∧ (s.expire i).dir.listings = s.dir.listings := by
  simp [State.expire]

/-- A SCREEN_SET leaves mode control, the map, the profiles, the cache, the listings and the panels. -/
@[simp] theorem State.configureScreen_keeps (i : Fin 4) (p : List Byte) :
    (s.configureScreen i p).resetLow = s.resetLow ∧ (s.configureScreen i p).mod = s.mod
      ∧ (s.configureScreen i p).map = s.map ∧ (s.configureScreen i p).profiles = s.profiles
      ∧ (s.configureScreen i p).rcc = s.rcc ∧ (s.configureScreen i p).panels = s.panels
      ∧ (s.configureScreen i p).pending = s.pending ∧ (s.configureScreen i p).dir.listings = s.dir.listings := by
  unfold State.configureScreen
  simp only
  split
  · simp
  · split <;> simp

/-- A panel-originated entry changes the link's reservations and the screens alone. -/
@[simp] theorem State.createPanelEntry_keeps (i : Fin 4) (a : Ask) :
    (s.createPanelEntry i a).resetLow = s.resetLow ∧ (s.createPanelEntry i a).mod = s.mod
      ∧ (s.createPanelEntry i a).map = s.map ∧ (s.createPanelEntry i a).profiles = s.profiles
      ∧ (s.createPanelEntry i a).search = s.search ∧ (s.createPanelEntry i a).rco = s.rco
      ∧ (s.createPanelEntry i a).rcc = s.rcc ∧ (s.createPanelEntry i a).dir = s.dir
      ∧ (s.createPanelEntry i a).panels = s.panels ∧ (s.createPanelEntry i a).pending = s.pending := by
  simp [State.createPanelEntry]

/-- A panel route request leaves mode control, the map, the profiles, the directory and the panels. -/
@[simp] theorem State.panelRoute_keeps (i : Fin 4) (d : DestKind) (n : BitVec 16) :
    ((s.panelRoute i d n).state).resetLow = s.resetLow ∧ ((s.panelRoute i d n).state).mod = s.mod
      ∧ ((s.panelRoute i d n).state).map = s.map ∧ ((s.panelRoute i d n).state).profiles = s.profiles
      ∧ ((s.panelRoute i d n).state).panels = s.panels ∧ ((s.panelRoute i d n).state).pending = s.pending
      ∧ (s.panelRoute i d n).state.dir = s.dir := by
  unfold State.panelRoute State.panelRequest
  simp only
  split
  · simp [plainOutcome]
  · split
    · simp
    · simp only [plainOutcome]
      split <;> simp

/-- A panel query leaves mode control, the map, the profiles, the cache, the listings and the panels. -/
@[simp] theorem State.panelQuery_keeps (i : Fin 4) :
    ((s.panelQuery i).state).resetLow = s.resetLow ∧ ((s.panelQuery i).state).mod = s.mod
      ∧ ((s.panelQuery i).state).map = s.map ∧ ((s.panelQuery i).state).profiles = s.profiles
      ∧ ((s.panelQuery i).state).panels = s.panels ∧ ((s.panelQuery i).state).pending = s.pending
      ∧ (s.panelQuery i).state.rcc = s.rcc ∧ (s.panelQuery i).state.dir.listings = s.dir.listings := by
  unfold State.panelQuery State.panelRequest
  simp only
  split
  · simp [plainOutcome]
  · split
    · simp
    · simp [plainOutcome]

/-- A text edit leaves mode control, the map, the profiles, the cache, the listings and the panels. -/
@[simp] theorem State.editText_keeps (i : Fin 4) (l : List Byte) :
    ((s.editText i l).state).resetLow = s.resetLow ∧ ((s.editText i l).state).mod = s.mod
      ∧ ((s.editText i l).state).map = s.map ∧ ((s.editText i l).state).profiles = s.profiles
      ∧ ((s.editText i l).state).panels = s.panels ∧ ((s.editText i l).state).pending = s.pending
      ∧ (s.editText i l).state.rcc = s.rcc ∧ (s.editText i l).state.dir.listings = s.dir.listings := by
  simp [State.editText]

/-- A term edit leaves mode control, the map, the profiles, the cache, the listings and the panels. -/
@[simp] theorem State.editTerm_keeps (i : Fin 4) (n : Byte) (t : Option Term) :
    ((s.editTerm i n t).state).resetLow = s.resetLow ∧ ((s.editTerm i n t).state).mod = s.mod
      ∧ ((s.editTerm i n t).state).map = s.map ∧ ((s.editTerm i n t).state).profiles = s.profiles
      ∧ ((s.editTerm i n t).state).panels = s.panels ∧ ((s.editTerm i n t).state).pending = s.pending
      ∧ (s.editTerm i n t).state.rcc = s.rcc ∧ (s.editTerm i n t).state.dir.listings = s.dir.listings := by
  unfold State.editTerm
  split
  · simp [plainOutcome]
  · split
    · simp [plainOutcome]
    · simp

/-- An action leaves mode control, the map, the profiles, the listings and the panels. -/
@[simp] theorem State.doAction_keeps (i : Fin 4) (a : Action) :
    ((s.doAction i a).state).resetLow = s.resetLow ∧ ((s.doAction i a).state).mod = s.mod
      ∧ ((s.doAction i a).state).map = s.map ∧ ((s.doAction i a).state).profiles = s.profiles
      ∧ ((s.doAction i a).state).panels = s.panels ∧ ((s.doAction i a).state).pending = s.pending
      ∧ (s.doAction i a).state.dir.listings = s.dir.listings := by
  unfold State.doAction
  cases a <;> simp only
  case plain => simp [plainOutcome]
  case listing => simp
  case waypoint => simp
  case key =>
    split
    · simp [plainOutcome]
    · split <;> simp
  case backspace => split <;> simp [plainOutcome]
  case clearText => split <;> simp [plainOutcome]
  case filter => simp
  case unfilter => simp
  case cancel => simp [plainOutcome]

/-- A selection's action leaves mode control, the map, the profiles, the listings and the panels. -/
@[simp] theorem State.carryOut_keeps (i : Fin 4) (a : Action) :
    ((s.carryOut i a).state).resetLow = s.resetLow ∧ ((s.carryOut i a).state).mod = s.mod
      ∧ ((s.carryOut i a).state).map = s.map ∧ ((s.carryOut i a).state).profiles = s.profiles
      ∧ ((s.carryOut i a).state).panels = s.panels ∧ ((s.carryOut i a).state).pending = s.pending
      ∧ (s.carryOut i a).state.dir.listings = s.dir.listings := by
  unfold State.carryOut
  split <;> simp [plainOutcome]

/-- A selection leaves mode control, the map, the profiles, the listings and the panels. -/
@[simp] theorem State.select_keeps (i : Fin 4) (h : Nat) (n : Byte) (a : Action) :
    (s.select i h n a).resetLow = s.resetLow ∧ (s.select i h n a).mod = s.mod ∧ (s.select i h n a).map = s.map
      ∧ (s.select i h n a).profiles = s.profiles ∧ (s.select i h n a).panels = s.panels
      ∧ (s.select i h n a).pending = s.pending ∧ (s.select i h n a).dir.listings = s.dir.listings := by
  simp [State.select]

/-- A touched session keeps its configuration, its list and its text. -/
theorem Screen.touch_keeps (c : Screen) :
    c.touch.enabled = c.enabled ∧ c.touch.origin = c.origin ∧ c.touch.heading = c.heading
      ∧ c.touch.profile = c.profile ∧ c.touch.width = c.width ∧ c.touch.height = c.height
      ∧ c.touch.timeout = c.timeout ∧ c.touch.text = c.text ∧ c.touch.terms = c.terms
      ∧ c.touch.outstanding = c.outstanding ∧ c.touch.seq = c.seq ∧ c.touch.released = c.released
      ∧ c.touch.nextId = c.nextId := by
  unfold Screen.touch
  split <;> simp

/-- A lookup changes only flags of the cache: no key, no place, no route and no sweep. -/
theorem CacheState.lookup_cases (c : CacheState) (g : BitVec 16) (k : Key) :
    (c.find k = none ∧ c.lookup g k = (c, none))
      ∨ (∃ e, c.find k = some e ∧ c.usable g (c.at e) = true
          ∧ c.lookup g k = (c.onEntry e fun x => { x with referenced := true }, some (c.at e).route))
      ∨ (∃ e, c.find k = some e ∧ c.usable g (c.at e) = false ∧ c.lookup g k = (c.onEntry e CacheEntry.invalidate, none)) := by
  unfold CacheState.lookup
  cases hf : c.find k with
  | none => exact .inl ⟨rfl, rfl⟩
  | some e =>
    cases hu : c.usable g (c.at e) with
    | true => exact .inr (.inl ⟨e, rfl, hu, by simp [hu]⟩)
    | false => exact .inr (.inr ⟨e, rfl, hu, by simp [hu]⟩)

/-- A match is a valid entry with the key, in the primary group with alternate 0 or in the secondary with
alternate 1 (06 R103). -/
theorem CacheState.find_some {c : CacheState} {k : Key} {e : Fin 512} (h : c.find k = some e) :
    (c.at e).valid = true ∧ (c.at e).route.key = k
      ∧ ((e ∈ groupEntries (primaryGroup k) ∧ (c.at e).alternate = false)
        ∨ (e ∈ groupEntries (secondaryGroup k) ∧ (c.at e).alternate = true)) := by
  unfold CacheState.find at h
  cases hp : (groupEntries (primaryGroup k)).find? (c.holds k false) with
  | some d =>
    simp only [hp, Option.some.injEq] at h
    subst h
    have a := List.find?_some hp
    have b := List.mem_of_find?_eq_some hp
    simp only [CacheState.holds, Bool.and_eq_true, beq_iff_eq, decide_eq_true_eq] at a
    exact ⟨a.1.1, a.2, .inl ⟨b, a.1.2⟩⟩
  | none =>
    simp only [hp] at h
    have a := List.find?_some h
    have b := List.mem_of_find?_eq_some h
    simp only [CacheState.holds, Bool.and_eq_true, beq_iff_eq, decide_eq_true_eq] at a
    exact ⟨a.1.1, a.2, .inr ⟨b, a.1.2⟩⟩

end Sys2Proof.Machine
end

