-- ==== Sys2Proof/Laws/Touch.lean ====
section
/-! SUPPORT. The touch panel front end: what frames, tracks, captures and configurations leave unchanged. -/

namespace Sys2Proof.Machine

variable (s : State)

/-- A CONTACT report changes the link alone. -/
@[simp] theorem State.reportContact_keeps (p : Fin 4) (t : Nat) (k : ContactKind) (c : Bool) (x : Nat × Nat) :
    (s.reportContact p t k c x).resetLow = s.resetLow ∧ (s.reportContact p t k c x).mod = s.mod
      ∧ (s.reportContact p t k c x).map = s.map ∧ (s.reportContact p t k c x).profiles = s.profiles
      ∧ (s.reportContact p t k c x).search = s.search ∧ (s.reportContact p t k c x).rco = s.rco
      ∧ (s.reportContact p t k c x).rcc = s.rcc ∧ (s.reportContact p t k c x).dir = s.dir
      ∧ (s.reportContact p t k c x).screens = s.screens ∧ (s.reportContact p t k c x).panels = s.panels
      ∧ (s.reportContact p t k c x).pending = s.pending := by
  simp [State.reportContact]

/-- A PANEL_STATE report changes the link alone. -/
@[simp] theorem State.reportPanelState_keeps (p : Fin 4) (m : PanelMode) :
    (s.reportPanelState p m).resetLow = s.resetLow ∧ (s.reportPanelState p m).mod = s.mod
      ∧ (s.reportPanelState p m).map = s.map ∧ (s.reportPanelState p m).profiles = s.profiles
      ∧ (s.reportPanelState p m).search = s.search ∧ (s.reportPanelState p m).rco = s.rco
      ∧ (s.reportPanelState p m).rcc = s.rcc ∧ (s.reportPanelState p m).dir = s.dir
      ∧ (s.reportPanelState p m).screens = s.screens ∧ (s.reportPanelState p m).panels = s.panels
      ∧ (s.reportPanelState p m).pending = s.pending := by
  simp [State.reportPanelState]

/-- An update of a track changes the panels alone. -/
@[simp] theorem State.onTrack_keeps (p : Fin 4) (i : Fin 5) (f : Track → Track) :
    (s.onTrack p i f).resetLow = s.resetLow ∧ (s.onTrack p i f).link = s.link ∧ (s.onTrack p i f).mod = s.mod
      ∧ (s.onTrack p i f).map = s.map ∧ (s.onTrack p i f).profiles = s.profiles
      ∧ (s.onTrack p i f).search = s.search ∧ (s.onTrack p i f).rco = s.rco ∧ (s.onTrack p i f).rcc = s.rcc
      ∧ (s.onTrack p i f).dir = s.dir ∧ (s.onTrack p i f).screens = s.screens
      ∧ (s.onTrack p i f).pending = s.pending := by
  simp [State.onTrack]

/-- A track after one track has been changed. -/
@[simp] theorem State.onTrack_track (p q : Fin 4) (i j : Fin 5) (f : Track → Track) :
    (s.onTrack p i f).track q j = if q = p ∧ j = i then f (s.track p i) else s.track q j := by
  unfold State.onTrack State.track
  simp only [State.onPanel_get]
  by_cases h : q = p
  · subst h
    by_cases k : j = i
    · subst k; simp
    · simp only [if_true, true_and, if_neg k]
      exact Vector.getElem_set_ne i.isLt j.isLt fun e => k (Fin.ext e.symm)
  · simp [h]

/-- An update of a track leaves the rest of its panel. -/
theorem State.onTrack_panel (p q : Fin 4) (i : Fin 5) (f : Track → Track) :
    ∃ ts, (s.onTrack p i f).panels[q.val] = { s.panels[q.val] with tracks := ts } := by
  unfold State.onTrack
  simp only [State.onPanel_get]
  split
  · subst_vars; exact ⟨_, rfl⟩
  · exact ⟨s.panels[q.val].tracks, rfl⟩

/-- A DOWN changes the link, the panels and the screens alone. -/
@[simp] theorem State.goDown_keeps (p : Fin 4) (i : Fin 5) (f : Processing) :
    (s.goDown p i f).resetLow = s.resetLow ∧ (s.goDown p i f).mod = s.mod ∧ (s.goDown p i f).map = s.map
      ∧ (s.goDown p i f).profiles = s.profiles ∧ (s.goDown p i f).search = s.search
      ∧ (s.goDown p i f).rco = s.rco ∧ (s.goDown p i f).rcc = s.rcc ∧ (s.goDown p i f).dir = s.dir
      ∧ (s.goDown p i f).pending = s.pending := by
  simp [State.goDown]

/-- The test of a PENDING track changes the link, the panels and the screens alone. -/
@[simp] theorem State.testPending_keeps (p : Fin 4) (i : Fin 5) (f : Processing) :
    (s.testPending p i f).resetLow = s.resetLow ∧ (s.testPending p i f).mod = s.mod
      ∧ (s.testPending p i f).map = s.map ∧ (s.testPending p i f).profiles = s.profiles
      ∧ (s.testPending p i f).search = s.search ∧ (s.testPending p i f).rco = s.rco
      ∧ (s.testPending p i f).rcc = s.rcc ∧ (s.testPending p i f).dir = s.dir
      ∧ (s.testPending p i f).pending = s.pending := by
  unfold State.testPending
  simp only
  split
  · simp
  · split <;> simp

/-- The test for MOVE changes the link and the panels alone. -/
@[simp] theorem State.testMove_keeps (p : Fin 4) (i : Fin 5) (f : Processing) :
    (s.testMove p i f).resetLow = s.resetLow ∧ (s.testMove p i f).mod = s.mod ∧ (s.testMove p i f).map = s.map
      ∧ (s.testMove p i f).profiles = s.profiles ∧ (s.testMove p i f).search = s.search
      ∧ (s.testMove p i f).rco = s.rco ∧ (s.testMove p i f).rcc = s.rcc ∧ (s.testMove p i f).dir = s.dir
      ∧ (s.testMove p i f).screens = s.screens ∧ (s.testMove p i f).pending = s.pending := by
  unfold State.testMove
  simp only
  split <;> simp

/-- An UP leaves mode control, the map, the profiles and the listings. -/
@[simp] theorem State.goUp_keeps (p : Fin 4) (i : Fin 5) (f : Processing) :
    (s.goUp p i f).resetLow = s.resetLow ∧ (s.goUp p i f).mod = s.mod ∧ (s.goUp p i f).map = s.map
      ∧ (s.goUp p i f).profiles = s.profiles ∧ (s.goUp p i f).pending = s.pending
      ∧ (s.goUp p i f).dir.listings = s.dir.listings := by
  unfold State.goUp
  simp only
  split <;> simp

/-- Bringing a track forward leaves mode control, the map, the profiles and the listings. -/
@[simp] theorem State.advanceTrack_keeps (p : Fin 4) (f : Processing) (i : Fin 5) (c : Claim) :
    (s.advanceTrack p f i c).resetLow = s.resetLow ∧ (s.advanceTrack p f i c).mod = s.mod
      ∧ (s.advanceTrack p f i c).map = s.map ∧ (s.advanceTrack p f i c).profiles = s.profiles
      ∧ (s.advanceTrack p f i c).pending = s.pending ∧ (s.advanceTrack p f i c).dir.listings = s.dir.listings := by
  unfold State.advanceTrack
  split <;> try simp
  split <;> simp

/-- Bringing tracks forward leaves mode control, the map, the profiles and the listings. -/
@[simp] theorem State.advanceFold_keeps (p : Fin 4) (f : Processing) (l : List (Fin 5 × Claim)) :
    (l.foldl (fun s x => s.advanceTrack p f x.1 x.2) s).resetLow = s.resetLow
      ∧ (l.foldl (fun s x => s.advanceTrack p f x.1 x.2) s).mod = s.mod
      ∧ (l.foldl (fun s x => s.advanceTrack p f x.1 x.2) s).map = s.map
      ∧ (l.foldl (fun s x => s.advanceTrack p f x.1 x.2) s).profiles = s.profiles
      ∧ (l.foldl (fun s x => s.advanceTrack p f x.1 x.2) s).pending = s.pending
      ∧ (l.foldl (fun s x => s.advanceTrack p f x.1 x.2) s).dir.listings = s.dir.listings := by
  induction l generalizing s with
  | nil => simp
  | cons x l ih => simp [ih]

/-- Bringing all tracks forward leaves mode control, the map, the profiles and the listings. -/
@[simp] theorem State.advanceTracks_keeps (p : Fin 4) (f : Processing) (cs : List Claim) :
    (s.advanceTracks p f cs).resetLow = s.resetLow ∧ (s.advanceTracks p f cs).mod = s.mod
      ∧ (s.advanceTracks p f cs).map = s.map ∧ (s.advanceTracks p f cs).profiles = s.profiles
      ∧ (s.advanceTracks p f cs).pending = s.pending ∧ (s.advanceTracks p f cs).dir.listings = s.dir.listings := by
  simp [State.advanceTracks]

/-- Cancelling a track changes the link and the panels alone. -/
@[simp] theorem State.cancelTrack_keeps (p : Fin 4) (i : Fin 5) :
    (s.cancelTrack p i).resetLow = s.resetLow ∧ (s.cancelTrack p i).mod = s.mod
      ∧ (s.cancelTrack p i).map = s.map ∧ (s.cancelTrack p i).profiles = s.profiles
      ∧ (s.cancelTrack p i).search = s.search ∧ (s.cancelTrack p i).rco = s.rco
      ∧ (s.cancelTrack p i).rcc = s.rcc ∧ (s.cancelTrack p i).dir = s.dir
      ∧ (s.cancelTrack p i).screens = s.screens ∧ (s.cancelTrack p i).pending = s.pending := by
  unfold State.cancelTrack
  simp only
  split <;> simp

/-- Cancelling a panel's tracks changes the link and the panels alone. -/
@[simp] theorem State.cancelTracks_keeps (p : Fin 4) :
    (s.cancelTracks p).resetLow = s.resetLow ∧ (s.cancelTracks p).mod = s.mod ∧ (s.cancelTracks p).map = s.map
      ∧ (s.cancelTracks p).profiles = s.profiles ∧ (s.cancelTracks p).search = s.search
      ∧ (s.cancelTracks p).rco = s.rco ∧ (s.cancelTracks p).rcc = s.rcc ∧ (s.cancelTracks p).dir = s.dir
      ∧ (s.cancelTracks p).screens = s.screens ∧ (s.cancelTracks p).pending = s.pending := by
  simp [State.cancelTracks, fiveTracks]

/-- Answering an injection changes the link alone. -/
@[simp] theorem State.answerInject_keeps (p : Fin 4) (t : Option Byte) (r : ResultCode) :
    (s.answerInject p t r).resetLow = s.resetLow ∧ (s.answerInject p t r).mod = s.mod
      ∧ (s.answerInject p t r).map = s.map ∧ (s.answerInject p t r).profiles = s.profiles
      ∧ (s.answerInject p t r).search = s.search ∧ (s.answerInject p t r).rco = s.rco
      ∧ (s.answerInject p t r).rcc = s.rcc ∧ (s.answerInject p t r).dir = s.dir
      ∧ (s.answerInject p t r).screens = s.screens ∧ (s.answerInject p t r).panels = s.panels
      ∧ (s.answerInject p t r).pending = s.pending := by
  unfold State.answerInject
  split <;> simp

/-- Buffering a frame changes the link and the panels alone. -/
@[simp] theorem State.bufferFrame_keeps (p : Fin 4) (f : PanelFrame) :
    (s.bufferFrame p f).resetLow = s.resetLow ∧ (s.bufferFrame p f).mod = s.mod
      ∧ (s.bufferFrame p f).map = s.map ∧ (s.bufferFrame p f).profiles = s.profiles
      ∧ (s.bufferFrame p f).search = s.search ∧ (s.bufferFrame p f).rco = s.rco
      ∧ (s.bufferFrame p f).rcc = s.rcc ∧ (s.bufferFrame p f).dir = s.dir
      ∧ (s.bufferFrame p f).screens = s.screens ∧ (s.bufferFrame p f).pending = s.pending := by
  simp [State.bufferFrame]

/-- Emptying the buffer changes the link and the panels alone. -/
@[simp] theorem State.emptyBuffer_keeps (p : Fin 4) :
    (s.emptyBuffer p).resetLow = s.resetLow ∧ (s.emptyBuffer p).mod = s.mod ∧ (s.emptyBuffer p).map = s.map
      ∧ (s.emptyBuffer p).profiles = s.profiles ∧ (s.emptyBuffer p).search = s.search
      ∧ (s.emptyBuffer p).rco = s.rco ∧ (s.emptyBuffer p).rcc = s.rcc ∧ (s.emptyBuffer p).dir = s.dir
      ∧ (s.emptyBuffer p).screens = s.screens ∧ (s.emptyBuffer p).pending = s.pending := by
  simp [State.emptyBuffer]

/-- Taking a frame changes the link and the panels alone. -/
@[simp] theorem State.takeFrame_keeps (p : Fin 4) :
    (s.takeFrame p).resetLow = s.resetLow ∧ (s.takeFrame p).mod = s.mod ∧ (s.takeFrame p).map = s.map
      ∧ (s.takeFrame p).profiles = s.profiles ∧ (s.takeFrame p).search = s.search ∧ (s.takeFrame p).rco = s.rco
      ∧ (s.takeFrame p).rcc = s.rcc ∧ (s.takeFrame p).dir = s.dir ∧ (s.takeFrame p).screens = s.screens
      ∧ (s.takeFrame p).pending = s.pending := by
  unfold State.takeFrame
  simp only
  split
  · split
    · simp
    · split <;> simp
  · simp

/-- A detection leaves mode control, the map, the profiles and the listings. -/
@[simp] theorem State.detect_keeps (p : Fin 4) (f : Processing) :
    (s.detect p f).resetLow = s.resetLow ∧ (s.detect p f).mod = s.mod ∧ (s.detect p f).map = s.map
      ∧ (s.detect p f).profiles = s.profiles ∧ (s.detect p f).pending = s.pending
      ∧ (s.detect p f).dir.listings = s.dir.listings := by
  simp [State.detect]

/-- An accumulation changes the link and the panels alone. -/
@[simp] theorem State.accumulate_keeps (p : Fin 4) (f : Processing) :
    (s.accumulate p f).resetLow = s.resetLow ∧ (s.accumulate p f).mod = s.mod ∧ (s.accumulate p f).map = s.map
      ∧ (s.accumulate p f).profiles = s.profiles ∧ (s.accumulate p f).search = s.search
      ∧ (s.accumulate p f).rco = s.rco ∧ (s.accumulate p f).rcc = s.rcc ∧ (s.accumulate p f).dir = s.dir
      ∧ (s.accumulate p f).screens = s.screens ∧ (s.accumulate p f).pending = s.pending := by
  unfold State.accumulate
  split
  · simp
  · simp only
    split <;> simp

/-- A finished frame leaves mode control, the map, the profiles and the listings. -/
@[simp] theorem State.finishFrame_keeps (p : Fin 4) :
    (s.finishFrame p).resetLow = s.resetLow ∧ (s.finishFrame p).mod = s.mod ∧ (s.finishFrame p).map = s.map
      ∧ (s.finishFrame p).profiles = s.profiles ∧ (s.finishFrame p).pending = s.pending
      ∧ (s.finishFrame p).dir.listings = s.dir.listings := by
  unfold State.finishFrame
  split
  · simp
  · simp only
    split <;> simp

/-- Abandoning a capture changes the link and the panels alone. -/
@[simp] theorem State.abandonCapture_keeps (p : Fin 4) :
    (s.abandonCapture p).resetLow = s.resetLow ∧ (s.abandonCapture p).mod = s.mod
      ∧ (s.abandonCapture p).map = s.map ∧ (s.abandonCapture p).profiles = s.profiles
      ∧ (s.abandonCapture p).search = s.search ∧ (s.abandonCapture p).rco = s.rco
      ∧ (s.abandonCapture p).rcc = s.rcc ∧ (s.abandonCapture p).dir = s.dir
      ∧ (s.abandonCapture p).screens = s.screens ∧ (s.abandonCapture p).pending = s.pending := by
  unfold State.abandonCapture
  split <;> simp

/-- A frame timer's expiry changes the link and the panels alone. -/
@[simp] theorem State.frameTimeout_keeps (p : Fin 4) :
    (s.frameTimeout p).resetLow = s.resetLow ∧ (s.frameTimeout p).mod = s.mod ∧ (s.frameTimeout p).map = s.map
      ∧ (s.frameTimeout p).profiles = s.profiles ∧ (s.frameTimeout p).search = s.search
      ∧ (s.frameTimeout p).rco = s.rco ∧ (s.frameTimeout p).rcc = s.rcc ∧ (s.frameTimeout p).dir = s.dir
      ∧ (s.frameTimeout p).screens = s.screens ∧ (s.frameTimeout p).pending = s.pending := by
  simp [State.frameTimeout]

/-- Entering OFF or WAITING changes the link and the panels alone. -/
@[simp] theorem State.leaveRunning_keeps (p : Fin 4) (m : PanelMode) :
    (s.leaveRunning p m).resetLow = s.resetLow ∧ (s.leaveRunning p m).mod = s.mod
      ∧ (s.leaveRunning p m).map = s.map ∧ (s.leaveRunning p m).profiles = s.profiles
      ∧ (s.leaveRunning p m).search = s.search ∧ (s.leaveRunning p m).rco = s.rco
      ∧ (s.leaveRunning p m).rcc = s.rcc ∧ (s.leaveRunning p m).dir = s.dir
      ∧ (s.leaveRunning p m).screens = s.screens ∧ (s.leaveRunning p m).pending = s.pending := by
  simp [State.leaveRunning]

/-- A PANEL_SET's transition changes the link and the panels alone. -/
@[simp] theorem State.panelTransition_keeps (p : Fin 4) (c : PanelConfig) :
    (s.panelTransition p c).resetLow = s.resetLow ∧ (s.panelTransition p c).mod = s.mod
      ∧ (s.panelTransition p c).map = s.map ∧ (s.panelTransition p c).profiles = s.profiles
      ∧ (s.panelTransition p c).search = s.search ∧ (s.panelTransition p c).rco = s.rco
      ∧ (s.panelTransition p c).rcc = s.rcc ∧ (s.panelTransition p c).dir = s.dir
      ∧ (s.panelTransition p c).screens = s.screens ∧ (s.panelTransition p c).pending = s.pending := by
  unfold State.panelTransition
  simp only
  split
  · simp
  · split <;> simp

/-- The start of a capture changes the link and the panels alone. -/
@[simp] theorem State.startCapture_keeps (p : Fin 4) (t : Byte) :
    (s.startCapture p t).resetLow = s.resetLow ∧ (s.startCapture p t).mod = s.mod
      ∧ (s.startCapture p t).map = s.map ∧ (s.startCapture p t).profiles = s.profiles
      ∧ (s.startCapture p t).search = s.search ∧ (s.startCapture p t).rco = s.rco
      ∧ (s.startCapture p t).rcc = s.rcc ∧ (s.startCapture p t).dir = s.dir
      ∧ (s.startCapture p t).screens = s.screens ∧ (s.startCapture p t).pending = s.pending := by
  simp [State.startCapture]

/-- All that the end of a frame does for drift: it clears the count, raises it, or at the eighth frame adjusts the
baseline. -/
theorem Panel.drifted_cases (q : Panel) (f : Processing) :
    q.drifted f = { q with drift := 0 }
    ∨ (f.driftCancelled = false ∧ q.drift + 1 < 8 ∧ q.drifted f = { q with drift := q.drift + 1 })
    ∨ (f.driftCancelled = false ∧ 8 ≤ q.drift + 1 ∧ q.drifted f =
        { q with drift := 0, baseline := .ofFn fun i => driftCell f.frame.samples[i.val] q.baseline[i.val] }) := by
  unfold Panel.drifted
  split
  · exact .inl rfl
  · rename_i h
    have hc : f.driftCancelled = false := by simpa using h
    split
    · split
      · rename_i hd; exact .inr (.inl ⟨hc, hd, rfl⟩)
      · rename_i hd; exact .inr (.inr ⟨hc, by omega, rfl⟩)
    · exact .inl rfl

/-- A frame during whose processing the baseline was written or cleared returns the count to 0 and adjusts nothing. -/
theorem Panel.drifted_cancelled (q : Panel) {f : Processing} (h : f.driftCancelled = true) :
    q.drifted f = { q with drift := 0 } := by
  simp [Panel.drifted, h]

end Sys2Proof.Machine
end

