-- ==== Sys2Proof/Laws/MapStore.lean ====
section
/-! SUPPORT. The map store: what the load stream, closures and listing statuses leave unchanged, and what a table holds once records
have been written. -/

namespace Sys2Proof.Machine

variable (s : State)

/-- A move of the cursor changes the map store alone. -/
@[simp] theorem State.setCursor_keeps (t : TableId) (i : Nat) :
    (s.setCursor t i).resetLow = s.resetLow ∧ (s.setCursor t i).link = s.link ∧ (s.setCursor t i).mod = s.mod
      ∧ (s.setCursor t i).profiles = s.profiles ∧ (s.setCursor t i).search = s.search
      ∧ (s.setCursor t i).rco = s.rco ∧ (s.setCursor t i).rcc = s.rcc ∧ (s.setCursor t i).dir = s.dir
      ∧ (s.setCursor t i).screens = s.screens ∧ (s.setCursor t i).panels = s.panels
      ∧ (s.setCursor t i).pending = s.pending := by
  simp [State.setCursor]

/-- Records written change the tables alone. -/
@[simp] theorem State.writeTable_keeps (t : TableId) (i : Nat) (rs : List (List Byte)) :
    (s.writeTable t i rs).resetLow = s.resetLow ∧ (s.writeTable t i rs).link = s.link
      ∧ (s.writeTable t i rs).mod = s.mod ∧ (s.writeTable t i rs).search = s.search
      ∧ (s.writeTable t i rs).rco = s.rco ∧ (s.writeTable t i rs).rcc = s.rcc
      ∧ (s.writeTable t i rs).screens = s.screens ∧ (s.writeTable t i rs).pending = s.pending
      ∧ (s.writeTable t i rs).dir.queue = s.dir.queue ∧ (s.writeTable t i rs).dir.scan = s.dir.scan
      ∧ (s.writeTable t i rs).map.startIndex = s.map.startIndex
      ∧ (s.writeTable t i rs).map.generation = s.map.generation
      ∧ (s.writeTable t i rs).map.cursor = s.map.cursor := by
  unfold State.writeTable
  cases t <;> simp only
  case baseline => split <;> simp
  all_goals simp

/-- A clear changes the tables alone. -/
@[simp] theorem State.clearTable_keeps (t : TableId) :
    (s.clearTable t).resetLow = s.resetLow ∧ (s.clearTable t).link = s.link ∧ (s.clearTable t).mod = s.mod
      ∧ (s.clearTable t).search = s.search ∧ (s.clearTable t).rco = s.rco ∧ (s.clearTable t).rcc = s.rcc
      ∧ (s.clearTable t).screens = s.screens ∧ (s.clearTable t).pending = s.pending
      ∧ (s.clearTable t).dir.queue = s.dir.queue ∧ (s.clearTable t).dir.scan = s.dir.scan
      ∧ (s.clearTable t).map.startIndex = s.map.startIndex ∧ (s.clearTable t).map.generation = s.map.generation
      ∧ (s.clearTable t).map.cursor = s.map.cursor := by
  cases t <;> simp [State.clearTable]

/-- A LOAD_OPEN changes the tables and the cursor alone. -/
@[simp] theorem State.loadOpen_keeps (p : List Byte) :
    ((s.loadOpen p).1).resetLow = s.resetLow ∧ ((s.loadOpen p).1).link = s.link ∧ ((s.loadOpen p).1).mod = s.mod
      ∧ ((s.loadOpen p).1).search = s.search ∧ ((s.loadOpen p).1).rco = s.rco ∧ ((s.loadOpen p).1).rcc = s.rcc
      ∧ ((s.loadOpen p).1).screens = s.screens ∧ ((s.loadOpen p).1).pending = s.pending
      ∧ (s.loadOpen p).1.dir.queue = s.dir.queue ∧ (s.loadOpen p).1.dir.scan = s.dir.scan
      ∧ (s.loadOpen p).1.map.startIndex = s.map.startIndex ∧ (s.loadOpen p).1.map.generation = s.map.generation := by
  unfold State.loadOpen
  split
  · simp
  · split
    · simp
    · split
      · simp
      · split
        · split <;> simp [State.setCursor]
        · simp [State.setCursor]

/-- A LOAD_WRITE changes the tables and the cursor alone. -/
@[simp] theorem State.loadWrite_keeps (p : List Byte) :
    ((s.loadWrite p).state).resetLow = s.resetLow ∧ ((s.loadWrite p).state).link = s.link
      ∧ ((s.loadWrite p).state).mod = s.mod ∧ ((s.loadWrite p).state).search = s.search
      ∧ ((s.loadWrite p).state).rco = s.rco ∧ ((s.loadWrite p).state).rcc = s.rcc
      ∧ ((s.loadWrite p).state).screens = s.screens ∧ ((s.loadWrite p).state).pending = s.pending
      ∧ (s.loadWrite p).state.dir.queue = s.dir.queue ∧ (s.loadWrite p).state.dir.scan = s.dir.scan
      ∧ (s.loadWrite p).state.map.startIndex = s.map.startIndex
      ∧ (s.loadWrite p).state.map.generation = s.map.generation := by
  unfold State.loadWrite
  split
  · simp
  · split
    · simp
    · simp only
      split
      · simp
      · split <;> simp [State.setCursor]

/-- A LOAD_READ moves the cursor alone. -/
@[simp] theorem State.loadRead_keeps (p : List Byte) :
    ((s.loadRead p).1).resetLow = s.resetLow ∧ ((s.loadRead p).1).link = s.link ∧ ((s.loadRead p).1).mod = s.mod
      ∧ ((s.loadRead p).1).profiles = s.profiles ∧ ((s.loadRead p).1).search = s.search
      ∧ ((s.loadRead p).1).rco = s.rco ∧ ((s.loadRead p).1).rcc = s.rcc ∧ ((s.loadRead p).1).dir = s.dir
      ∧ ((s.loadRead p).1).screens = s.screens ∧ ((s.loadRead p).1).panels = s.panels
      ∧ ((s.loadRead p).1).pending = s.pending ∧ (s.loadRead p).1.map.segments = s.map.segments
      ∧ (s.loadRead p).1.map.waypoints = s.map.waypoints ∧ (s.loadRead p).1.map.closedCount = s.map.closedCount := by
  unfold State.loadRead
  split
  · simp
  · split
    · simp
    · simp [State.setCursor]

/-- A closure changes the map store and the route cache alone. -/
@[simp] theorem State.closeSegment_keeps (g : Nat) :
    (s.closeSegment g).resetLow = s.resetLow ∧ (s.closeSegment g).link = s.link ∧ (s.closeSegment g).mod = s.mod
      ∧ (s.closeSegment g).profiles = s.profiles ∧ (s.closeSegment g).search = s.search
      ∧ (s.closeSegment g).rco = s.rco ∧ (s.closeSegment g).dir = s.dir ∧ (s.closeSegment g).screens = s.screens
      ∧ (s.closeSegment g).panels = s.panels ∧ (s.closeSegment g).pending = s.pending := by
  simp [State.closeSegment]

/-- A reopening changes the map store, and at the wrap the route cache and the units, alone. -/
@[simp] theorem State.reopenSegment_keeps (g : Nat) :
    (s.reopenSegment g).resetLow = s.resetLow ∧ (s.reopenSegment g).link = s.link
      ∧ (s.reopenSegment g).mod = s.mod ∧ (s.reopenSegment g).profiles = s.profiles
      ∧ (s.reopenSegment g).rco = s.rco ∧ (s.reopenSegment g).dir = s.dir
      ∧ (s.reopenSegment g).screens = s.screens ∧ (s.reopenSegment g).panels = s.panels
      ∧ (s.reopenSegment g).pending = s.pending ∧ (s.reopenSegment g).search.queue = s.search.queue := by
  unfold State.reopenSegment
  simp only
  split <;> simp [State.wrapGeneration]

/-- A SEGMENT_SET changes the map store, the route cache and the units alone. -/
@[simp] theorem State.segmentSet_keeps (g n : Nat) :
    ((s.segmentSet g n).1).resetLow = s.resetLow ∧ ((s.segmentSet g n).1).link = s.link
      ∧ ((s.segmentSet g n).1).mod = s.mod ∧ ((s.segmentSet g n).1).profiles = s.profiles
      ∧ ((s.segmentSet g n).1).rco = s.rco ∧ ((s.segmentSet g n).1).dir = s.dir
      ∧ ((s.segmentSet g n).1).screens = s.screens ∧ ((s.segmentSet g n).1).panels = s.panels
      ∧ ((s.segmentSet g n).1).pending = s.pending ∧ (s.segmentSet g n).1.search.queue = s.search.queue := by
  unfold State.segmentSet
  split
  · simp
  · split
    · simp
    · split
      · simp
      · split
        · simp
        · split
          · simp
          · split <;> simp

/-- A LISTING_SET changes the listings alone. -/
@[simp] theorem State.listingSet_keeps (g n : Nat) :
    ((s.listingSet g n).1).resetLow = s.resetLow ∧ ((s.listingSet g n).1).link = s.link
      ∧ ((s.listingSet g n).1).mod = s.mod ∧ ((s.listingSet g n).1).map = s.map
      ∧ ((s.listingSet g n).1).profiles = s.profiles ∧ ((s.listingSet g n).1).search = s.search
      ∧ ((s.listingSet g n).1).rco = s.rco ∧ ((s.listingSet g n).1).rcc = s.rcc
      ∧ ((s.listingSet g n).1).screens = s.screens ∧ ((s.listingSet g n).1).panels = s.panels
      ∧ ((s.listingSet g n).1).pending = s.pending ∧ (s.listingSet g n).1.dir.queue = s.dir.queue
      ∧ (s.listingSet g n).1.dir.scan = s.dir.scan := by
  unfold State.listingSet
  split
  · simp
  · split
    · simp
    · split
      · simp
      · split <;> simp

/-- A counted table after records have been written from an index on: the longer of what it was and what the write
reaches (01 R14). -/
theorem writeCounted_length {α : Type} (r : α) (t : List α) (i : Nat) (rs : List α) (h : rs ≠ []) :
    (writeCounted r t i rs).length = max t.length (i + rs.length) := by
  have e : rs.isEmpty = false := by cases rs <;> simp_all
  simp only [writeCounted, e]
  simp
  omega

/-- No record written leaves a counted table. -/
@[simp] theorem writeCounted_nil {α : Type} (r : α) (t : List α) (i : Nat) : writeCounted r t i [] = t := by
  simp [writeCounted]

/-- A record of a counted table after a write: a written one, an older one, or the reset value (01 R12, R14). -/
theorem writeCounted_getD {α : Type} (r : α) (t : List α) (i j : Nat) (rs : List α) :
    (writeCounted r t i rs).getD j r = if i ≤ j ∧ j < i + rs.length then rs.getD (j - i) r else t.getD j r := by
  cases rs with
  | nil => simp [writeCounted]
  | cons x xs =>
    have hb : ∀ k, (t ++ List.replicate (i - t.length) r).getD k r = t.getD k r := by
      intro k
      simp only [List.getD_eq_getElem?_getD, List.getElem?_append]
      split
      · rfl
      · rename_i h
        rw [List.getElem?_eq_none (l := t) (by omega), List.getElem?_replicate]
        split <;> rfl
    have hl : i ≤ (t ++ List.replicate (i - t.length) r).length := by simp; omega
    simp only [writeCounted, List.isEmpty_cons, Bool.false_eq_true, if_false]
    generalize t ++ List.replicate (i - t.length) r = b at hb hl
    rw [← hb j]
    simp only [List.getD_eq_getElem?_getD, List.append_assoc, List.getElem?_append, List.length_take,
      Nat.min_eq_left hl, List.getElem?_take, List.getElem?_drop]
    split
    · rw [if_neg (by omega)]
    · split
      · rw [if_pos (by constructor <;> omega)]
      · rw [if_neg (by omega)]
        congr 2
        omega

/-- A closed or reopened segment's record, and every other (07 R118, R119). -/
theorem MapState.setStatus_getD (m : MapState) (g j : Nat) (b : Bool) (h : g < m.segments.length) :
    (m.setStatus g b).segments.getD j .reset
      = if j = g then { m.segments.getD g .reset with closed := b } else m.segments.getD j .reset := by
  simp only [MapState.setStatus, List.getD_eq_getElem?_getD, List.getElem?_modify]
  by_cases e : g = j
  · subst e
    simp [h]
  · simp [e, Ne.symm e]

end Sys2Proof.Machine
end

