-- ==== Sys2Proof/Laws/Modes.lean ====
section
/-! SUPPORT. Mode control and the passing of time: what mode changes, the map check, the resets and a millisecond leave unchanged. -/

namespace Sys2Proof.Machine

variable (s : State)

/-- Clearing the flags changes the link and the panels alone. -/
@[simp] theorem State.clearFlags_keeps :
    (s.clearFlags).resetLow = s.resetLow ∧ (s.clearFlags).mod = s.mod ∧ (s.clearFlags).map = s.map
      ∧ (s.clearFlags).profiles = s.profiles ∧ (s.clearFlags).search = s.search ∧ (s.clearFlags).rco = s.rco
      ∧ (s.clearFlags).rcc = s.rcc ∧ (s.clearFlags).dir = s.dir ∧ (s.clearFlags).screens = s.screens
      ∧ (s.clearFlags).pending = s.pending := by
  simp [State.clearFlags]

/-- A mode set changes mode control alone. -/
@[simp] theorem State.setMode_keeps (m : Mode) :
    (s.setMode m).resetLow = s.resetLow ∧ (s.setMode m).link = s.link ∧ (s.setMode m).map = s.map
      ∧ (s.setMode m).profiles = s.profiles ∧ (s.setMode m).search = s.search ∧ (s.setMode m).rco = s.rco
      ∧ (s.setMode m).rcc = s.rcc ∧ (s.setMode m).dir = s.dir ∧ (s.setMode m).screens = s.screens
      ∧ (s.setMode m).panels = s.panels ∧ (s.setMode m).pending = s.pending := by
  simp [State.setMode]

/-- A MODE_SET reply changes the link alone. -/
@[simp] theorem State.modeReply_keeps (tag : Byte) (r : ResultCode) :
    (s.modeReply tag r).resetLow = s.resetLow ∧ (s.modeReply tag r).mod = s.mod
      ∧ (s.modeReply tag r).map = s.map ∧ (s.modeReply tag r).profiles = s.profiles
      ∧ (s.modeReply tag r).search = s.search ∧ (s.modeReply tag r).rco = s.rco
      ∧ (s.modeReply tag r).rcc = s.rcc ∧ (s.modeReply tag r).dir = s.dir
      ∧ (s.modeReply tag r).screens = s.screens ∧ (s.modeReply tag r).panels = s.panels
      ∧ (s.modeReply tag r).pending = s.pending := by
  simp [State.modeReply]

/-- An entry to LOADING leaves the profiles, the panels and the tables. -/
@[simp] theorem State.enterLoading_keeps :
    (s.enterLoading).resetLow = s.resetLow ∧ (s.enterLoading).profiles = s.profiles
      ∧ (s.enterLoading).panels = s.panels ∧ (s.enterLoading).pending = s.pending
      ∧ s.enterLoading.mod.mode = .loading ∧ s.enterLoading.mod.commit = s.mod.commit
      ∧ s.enterLoading.mod.freezing = s.mod.freezing ∧ s.enterLoading.mod.resetAsked = s.mod.resetAsked
      ∧ s.enterLoading.dir.listings = s.dir.listings ∧ s.enterLoading.map.waypoints = s.map.waypoints
      ∧ s.enterLoading.map.segments = s.map.segments ∧ s.enterLoading.map.closedCount = s.map.closedCount := by
  simp [State.enterLoading]

/-- An entry to FROZEN changes mode control and the link alone. -/
@[simp] theorem State.enterFrozen_keeps (tag : Byte) :
    (s.enterFrozen tag).resetLow = s.resetLow ∧ (s.enterFrozen tag).map = s.map
      ∧ (s.enterFrozen tag).profiles = s.profiles ∧ (s.enterFrozen tag).search = s.search
      ∧ (s.enterFrozen tag).rco = s.rco ∧ (s.enterFrozen tag).rcc = s.rcc ∧ (s.enterFrozen tag).dir = s.dir
      ∧ (s.enterFrozen tag).screens = s.screens ∧ (s.enterFrozen tag).panels = s.panels
      ∧ (s.enterFrozen tag).pending = s.pending := by
  simp [State.enterFrozen]

/-- A return to SERVICE changes mode control and the search block alone. -/
@[simp] theorem State.returnToService_keeps :
    (s.returnToService).resetLow = s.resetLow ∧ (s.returnToService).link = s.link
      ∧ (s.returnToService).map = s.map ∧ (s.returnToService).profiles = s.profiles
      ∧ (s.returnToService).rco = s.rco ∧ (s.returnToService).rcc = s.rcc ∧ (s.returnToService).dir = s.dir
      ∧ (s.returnToService).screens = s.screens ∧ (s.returnToService).panels = s.panels
      ∧ (s.returnToService).pending = s.pending ∧ s.returnToService.mod.mode = .service := by
  simp [State.returnToService]

/-- A MODE_SET leaves the profiles, the listings and the panels. -/
@[simp] theorem State.modeSet_keeps (tag : Byte) (n : Nat) :
    (s.modeSet tag n).resetLow = s.resetLow ∧ (s.modeSet tag n).profiles = s.profiles
      ∧ (s.modeSet tag n).panels = s.panels ∧ (s.modeSet tag n).pending = s.pending
      ∧ (s.modeSet tag n).dir.listings = s.dir.listings := by
  unfold State.modeSet
  split <;> simp

/-- A passing commit leaves the tables, the queues and the panels. -/
@[simp] theorem State.commitPasses_keeps (c : Commit) :
    (s.commitPasses c).resetLow = s.resetLow ∧ (s.commitPasses c).profiles = s.profiles
      ∧ (s.commitPasses c).search = s.search ∧ (s.commitPasses c).rco = s.rco ∧ (s.commitPasses c).dir = s.dir
      ∧ (s.commitPasses c).panels = s.panels ∧ (s.commitPasses c).pending = s.pending
      ∧ (s.commitPasses c).mod.mode = .service ∧ (s.commitPasses c).mod.commit = none
      ∧ (s.commitPasses c).map.segments = s.map.segments := by
  simp [State.commitPasses]

/-- A failing commit changes mode control and the link alone. -/
@[simp] theorem State.commitFails_keeps (c : Commit) (fs : List Finding) :
    (s.commitFails c fs).resetLow = s.resetLow ∧ (s.commitFails c fs).map = s.map
      ∧ (s.commitFails c fs).profiles = s.profiles ∧ (s.commitFails c fs).search = s.search
      ∧ (s.commitFails c fs).rco = s.rco ∧ (s.commitFails c fs).rcc = s.rcc ∧ (s.commitFails c fs).dir = s.dir
      ∧ (s.commitFails c fs).screens = s.screens ∧ (s.commitFails c fs).panels = s.panels
      ∧ (s.commitFails c fs).pending = s.pending ∧ (s.commitFails c fs).mod.mode = .loading
      ∧ (s.commitFails c fs).mod.commit = none := by
  simp [State.commitFails]

/-- The end of a map check leaves the tables, the queues and the panels. -/
@[simp] theorem State.endCheck_keeps :
    (s.endCheck).resetLow = s.resetLow ∧ (s.endCheck).profiles = s.profiles ∧ (s.endCheck).search = s.search
      ∧ (s.endCheck).rco = s.rco ∧ (s.endCheck).dir = s.dir ∧ (s.endCheck).panels = s.panels
      ∧ (s.endCheck).pending = s.pending := by
  unfold State.endCheck
  split
  · split <;> simp
  · simp

/-- An abandoned check changes mode control and the link alone. -/
@[simp] theorem State.abandonCheck_keeps :
    (s.abandonCheck).resetLow = s.resetLow ∧ (s.abandonCheck).map = s.map
      ∧ (s.abandonCheck).profiles = s.profiles ∧ (s.abandonCheck).search = s.search
      ∧ (s.abandonCheck).rco = s.rco ∧ (s.abandonCheck).rcc = s.rcc ∧ (s.abandonCheck).dir = s.dir
      ∧ (s.abandonCheck).screens = s.screens ∧ (s.abandonCheck).panels = s.panels
      ∧ (s.abandonCheck).pending = s.pending ∧ s.abandonCheck.mod.commit = none := by
  unfold State.abandonCheck
  split <;> simp_all

/-- Aborting a screen's entries changes the link and the screens alone. -/
@[simp] theorem State.abortScreen_keeps (i : Fin 4) :
    (s.abortScreen i).resetLow = s.resetLow ∧ (s.abortScreen i).mod = s.mod ∧ (s.abortScreen i).map = s.map
      ∧ (s.abortScreen i).profiles = s.profiles ∧ (s.abortScreen i).search = s.search
      ∧ (s.abortScreen i).rco = s.rco ∧ (s.abortScreen i).rcc = s.rcc ∧ (s.abortScreen i).dir = s.dir
      ∧ (s.abortScreen i).panels = s.panels ∧ (s.abortScreen i).pending = s.pending := by
  simp [State.abortScreen]

/-- RESET SESSIONS changes the panels and, by an ABORTED reply, the link alone. -/
@[simp] theorem State.resetPanel_keeps (p : Fin 4) :
    (s.resetPanel p).resetLow = s.resetLow ∧ (s.resetPanel p).mod = s.mod ∧ (s.resetPanel p).map = s.map
      ∧ (s.resetPanel p).profiles = s.profiles ∧ (s.resetPanel p).search = s.search
      ∧ (s.resetPanel p).rco = s.rco ∧ (s.resetPanel p).rcc = s.rcc ∧ (s.resetPanel p).dir = s.dir
      ∧ (s.resetPanel p).screens = s.screens ∧ (s.resetPanel p).pending = s.pending := by
  unfold State.resetPanel
  simp only
  split <;> simp

/-- RESET SESSIONS leaves the map store, the profiles and the listings. -/
@[simp] theorem State.resetSessions_keeps :
    (s.resetSessions).resetLow = s.resetLow ∧ (s.resetSessions).map = s.map
      ∧ (s.resetSessions).profiles = s.profiles ∧ (s.resetSessions).pending = s.pending
      ∧ s.resetSessions.dir.listings = s.dir.listings := by
  simp [State.resetSessions, four]

/-- Offering SUPPRESSED changes the link alone. -/
@[simp] theorem State.unmask_keeps (k : MaskKind) :
    (s.unmask k).resetLow = s.resetLow ∧ (s.unmask k).mod = s.mod ∧ (s.unmask k).map = s.map
      ∧ (s.unmask k).profiles = s.profiles ∧ (s.unmask k).search = s.search ∧ (s.unmask k).rco = s.rco
      ∧ (s.unmask k).rcc = s.rcc ∧ (s.unmask k).dir = s.dir ∧ (s.unmask k).screens = s.screens
      ∧ (s.unmask k).panels = s.panels ∧ (s.unmask k).pending = s.pending := by
  unfold State.unmask
  split <;> simp

/-- A RESET FULL changes mode control and the link alone. -/
@[simp] theorem State.askReset_keeps (tag : Byte) :
    (s.askReset tag).resetLow = s.resetLow ∧ (s.askReset tag).map = s.map
      ∧ (s.askReset tag).profiles = s.profiles ∧ (s.askReset tag).search = s.search
      ∧ (s.askReset tag).rco = s.rco ∧ (s.askReset tag).rcc = s.rcc ∧ (s.askReset tag).dir = s.dir
      ∧ (s.askReset tag).screens = s.screens ∧ (s.askReset tag).panels = s.panels
      ∧ (s.askReset tag).pending = s.pending ∧ (s.askReset tag).mod.mode = s.mod.mode
      ∧ (s.askReset tag).mod.commit = s.mod.commit := by
  simp [State.askReset]

/-! ## Time -/

/-- A millisecond of a panel changes the panels and the link alone. -/
@[simp] theorem State.tickPanel_keeps (p : Fin 4) :
    (s.tickPanel p).resetLow = s.resetLow ∧ (s.tickPanel p).mod = s.mod ∧ (s.tickPanel p).map = s.map
      ∧ (s.tickPanel p).profiles = s.profiles ∧ (s.tickPanel p).search = s.search ∧ (s.tickPanel p).rco = s.rco
      ∧ (s.tickPanel p).rcc = s.rcc ∧ (s.tickPanel p).dir = s.dir ∧ (s.tickPanel p).screens = s.screens
      ∧ (s.tickPanel p).pending = s.pending := by
  unfold State.tickPanel
  simp only
  split
  · split <;> simp
  · simp

/-- A millisecond of a screen leaves mode control, the map, the profiles, the cache, the listings and the panels. -/
@[simp] theorem State.tickScreen_keeps (i : Fin 4) :
    (s.tickScreen i).resetLow = s.resetLow ∧ (s.tickScreen i).mod = s.mod ∧ (s.tickScreen i).map = s.map
      ∧ (s.tickScreen i).profiles = s.profiles ∧ (s.tickScreen i).rcc = s.rcc
      ∧ (s.tickScreen i).panels = s.panels ∧ (s.tickScreen i).pending = s.pending
      ∧ (s.tickScreen i).dir.listings = s.dir.listings := by
  unfold State.tickScreen
  simp only
  split <;> simp

/-- A millisecond leaves mode control, the map, the profiles, the cache and the listings. -/
@[simp] theorem State.tick_keeps :
    (s.tick).resetLow = s.resetLow ∧ (s.tick).mod = s.mod ∧ (s.tick).map = s.map
      ∧ (s.tick).profiles = s.profiles ∧ (s.tick).rcc = s.rcc ∧ (s.tick).pending = s.pending
      ∧ s.tick.dir.listings = s.dir.listings := by
  unfold State.tick
  split <;> simp [four]

end Sys2Proof.Machine
end

