-- ==== Sys2Proof/WellFormed.lean ====
section
/-! DEFINITION. Which commands are well formed: the operands that a type of the syntax leaves too wide. -/

namespace Sys2Proof

/-- A FRAME_RECEIVED carries a payload that LENGTH may announce, 0..1024 bytes (11 R181). Every other operand
is bounded by its type: a unit by 2, a screen or panel by 4, a byte by 8 bits, a sample by 12 bits; and a
panel frame may hold any number of samples (10 R165). -/
def Instr.wellFormed : Instr → Bool
  | .frameReceived _ _ payload _ => decide (payload.length ≤ Config.maxPayload)
  | _ => true

end Sys2Proof
end

