-- ==== Sys2Proof/Tests/Slice0.lean ====
section
/-! SUPPORT. Small tests, their expected values taken from the spec's tables and worked cases, and one witness for each
statement that has hypotheses: a concrete state and operands that meet them, clause by clause, at a boundary where
there is one. -/

namespace Sys2Proof.Tests
open Sys2Proof.Machine

/-! ## Well-formedness and the table -/

theorem test_wellFormed_accepts : (Instr.frameReceived 1 2 (.replicate 1024 0) 0).wellFormed = true := by
  rw [Instr.wellFormed, List.length_replicate]; rfl

theorem test_wellFormed_refuses_long_payload : (Instr.frameReceived 1 2 (.replicate 1025 0) 0).wellFormed = false := by
  rw [Instr.wellFormed, List.length_replicate]; rfl

theorem test_no_word_spells_a_command (n w : Nat) : decodeTableWord n w = none := rfl

/-! ## Values of the spec's tables -/

/-- 11 R181: the CRC over the digits 1 to 9. -/
theorem test_crc_of_digits : crc [0x31, 0x32, 0x33, 0x34, 0x35, 0x36, 0x37, 0x38, 0x39] = 0x29B1 := by decide +kernel

/-- 03 R46, the rows of its table. -/
theorem test_weighted_lengths :
    [(1, 1), (16, 1), (17, 1), (7, 14), (87, 20), (120, 20), (250, 16), (8191, 255)].map
      (fun x => weightedLength x.1 x.2) = [1, 1, 2, 7, 109, 150, 250, 130545] := by decide

/-- The escalator of 03 section 3.8. -/
def escalator : Segment :=
  { src := 1, dst := 2, kind := .escalator, length := 120, heading := 64, delta := 1, ride := 5, closed := false }

theorem test_segment_cost_worked : segmentCost .standard escalator = some 550 := by decide
theorem test_segment_time_worked : segmentTime .standard escalator = 240 := by decide

/-- 05 R84, the rows of its worked table. -/
theorem test_turn_classes :
    [(0, 16), (0, 17), (10, 250), (10, 249), (200, 40), (200, 41), (64, 192), (100, 227), (100, 229)].map
      (fun x : BitVec 8 × BitVec 8 => turnClass x.1 x.2)
      = [.straight, .slightRight, .straight, .slightLeft, .right, .sharpRight, .uTurn, .sharpRight, .sharpLeft] := by
  decide

/-- 06 R101, the rows of its table. -/
theorem test_primary_groups :
    [({ origin := 0, kind := .listing, number := 40, profile := 0 } : Key),
      { origin := 3, kind := .waypoint, number := 8, profile := 0 },
      { origin := 0, kind := .waypoint, number := 3, profile := 0 },
      { origin := 88, kind := .listing, number := 512, profile := 0 },
      { origin := 88, kind := .listing, number := 512, profile := 1 }].map
      (fun k => ((primaryGroup k).val, (secondaryGroup k).val))
      = [(56, 7), (59, 4), (41, 22), (24, 39), (17, 46)] := by decide

/-- 05 R95, R97: rounding to metres, seconds and minutes. -/
theorem test_rounding : ([0, 4, 5, 457, 1067, 33542145].map metresOf, secondsOf 499, minutesOf 50)
    = ([0, 0, 1, 46, 107, 3354215], 50, 1) := by decide

/-- The strengths of 10 section 10.14 around column 10, row 5. -/
def centroidMap : Vector Nat 960 :=
  [(9, 4, 30), (10, 4, 60), (11, 4, 40), (9, 5, 50), (10, 5, 120), (11, 5, 90), (9, 6, 20), (10, 6, 70),
    (11, 6, 34)].foldl (fun v x => v.set! (40 * x.2.1 + x.1) x.2.2) (.replicate 960 0)

/-- 10 R169, R170: cell (10, 5) is a peak, and the worked centroid stands at (288, 440). -/
theorem test_centroid_worked :
    isPeak centroidMap 32 10 5 = true ∧ peakPosition centroidMap 32 1080 1920 10 5 = (288, 440) := by decide +kernel

/-! ## States to witness with -/

/-- The frame that a request arrives as stands alone in the inbound queue, its reply slot reserved. -/
def ready (s : State) (cls tag : Byte) (p : List Byte) : State :=
  { s with link := { s.link with inbound := [{ cls := cls, tag := tag, payload := p }], slotsUsed := 1 } }

def walkway (a b : BitVec 12) (length : BitVec 13) : Segment :=
  { src := a, dst := b, kind := .walk, length := length, heading := 0, delta := 0, ride := 0, closed := false }

/-- Three waypoints in a row, joined both ways. -/
def walkways : List Segment := [walkway 0 1 40, walkway 1 0 40, walkway 1 2 30, walkway 2 1 30]

/-- A listing at waypoint 2 whose key is the one symbol 15. -/
def shop : Listing :=
  { Listing.reset with
    key := #v[15, 0, 0, 0, 0, 0, 0, 0, 0, 0, 0, 0, 0, 0, 0, 0], entranceCount := 1, entrances := #v[2, 0, 0, 0] }

/-- A part in SERVICE over that map, with screen 0 enabled. -/
def served : State :=
  { State.reset with
    link := LinkState.reset 0
    mod := { State.reset.mod with mode := .service }
    map := { State.reset.map with
      waypoints := .replicate 3 .reset, segments := walkways, startIndex := some (buildStartIndex 3 walkways) }
    dir := { State.reset.dir with listings := [shop] }
    screens := State.reset.screens.set 0 { Screen.reset with enabled := true } }

/-- That part with a screen 0 of one's own. -/
def servedWith (c : Screen) : State := { served with screens := served.screens.set 0 c }

/-- The screen 0 of `served` with these entries outstanding. -/
def asking (entries : List Entry) : Screen :=
  { Screen.reset with enabled := true, active := true, idle := some 0, outstanding := entries }

/-- A part with a panel 0 of one's own. -/
def withPanel (q : Panel) : State := { served with panels := served.panels.set 0 q }

/-- An enabled panel in a state of one's choice. -/
def panelIn (m : PanelMode) (src : Source) : Panel :=
  { Panel.reset with config := { PanelConfig.reset with enabled := true, source := src }, state := m }

def inMode (m : Mode) (s : State) : State := { s with mod := { s.mod with mode := m } }

/-- The part with its two units in these states. -/
def units (s : State) (a b : UnitState) : State :=
  { s with search := { s.search with
      units := #v[{ SearchUnit.idle with state := a }, { SearchUnit.idle with state := b }] } }

def routeKey : Key := { origin := 0, kind := .waypoint, number := 2, profile := 0 }

def hostRoute : Entry := { id := 0, asker := .host 7, ask := .route routeKey false, result := none }

theorem ready_headIs (s : State) (cls tag : Byte) (p : List Byte) (h : s.resetLow = false)
    (h' : s.mod.resetAsked = false) (h'' : s.mod.freezing = none) : (ready s cls tag p).headIs cls tag p [] :=
  ⟨h, h', h'', rfl⟩

theorem served_headIs (cls tag : Byte) (p : List Byte) : (ready served cls tag p).headIs cls tag p [] :=
  ⟨rfl, rfl, rfl, rfl⟩

/-! ## One step at a time, against the spec's worked cases -/

/-- The state after a command. -/
def after (c : Instr) (s : State) : State := match exec c s with | .next t => t | _ => s

/-- The inbound queue and the reply slots as full as this. -/
def loaded (inbound slots : Nat) : State :=
  { served with link := { served.link with
      inbound := .replicate inbound { cls := 1, tag := 2, payload := [] }, slotsUsed := slots } }

/-- 11 section 11.6: frame A is accepted into the last slot while LINK_READY is low. -/
theorem test_frame_accepted_into_last_slot :
    let t := after (.frameReceived 1 5 [] (frameCheck 1 5 [])) (loaded 6 23)
    (t.link.inbound.length, t.link.slotsUsed, t.linkReady, t.link.overrun) = (7, 24, false, false) := by decide +kernel

/-- 11 section 11.6: frame B finds no slot and sets OVERRUN. -/
theorem test_frame_without_slot_sets_overrun :
    let t := after (.frameReceived 1 5 [] (frameCheck 1 5 [])) (loaded 7 24)
    (t.link.inbound.length, t.link.slotsUsed, t.link.overrun) = (7, 24, true) := by decide +kernel

/-- The path of 03 section 3.8 as the whole map. -/
def escalatorMap : State :=
  { served with map := { served.map with
      waypoints := .replicate 4 .reset
      segments := [{ walkway 0 1 250 with heading := 64 }, escalator, { walkway 2 3 87 with heading := 128 }] } }

/-- 03 section 3.8: the record of that route on a screen of heading 192. -/
theorem test_route_record_worked :
    let j : Job := { key := routeKey, requesters := [], path := [0, 1, 2], entrance := 3, detour := false
                     cacheable := false, captured := none, route := none }
    let s := { escalatorMap with screens := escalatorMap.screens.set 0 { Screen.reset with heading := 192 } }
    let r := s.finalise 0 false false (s.compose j)
    r.steps.map (fun x => (x.action, x.turn, x.length))
        = [(.walk, .uTurn, 250), (.takeEscalator, .straight, 120), (.walk, .right, 87), (.arrive, .none, 0)]
      ∧ (r.distance, r.metres, r.seconds, r.minutes, r.levelChanges) = (457, 46, 50, 1, 1) := by decide +kernel

/-- 02 R37: STARTED is the first message sent, though a STATE_GET has been answered before it goes out. -/
theorem test_started_is_sent_first :
    let s := after .transmitStart (after .stateGet (after (.frameReceived 1 5 [] (frameCheck 1 5 [])) State.reset))
    (s.link.sending.map (·.queue), s.link.replies.length) = (some .reports, 1) := by decide +kernel

/-! ## Witnesses: step, time and reset -/

/-- Panel 0 on the sensor and screen 0's session, with these timers. -/
def ticking (frame idle : Nat) : State :=
  { withPanel { panelIn .running .sensor with timer := some frame } with
    screens := served.screens.set 0 { asking [] with idle := some idle } }

def hunting (h : Hunter) (gap : Nat) : State := { served with link := { served.link with hunter := h, gap := gap } }

theorem witness_OneMillisecond :
    ((State.heldReset 0).pending = [] ∧ (State.heldReset 0).resetLow = true)
    ∧ ((ticking 248 59998).pending = [] ∧ (ticking 248 59998).link.hunter = .hunting
        ∧ (∀ p : Fin 4, (ticking 248 59998).panels[p.val].timed = true →
            ∀ n, (ticking 248 59998).panels[p.val].timer = some n → n < 249)
        ∧ (∀ i : Fin 4, (ticking 248 59998).screens[i.val].active = true →
            ∀ n, (ticking 248 59998).screens[i.val].idle = some n →
              n + 1 < (ticking 248 59998).screens[i.val].timeout * 1000))
    ∧ ((hunting (.header []) 1).link.hunter ≠ .hunting ∧ (hunting (.header []) 1).link.gap < 2)
    ∧ ((hunting (.header []) 2).link.hunter ≠ .hunting ∧ 2 ≤ (hunting (.header []) 2).link.gap)
    ∧ ((ticking 249 0).panels[0].timed = true ∧ (ticking 249 0).panels[0].timer = some 249)
    ∧ ((ticking 0 59999).screens[0].active = true
        ∧ (ticking 0 59999).screens[0].idle = some ((ticking 0 59999).screens[0].timeout * 1000 - 1)
        ∧ 0 < (ticking 0 59999).screens[0].timeout) := by
  refine ⟨⟨rfl, rfl⟩, ⟨rfl, rfl, ?_, ?_⟩, ⟨by decide, by decide⟩, ⟨by decide, by decide⟩, ⟨rfl, rfl⟩, ⟨rfl, rfl, by decide⟩⟩
  · intro p h n hn
    have : n = 248 := by
      revert h hn
      fin_cases p
      · exact fun _ h => (Option.some.inj h).symm
      all_goals exact fun h _ => nomatch h
    omega
  · intro i h n hn
    revert h hn
    fin_cases i
    · exact fun _ h => Option.some.inj h ▸ by decide
    all_goals exact fun h _ => nomatch h

theorem witness_ResetPin :
    (State.heldReset 0).resetLow = true ∧ State.reset.resetLow = false
      ∧ Instr.stateGet ≠ .resetPinAssert ∧ ∀ straps, Instr.stateGet ≠ .resetPinRelease straps :=
  ⟨rfl, rfl, nofun, nofun⟩

/-- A RESET FULL has been served; its reply is being sent. -/
def resetting : State :=
  { served with
    mod := { served.mod with resetAsked := true }
    link := { served.link with sending := some { queue := .replies, bytes := [], resets := true }, slotsUsed := 1 } }

theorem witness_ResetFull :
    (ready served 0x04 9 [1]).headIs 0x04 9 [1] []
      ∧ (resetting.resetLow = false ∧ resetting.mod.resetAsked = true)
      ∧ ∃ x, resetting.link.sending = some x ∧ x.resets = true :=
  ⟨served_headIs .., ⟨rfl, rfl⟩, _, rfl, rfl⟩

/-- The map check is in hand. -/
def checking : State :=
  { served with mod := { served.mod with mode := .checking, commit := some { tag := 3, label := 5 } } }

/-- A map check and a capture are in hand, and screen 0 waits for a panel's query behind a FENCE that is DONE. -/
def inFlight : State :=
  { checking with
    panels := served.panels.set 3 { Panel.reset with
      config := { PanelConfig.reset with enabled := true }, state := .capturing
      capture := some { tag := 3, sums := .replicate 960 0, count := 7 } }
    screens := served.screens.set 0 (asking
      [{ id := 0, asker := .host 7, ask := .fence 1, result := some (.bare .ok) },
       { id := 1, asker := .panel 3, ask := .directory 0, result := none }])
    link := { served.link with reserved := 1 } }

theorem witness_ResetSessions :
    ((ready served 0x04 9 [0]).CheckInHand ∧ (ready served 0x04 9 [0]).headIs 0x04 9 [0] [])
      ∧ (ready inFlight 0x04 9 [0]).CheckInHand ∧ (ready inFlight 0x04 9 [0]).headIs 0x04 9 [0] [] :=
  ⟨⟨by simp [State.CheckInHand, ready, served, State.reset, State.started, State.heldReset], served_headIs ..⟩,
    by simp [State.CheckInHand, ready, inFlight, checking], rfl, rfl, rfl, rfl⟩

/-! ## Witnesses: the link -/

theorem witness_FrameReceivedIsJudged :
    (served.resetLow = false ∧ served.link.hunter = .hunting ∧ (List.replicate 1024 (0 : Byte)).length ≤ 1024)
      ∧ (0 : BitVec 16) ≠ frameCheck 1 2 []
      ∧ ((loaded 7 23).link.hunter = .hunting ∧ (loaded 7 23).link.inbound.length < 8 ∧ (loaded 7 23).link.slotsUsed < 24)
      ∧ 8 ≤ (loaded 8 8).link.inbound.length ∧ 24 ≤ (loaded 0 24).link.slotsUsed :=
  ⟨⟨rfl, rfl, by rw [List.length_replicate]⟩, by decide +kernel, ⟨rfl, by decide, by decide⟩, by decide, by decide⟩

theorem witness_ReceiveHunter :
    (served.resetLow = false ∧ served.link.hunter = .hunting ∧ (0x5B : Byte) ≠ 0x5A)
      ∧ (hunting (.header [7, 0]) 0).link.hunter = .header [7, 0]
      ∧ ((hunting (.header [0]) 0).link.hunter = .header [0] ∧ (0 : Byte).toNat + 256 * (4 : Byte).toNat ≤ 1024)
      ∧ ((hunting (.header [1]) 0).link.hunter = .header [1] ∧ 1024 < (1 : Byte).toNat + 256 * (4 : Byte).toNat)
      ∧ (hunting (.header [1, 0, 4]) 0).link.hunter = .header [1, 0, 4]
      ∧ (hunting (.body 1 4 2 [1]) 0).link.hunter = .body 1 4 2 [1] ∧ ([1] : List Byte).length + 1 < 1 + 2 :=
  ⟨⟨rfl, rfl, by decide⟩, rfl, ⟨rfl, by decide⟩, ⟨rfl, by decide⟩, rfl, rfl, by decide⟩

theorem witness_LinkReady :
    ((loaded 6 22).link.hunter = .hunting ∧ (loaded 6 22).linkReady = true)
      ∧ (loaded 7 23).linkReady = false ∧ (loaded 7 23).resetLow = false ∧ (loaded 7 23).link.inbound.length < 8
      ∧ (loaded 7 23).link.slotsUsed < 24 := by decide

theorem witness_DispatcherRefuses :
    ((ready served 0x15 9 []).headIs 0x15 9 [] [] ∧ 0x14 < (0x15 : Byte).toNat)
      ∧ ((ready served 0x0C 9 (.replicate 37 0)).headIs 0x0C 9 (.replicate 37 0) []
        ∧ (List.replicate 37 (0 : Byte)).length ≠ 38)
      ∧ ((ready served 0x06 9 (.replicate 1025 0)).headIs 0x06 9 (.replicate 1025 0) []
        ∧ 1024 < (List.replicate 1025 (0 : Byte)).length)
      ∧ ((ready served 0x0F 9 [0, 0, 0]).headIs 0x0F 9 [0, 0, 0] []
        ∧ ∀ n ≤ 64, ([0, 0, 0] : List Byte).length ≠ 2 + 14 * n)
      ∧ ((ready served 0x11 9 [0, 0]).headIs 0x11 9 [0, 0] [] ∧ ∀ n ≤ 64, ([0, 0] : List Byte).length ≠ 3 + 4 * n)
      ∧ (ready checking 0x02 9 [0]).headIs 0x02 9 [0] [] ∧ checking.mod.mode ∈ [Mode.checking] :=
  ⟨⟨served_headIs .., by decide⟩, ⟨served_headIs .., by decide⟩,
    ⟨served_headIs .., by rw [List.length_replicate]; decide⟩, ⟨served_headIs .., by simp; omega⟩,
    ⟨served_headIs .., by simp; omega⟩, ⟨rfl, rfl, rfl, rfl⟩, by decide⟩

def item (release : Option (Fin 4 × Nat)) : OutItem :=
  { cls := 0x8B, tag := 1, payload := [0], release := release, resets := false }

/-- These items in the two outbound queues. -/
def queued (replies reports : List OutItem) : State :=
  { served with
    link := { served.link with replies := replies, reports := reports, slotsUsed := replies.length }
    screens := served.screens.set 0 { asking [] with released := 2 } }

def sending (q : OutQueue) : State :=
  { served with link := { served.link with
      sending := some { queue := q, bytes := [1], resets := false }, slotsUsed := 1 } }

/-- The first result of a screen is never blocked, and neither is an item that is no screen's result. -/
theorem item_first (i : Fin 4) (other : List OutItem) : ¬ (item (some (i, 0))).BlockedBy other := by
  rintro ⟨_, n, h, _, _, m, _, hm⟩
  obtain rfl : n = 0 := (Prod.mk.inj (Option.some.inj h)).2.symm
  omega

theorem item_behind (i : Fin 4) (n : Nat) (front back : List OutItem) :
    (item (some (i, n + 1))).BlockedBy (front ++ item (some (i, n)) :: back) :=
  ⟨i, n + 1, rfl, item (some (i, n)), by simp, n, rfl, by omega⟩

theorem witness_Transmission :
    (∃ x, (sending .replies).link.sending = some x ∧ x.resets = false ∧ x.queue = .replies)
      ∧ (∃ x, (sending .reports).link.sending = some x ∧ x.resets = false ∧ x.queue = .reports)
      ∧ ((queued [] []).link.sending = none ∧ (queued [] []).link.replies = [] ∧ (queued [] []).link.reports = [])
      ∧ ((queued [item (some (0, 0))] [item (some (0, 1))]).link.replies = item (some (0, 0)) :: []
        ∧ ¬ (item (some (0, 0))).BlockedBy [item (some (0, 1))]
        ∧ ∀ o, [item (some (0, 1))].head? = some o → o.BlockedBy [item (some (0, 0))])
      ∧ ((queued [item (some (0, 1))] [item (some (1, 0)), item (some (0, 0))]).link.reports
            = item (some (1, 0)) :: [item (some (0, 0))]
        ∧ ¬ (item (some (1, 0))).BlockedBy [item (some (0, 1))]
        ∧ ∀ o, [item (some (0, 1))].head? = some o → o.BlockedBy [item (some (1, 0)), item (some (0, 0))])
      ∧ ((queued [item (some (0, 0))] [item (some (1, 0))]).link.replies = item (some (0, 0)) :: []
        ∧ (queued [item (some (0, 0))] [item (some (1, 0))]).link.reports = item (some (1, 0)) :: []
        ∧ ¬ (item (some (0, 0))).BlockedBy [item (some (1, 0))] ∧ ¬ (item (some (1, 0))).BlockedBy [item (some (0, 0))]
        ∧ (item (some (1, 0))).cls ≠ 0x40)
      ∧ (State.reset.link.reports = startedReport 0 :: [] ∧ (startedReport 0).cls = 0x40
        ∧ ∀ other, ¬ (startedReport 0).BlockedBy other) :=
  ⟨⟨_, rfl, rfl, rfl⟩, ⟨_, rfl, rfl, rfl⟩, ⟨rfl, rfl, rfl⟩,
    ⟨rfl, item_first _ _, fun o h => Option.some.inj h ▸ item_behind 0 0 [] []⟩,
    ⟨rfl, item_first _ _, fun o h => Option.some.inj h ▸ item_behind 0 0 [item (some (1, 0))] []⟩,
    ⟨rfl, rfl, item_first _ _, item_first _ _, by decide⟩, rfl, rfl, fun _ ⟨_, _, h, _⟩ => nomatch h⟩

theorem witness_ArbiterNeverStuck :
    (queued [item (some (0, 1))] [item (some (0, 0))]).ReleaseOrder
      ∧ (queued [item (some (0, 1))] [item (some (0, 0))]).link.replies ≠ [] := by
  refine ⟨⟨⟨[(.reports, item (some (0, 0))), (.replies, item (some (0, 1)))], rfl, rfl, ?_⟩, ?_⟩, nofun⟩
  · simp [OutItem.before, item]
    omega
  · simp [queued, item, served, asking]

theorem witness_ReportMask :
    (ready (queued [] (.replicate 26 (item none))) 0x13 9 [0]).headIs 0x13 9 [0] []
      ∧ (ready (queued [] (.replicate 26 (item none))) 0x13 9 [0]).link.reportsHeld
        + (ready (queued [] (.replicate 26 (item none))) 0x13 9 [0]).link.reserved + 6 ≤ 32 :=
  ⟨⟨rfl, rfl, rfl, rfl⟩, by decide⟩

/-! ## Witnesses: mode control -/

theorem witness_StateGet : (ready checking 0x01 9 []).headIs 0x01 9 [] [] := ⟨rfl, rfl, rfl, rfl⟩

/-- One route request of screen 0 waits in the search queue, alone or with another. -/
def searching (others : List Ref) : State :=
  { units (servedWith (asking [hostRoute])) .held .held with
    search := { (units served .held .held).search with
      queue := [{ key := routeKey, requesters := { screen := 0, id := 0 } :: others, unit := none }] } }

theorem witness_EntryToLoading :
    (ready (searching []) 0x02 9 [0]).headIs 0x02 9 [0] [] ∧ (ready (searching []) 0x02 9 [0]).mod.mode.serving = true
      ∧ ∃ e, (ready (searching []) 0x02 9 [0]).search.queue = [e] ∧ e.requesters = [{ screen := 0, id := 0 }]
        ∧ (ready (searching []) 0x02 9 [0]).rco.job = none ∧ (ready (searching []) 0x02 9 [0]).dir.queue = []
        ∧ (ready (searching []) 0x02 9 [0]).dir.scan = none
        ∧ (ready (searching []) 0x02 9 [0]).screens[(0 : Fin 4).val].outstanding =
          [{ id := 0, asker := .host 7, ask := .route routeKey false, result := none }] :=
  ⟨⟨rfl, rfl, rfl, rfl⟩, rfl, _, rfl, rfl, rfl, rfl, rfl, rfl⟩

/-- A host's route, a DONE fence and a panel's route whose report is masked, the two routes in the search queue. -/
def mixed : State :=
  { servedWith (asking [hostRoute, { id := 1, asker := .host 8, ask := .fence 5, result := some (.bare .ok) },
      { id := 2, asker := .panel 3, ask := .route routeKey false, result := none }]) with
    search := (searching [{ screen := 0, id := 2 }]).search
    link := { served.link with mask := 0b000100, reserved := 1 } }

theorem witness_EntryToLoading_held :
    (ready mixed 0x02 9 [0]).headIs 0x02 9 [0] [] ∧ mixed.mod.mode.serving = true ∧ mixed.EveryEntryHeld ∧ mixed.HeadsWait
      ∧ mixed.link.discards { id := 2, asker := .panel 3, ask := .route routeKey false, result := none } = true := by
  refine ⟨⟨rfl, rfl, rfl, rfl⟩, rfl, ?_, ?_, rfl⟩
  · unfold State.EveryEntryHeld; decide +kernel
  · exact fun i e h => by fin_cases i <;> first | exact Option.some.inj h ▸ rfl | cases h

/-- MODE_SET FROZEN has been served while unit 0 runs. -/
def freezing : State :=
  { units (inMode .frozen served) .running .idle with
    mod := { served.mod with mode := .frozen, freezing := some 9 } }

theorem witness_ModeSetFreezeAndReturn_unchanged :
    ((ready (inMode .frozen served) 0x02 9 [3]).headIs 0x02 9 [3] []
        ∧ (ready (inMode .frozen served) 0x02 9 [3]).mod.mode = .frozen)
      ∧ ((ready served 0x02 9 [1]).headIs 0x02 9 [1] [] ∧ (ready served 0x02 9 [1]).mod.mode = .service)
      ∧ (ready served 0x02 9 [4]).headIs 0x02 9 [4] [] ∧ 3 < (4 : Byte).toNat :=
  ⟨⟨⟨rfl, rfl, rfl, rfl⟩, rfl⟩, ⟨served_headIs .., rfl⟩, served_headIs .., by decide⟩

theorem witness_ModeSetFreezeAndReturn :
    ((ready served 0x02 9 [3]).headIs 0x02 9 [3] [] ∧ (ready served 0x02 9 [3]).mod.mode = .service
        ∧ ∀ u : Fin 2, (ready served 0x02 9 [3]).search.units[u.val].state ≠ .running)
      ∧ ((ready (units served .idle .running) 0x02 9 [3]).headIs 0x02 9 [3] []
        ∧ ∃ u : Fin 2, (ready (units served .idle .running) 0x02 9 [3]).search.units[u.val].state = .running)
      ∧ (freezing.resetLow = false ∧ freezing.mod.mode = .frozen ∧ freezing.mod.freezing = some 9 ∧ (0 : Fin 2) ≠ 1
        ∧ freezing.search.units[(0 : Fin 2).val].state = .running
        ∧ freezing.search.units[(1 : Fin 2).val].state ≠ .running)
      ∧ (ready (units (inMode .frozen served) .held .idle) 0x02 9 [2]).headIs 0x02 9 [2] []
        ∧ (ready (units (inMode .frozen served) .held .idle) 0x02 9 [2]).mod.mode = .frozen
        ∧ ∀ e ∈ (ready (units (inMode .frozen served) .held .idle) 0x02 9 [2]).search.queue, e.unit ≠ none :=
  ⟨⟨served_headIs .., rfl, fun u => by fin_cases u <;> exact nofun⟩, ⟨⟨rfl, rfl, rfl, rfl⟩, 1, rfl⟩,
    ⟨rfl, rfl, rfl, by decide, rfl, nofun⟩, ⟨rfl, rfl, rfl, rfl⟩, rfl, nofun⟩

/-- FROZEN, with units in these states and requests for these waypoints WAITING. -/
def returning (a b : UnitState) (waiting : List (BitVec 16)) : State :=
  { units (inMode .frozen served) a b with
    search := { (units served a b).search with queue := waiting.map fun n =>
      { key := { routeKey with number := n }, requesters := [{ screen := 0, id := n.toNat }], unit := none } } }

theorem witness_ModeSetFreezeAndReturn_grants :
    ((ready (returning .held .idle [2]) 0x02 9 [2]).headIs 0x02 9 [2] []
        ∧ (returning .held .idle [2]).search.units[(1 : Fin 2).val].state = .idle
        ∧ (∀ v : Fin 2, v ≠ 1 → (returning .held .idle [2]).search.units[v.val].state ≠ .idle)
        ∧ ∃ e after, Granted 1 (returning .held .idle [2]).search.queue e after)
      ∧ ((∀ u : Fin 2, (returning .idle .idle [2]).search.units[u.val].state = .idle)
        ∧ ∃ e after, Granted 0 (returning .idle .idle [2]).search.queue e after ∧ NoneWaits after)
      ∧ (∃ e f between after, Granted 0 (returning .idle .idle [2, 1]).search.queue e between ∧ Granted 1 between f after)
      ∧ (∀ u : Fin 2, (returning .held .handoff [2]).search.units[u.val].state ≠ .idle) :=
  ⟨⟨⟨rfl, rfl, rfl, rfl⟩, rfl, by decide, _, _, [], [], rfl, nofun, rfl, rfl⟩,
    ⟨by decide, _, _, ⟨[], [], rfl, nofun, rfl, rfl⟩, fun e h => List.mem_singleton.mp h ▸ nofun⟩,
    ⟨_, _, _, _, ⟨[], [_], rfl, nofun, rfl, rfl⟩, [_], [], rfl, fun e h => List.mem_singleton.mp h ▸ nofun, rfl, rfl⟩,
    by decide⟩

/-- An empty map whose check is in hand. -/
def checkingEmpty : State :=
  { State.reset with mod := { State.reset.mod with mode := .checking, commit := some { tag := 3, label := 5 } } }

theorem witness_MapCommit :
    ((ready State.reset 0x03 9 [1, 2, 3, 4, 5, 6, 7, 8]).headIs 0x03 9 [1, 2, 3, 4, 5, 6, 7, 8] []
        ∧ ([1, 2, 3, 4, 5, 6, 7, 8] : List Byte).length = 8 ∧ State.reset.mod.mode = .loading)
      ∧ (checking.resetLow = false ∧ checking.mod.mode = .checking
        ∧ checking.mod.commit = some { tag := 3, label := 5 } ∧ checking.allFindings = [])
      ∧ checkingEmpty.mod.mode = .checking ∧ checkingEmpty.mod.commit = some { tag := 3, label := 5 }
        ∧ checkingEmpty.allFindings ≠ [] :=
  ⟨⟨⟨rfl, rfl, rfl, rfl⟩, rfl, rfl⟩, ⟨rfl, rfl, rfl, by decide +kernel⟩, rfl, rfl, by decide +kernel⟩

theorem witness_UnitPeek :
    ((ready served 0x14 9 [2]).headIs 0x14 9 [2] [] ∧ 1 < (2 : Byte).toNat)
      ∧ (ready served 0x14 9 [1]).headIs 0x14 9 [1] [] ∧ (1 : Byte).toNat = (1 : Fin 2).val
      ∧ SearchUnit.idle = (ready served 0x14 9 [1]).search.units[(1 : Fin 2).val] :=
  ⟨⟨served_headIs .., by decide⟩, served_headIs .., rfl, rfl⟩

/-! ## Witnesses: the load stream -/

/-- The cursor stands here in a part in LOADING. -/
def opened (t : TableId) (i : Nat) : State :=
  { State.reset with map := { State.reset.map with cursor := some { table := t, index := i } } }

def capturing : Panel := { panelIn .capturing .sensor with capture := some { tag := 3, sums := .replicate 960 0, count := 7 } }

theorem witness_LoadOpen :
    ((ready served 0x05 9 ([1] ++ le 2 16384 ++ [0])).headIs 0x05 9 ([1] ++ le 2 16384 ++ [0]) []
        ∧ served.mod.mode ≠ .checking ∧ (1 : Byte) = TableId.segments.code ∧ 16384 ≤ TableId.segments.capacity
        ∧ (0 : Byte).getLsbD 0 = false)
      ∧ ((1 : Byte).getLsbD 0 = true ∧ TableId.segments.inService = true ∧ served.mod.mode ≠ .loading)
      ∧ State.reset.mod.mode = .loading
      ∧ ((4 : Byte) = (TableId.curve 0).code ∧ 256 ≤ (TableId.curve 0).capacity
        ∧ ∀ k : Fin 256, identityCurve[k.val].toNat = k.val)
      ∧ ((8 : Byte) = (TableId.baseline 0).code ∧ served.panels[(0 : Fin 4).val].state ≠ .capturing
        ∧ (withPanel capturing).panels[(0 : Fin 4).val].state = .capturing)
      ∧ checking.mod.mode = .checking
      ∧ 11 < (12 : Byte).toNat ∧ (0 : Byte) = TableId.waypoints.code ∧ TableId.waypoints.capacity < 4097 :=
  ⟨⟨served_headIs .., nofun, rfl, by decide, by decide⟩, ⟨by decide, rfl, nofun⟩, rfl,
    ⟨rfl, by decide, fun k => by simp [identityCurve]⟩, ⟨rfl, nofun, rfl⟩, rfl, by decide, rfl, by decide⟩

theorem witness_LoadWrite :
    ((ready (opened .waypoints 4095) 0x06 9 [4, 0, 4, 0]).headIs 0x06 9 [4, 0, 4, 0] []
        ∧ (opened .waypoints 4095).map.cursor = some { table := .waypoints, index := 4095 }
        ∧ (opened .waypoints 4095).mod.mode = .loading ∧ (∀ q : Fin 4, TableId.waypoints ≠ .baseline q)
        ∧ ([4, 0, 4, 0] : List Byte).length = 2 * TableId.waypoints.recordSize
        ∧ 1 = min 2 (TableId.waypoints.capacity - 4095))
      ∧ (TableId.waypoints.inService = true ∧ served.mod.mode.serving = true)
      ∧ (withPanel capturing).mod.mode ≠ .checking
        ∧ ∃ q, TableId.baseline 0 = .baseline q ∧ (withPanel capturing).panels[q.val].state = .capturing :=
  ⟨⟨⟨rfl, rfl, rfl, rfl⟩, rfl, rfl, nofun, rfl, rfl⟩, ⟨rfl, rfl⟩, nofun, 0, rfl, rfl⟩

theorem witness_LoadRead :
    (ready (opened (.curve 0) 255) 0x07 9 (le 2 65535)).headIs 0x07 9 (le 2 65535) []
      ∧ (opened (.curve 0) 255).mod.mode ≠ .checking
      ∧ (opened (.curve 0) 255).map.cursor = some { table := .curve 0, index := 255 } :=
  ⟨⟨rfl, rfl, rfl, rfl⟩, nofun, rfl⟩

theorem witness_RecordRoundTrips :
    ((walkway 0 1 1).length ≠ 0 ∧ (walkway 0 1 1).delta ≠ 0b10000)
      ∧ (5 ≤ Profile.standard.speed.toNat ∧ Profile.standard.speed.toNat ≤ 25)
      ∧ (5 : Byte).toNat = min (max (4 : Byte).toNat 5) 25 ∧ (25 : Byte).toNat = min (max (26 : Byte).toNat 5) 25 := by decide

theorem witness_RecordRoundTrips_layouts :
    ((2 : BitVec 16).toNat = (2 : Byte).toNat + 256 * (0 : Byte).toNat ∧ 8 < (9 : Byte).toNat)
      ∧ (([.departTurn, .walk, .takeEscalator, .takeStairs, .takeLift, .takeRamp, .takeTravelator, .passDoor, .goOutside,
          .continueOn, .arrive] : List StepAction)[(10 : Byte).toNat]? = some .arrive
        ∧ ([.none, .straight, .slightRight, .right, .sharpRight, .uTurn, .sharpLeft, .left, .slightLeft] :
          List TurnClass)[(8 : Byte).toNat]? = some .slightLeft)
      ∧ ∀ k : Fin 8, (0b10001 : Byte).getLsbD k.val = ([true, false, false, false, true].getD k.val false) := by decide

/-! ## Witnesses: closures and sessions -/

/-- The served part with segment 3 CLOSED and the generation at its top. -/
def closed3 : State :=
  { served with map := { served.map with
      segments := walkways.set 3 { walkway 2 1 30 with closed := true }, closedCount := 1, generation := 65535 } }

theorem witness_SegmentClosed :
    (ready served 0x08 9 (le 2 3 ++ [1])).headIs 0x08 9 (le 2 3 ++ [1]) [] ∧ 3 < served.segmentCount
      ∧ served.mod.mode ≠ .checking ∧ (served.segment 3).closed = false ∧ (closed3.segment 3).closed = true :=
  ⟨served_headIs .., by decide, nofun, by decide, by decide⟩

theorem witness_SegmentReopened :
    ((ready closed3 0x08 9 (le 2 3 ++ [0])).headIs 0x08 9 (le 2 3 ++ [0]) [] ∧ closed3.mod.mode ≠ .checking
        ∧ 3 < closed3.segmentCount ∧ (closed3.segment 3).closed = true ∧ closed3.map.generation = 65535)
      ∧ (served.segment 3).closed = false ∧ served.segmentCount ≤ 4 ∧ 1 < (2 : Byte).toNat
      ∧ checking.mod.mode = .checking :=
  ⟨⟨⟨rfl, rfl, rfl, rfl⟩, nofun, by decide, by decide, rfl⟩, by decide, by decide, by decide, rfl⟩

theorem witness_ListingSet :
    ((ready served 0x09 9 (le 2 0 ++ [2])).headIs 0x09 9 (le 2 0 ++ [2]) [] ∧ served.mod.mode ≠ .checking
        ∧ 0 < served.listingCount ∧ (2 : Byte) = BitVec.ofNat 8 ListingStatus.hidden.code)
      ∧ served.listingCount ≤ 1 ∧ 2 < (3 : Byte).toNat ∧ checking.mod.mode = .checking :=
  ⟨⟨served_headIs .., nofun, by decide, by decide⟩, by decide, by decide, rfl⟩

/-- A SCREEN_SET of screen 0 with these values of ENABLED and of the timeout. -/
def screenSetting (e : Byte) (n : Nat) : List Byte :=
  [BitVec.ofNat 8 (0 : Fin 4).val, e] ++ le 2 2 ++ [0, 7] ++ le 2 4096 ++ le 2 1 ++ le 2 n

def idleFor (ms : Nat) : State := servedWith { asking [] with idle := some ms }

theorem witness_ScreenSet :
    ((ready (idleFor 9999) 0x0A 9 (screenSetting 1 9)).headIs 0x0A 9 (screenSetting 1 9) []
        ∧ (1 : Byte).toNat ≤ 1 ∧ (7 : Byte).toNat < 8 ∧ (idleFor 9999).mod.mode ≠ .checking
        ∧ 2 < (idleFor 9999).waypointCount ∧ (idleFor 9999).screens[0].outstanding = []
        ∧ ∀ ms, (idleFor 9999).screens[0].idle = some ms → ms < min (max 9 10) 600 * 1000)
      ∧ (State.reset.screens[0].outstanding = [] ∧ State.reset.screens[0].enabled = false
        ∧ State.reset.screens[0].active = false)
      ∧ (served.screens[0].outstanding = [] ∧ served.screens[0].enabled = true)
      ∧ ((idleFor 10000).screens[0].active = true ∧ (idleFor 10000).screens[0].idle = some 10000
        ∧ min (max 9 10) 600 * 1000 ≤ 10000 ∧ (idleFor 10000).EnginesQuiet ∧ (idleFor 10000).WorkHeld
        ∧ (idleFor 10000).reportsFreely .session)
      ∧ (searching []).screens[0].outstanding ≠ [] :=
  ⟨⟨⟨rfl, rfl, rfl, rfl⟩, by decide, by decide, nofun, by decide, rfl,
      fun ms h => Option.some.inj h ▸ by decide⟩,
    ⟨rfl, rfl, rfl⟩, ⟨rfl, rfl⟩,
    ⟨rfl, rfl, by decide, ⟨rfl, rfl, nofun⟩, ⟨nofun, nofun⟩, rfl, by decide⟩, nofun⟩

/-! ## Witnesses: route and directory requests -/

/-- A ROUTE_ASK of screen 0 for waypoint 2, with its own profile 7 and its own origin 2. -/
def askRoute (s : State) : State := ready s 0x0B 9 ([0, 1] ++ le 2 2 ++ [3, 7] ++ le 2 2)

theorem askRoute_asked (s : State) (h : s.resetLow = false) (h' : s.mod.resetAsked = false) (h'' : s.mod.freezing = none)
    (m : s.mod.mode.serving = true) (e : s.screens[0].enabled = true) (w : s.waypointCount = 3) :
    (askRoute s).routeAsked 0 9 .waypoint 2 3 7 2 [] :=
  ⟨⟨h, h', h'', rfl⟩, m, e, by decide, by decide, nofun, fun _ => by show 2 < s.waypointCount; omega,
    fun _ => by decide, fun _ => by show 2 < s.waypointCount; omega⟩

def askedKey : Key := { origin := 2, kind := .waypoint, number := 2, profile := 7 }

/-- Screen 0 waits for three routes; the search queue holds this key. -/
def three (k : Key) : State :=
  { units (servedWith (asking [hostRoute, hostRoute, hostRoute])) .held .held with
    search := { (units served .held .held).search with
      queue := [{ key := k, requesters := [{ screen := 0, id := 0 }], unit := some 0 }] } }

theorem witness_RouteAskMiss :
    ((askRoute (three routeKey)).routeAsked 0 9 .waypoint 2 3 7 2 [] ∧ (three routeKey).screens[0].outstanding.length < 4
        ∧ (three routeKey).screens[0].headWaits ∧ (three routeKey).rcc.find askedKey = none
        ∧ askedKey = (three routeKey).screens[0].askedKey .waypoint 2 3 7 2
        ∧ (three routeKey).rco.queue = [] ∧ (three routeKey).dir.queue = []
        ∧ (∀ u : Fin 2, (three routeKey).search.units[u.val].state ≠ .idle)
        ∧ ∀ e ∈ (three routeKey).search.queue, e.key ≠ askedKey)
      ∧ ((askRoute (three askedKey)).routeAsked 0 9 .waypoint 2 3 7 2 [] ∧ (three askedKey).QueueLaw
        ∧ ∃ e ∈ (three askedKey).search.queue, e.key = askedKey)
      ∧ (askRoute served).routeAsked 0 9 .waypoint 2 3 7 2 [] ∧ served.mod.mode = .service
        ∧ served.search.units[0].state = .idle ∧ served.search.queue = [] := by
  refine ⟨⟨askRoute_asked _ rfl rfl rfl rfl rfl rfl, by decide, ?_, by decide +kernel, rfl, rfl, rfl, ?_, ?_⟩,
    ⟨askRoute_asked _ rfl rfl rfl rfl rfl rfl, ?_, _, List.mem_singleton.mpr rfl, rfl⟩,
    askRoute_asked _ rfl rfl rfl rfl rfl rfl, rfl, rfl, rfl⟩
  · exact fun e h => Option.some.inj h ▸ rfl
  · exact fun u => by fin_cases u <;> exact nofun
  · simp [three, routeKey, askedKey]
  · simp [State.QueueLaw, three]

/-- A route of two steps to waypoint 2. -/
def shortRoute : ComposedRoute :=
  { ComposedRoute.blank with
    key := askedKey, entrance := 2
    steps := [{ action := .walk, turn := .none, length := 70, levelCode := 4, endWaypoint := 2, landmark := 0x3FF },
      { action := .arrive, turn := .none, length := 0, levelCode := 4, endWaypoint := 2, landmark := 0x3FF }] }

/-- The part with that route at entry 216, the first of the key's primary group 27. -/
def cached : State :=
  { served with rcc := { served.rcc with
      entries := served.rcc.entries.set 216 { CacheEntry.reset with valid := true, route := shortRoute, segments := [0, 2] } } }

def hiddenShop : State := { served with dir := { served.dir with listings := [{ shop with status := .hidden }] } }

/-- A ROUTE_ASK of screen 0 for listing 0. -/
def askShop (s : State) : State := ready s 0x0B 9 ([0, 0] ++ le 2 0 ++ [0, 0] ++ le 2 0)

theorem witness_RouteAskAtOnce :
    ((askRoute cached).routeAsked 0 9 .waypoint 2 3 7 2 [] ∧ cached.screens[0].outstanding = [] ∧ cached.EnginesQuiet
        ∧ cached.rcc.find askedKey = some 216 ∧ (cached.rcc.at 216).generation = cached.map.generation
        ∧ (∀ g ∈ (cached.rcc.at 216).segments, g ∉ cached.rcc.sweep) ∧ (cached.rcc.at 216).route = shortRoute)
      ∧ ((askShop hiddenShop).routeAsked 0 9 .listing 0 0 0 0 [] ∧ (hiddenShop.listing 0).status = .hidden
        ∧ hiddenShop.EnginesQuiet ∧ hiddenShop.screens[0].outstanding = [])
      ∧ (4 ≤ (asking [hostRoute, hostRoute, hostRoute, hostRoute]).outstanding.length)
      ∧ (ready served 0x0B 9 [4, 0, 0, 0, 0, 0, 0, 0]).headIs 0x0B 9 [4, 0, 0, 0, 0, 0, 0, 0] []
        ∧ 3 < (4 : Byte).toNat ∧ (1 : Byte).toNat = (1 : Fin 4).val ∧ served.screens[(1 : Fin 4).val].enabled = false :=
  ⟨⟨askRoute_asked _ rfl rfl rfl rfl rfl rfl, rfl, ⟨rfl, rfl, nofun⟩, by decide +kernel, rfl,
      by simp [cached, served, State.reset, State.started, State.heldReset], rfl⟩,
    ⟨⟨⟨rfl, rfl, rfl, rfl⟩, rfl, rfl, by decide, by decide, by decide, nofun, nofun, nofun⟩, rfl, ⟨rfl, rfl, nofun⟩, rfl⟩,
    by decide, served_headIs .., by decide, rfl, rfl⟩

/-- R104: the match is of another generation, or one of its segments stands in the sweep list; RSU1 is the one IDLE unit. -/
theorem witness_RouteAskMiss_invalidated :
    let s := units { cached with map := { cached.map with generation := 1 } } .held .idle
    let t := units { cached with rcc := { cached.rcc with sweep := [2] } } .idle .idle
    ((askRoute s).routeAsked 0 9 .waypoint 2 3 7 2 [] ∧ s.rcc.find askedKey = some 216
        ∧ (s.rcc.at 216).generation ≠ s.map.generation ∧ s.mod.mode = .service
        ∧ s.search.units[(1 : Fin 2).val].state = .idle ∧ s.search.units[0].state ≠ .idle ∧ NoneWaits s.search.queue
        ∧ ∀ e ∈ s.search.queue, e.key ≠ askedKey)
      ∧ ((askRoute t).routeAsked 0 9 .waypoint 2 3 7 2 [] ∧ t.rcc.find askedKey = some 216
        ∧ (∃ g ∈ (t.rcc.at 216).segments, g ∈ t.rcc.sweep) ∧ t.search.units[(0 : Fin 2).val].state = .idle)
      ∧ NoneWaits (three askedKey).search.queue :=
  ⟨⟨askRoute_asked _ rfl rfl rfl rfl rfl rfl, by decide +kernel, by decide +kernel, rfl, rfl, nofun, nofun, nofun⟩,
    ⟨askRoute_asked _ rfl rfl rfl rfl rfl rfl, by decide +kernel, by decide +kernel, rfl⟩,
    fun e h => List.mem_singleton.mp h ▸ nofun⟩

/-- A DIRECTORY_ASK of screen 0 for keys that start with this symbol. -/
def directoryAsk (symbol len m : Byte) (terms : List Byte) : List Byte :=
  [BitVec.ofNat 8 (0 : Fin 4).val, 0, len] ++ (symbol :: .replicate 15 0) ++ le 2 65535 ++ [m] ++ terms

def noTerms : List Byte := .replicate 16 0

def aQuery : Query := { ref := { screen := 0, id := 0 }, pfx := [15], terms := Terms.empty, offset := 65535, maximum := 16 }

/-- The query has the one listing still before it. -/
def aScan : Scan :=
  { query := aQuery, position := 0, stop := 1, total := 0, kept := [], nextSymbols := 0, detached := false }

def hostQuery : Entry := { id := 0, asker := .host 7, ask := .directory 65535, result := none }

def scanning (c : Scan) : State :=
  { servedWith (asking [hostQuery]) with dir := { served.dir with scan := some c } }

theorem witness_DirectoryAsk :
    ((ready served 0x0C 9 (directoryAsk 15 1 16 noTerms)).headIs 0x0C 9 (directoryAsk 15 1 16 noTerms) []
        ∧ (15 :: List.replicate 15 (0 : Byte)).length = 16 ∧ noTerms.length = 16 ∧ served.mod.mode.serving = true
        ∧ served.screens[(0 : Fin 4).val].enabled = true ∧ (1 : Byte).toNat ≤ 16 ∧ (16 : Byte).toNat ≤ 16
        ∧ (∀ b ∈ ([15] : List Byte), 1 ≤ b.toNat ∧ b.toNat ≤ 40))
      ∧ (16 < (17 : Byte).toNat ∧ 40 < (41 : Byte).toNat)
      ∧ (4 ≤ (asking [hostRoute, hostRoute, hostRoute, hostRoute]).outstanding.length)
      ∧ ((scanning aScan).dir.scan ≠ none ∧ (scanning aScan).rco.queue = [] ∧ (asking [hostQuery]).headWaits
        ∧ termsValid (termsOfBytes noTerms) = true)
      ∧ (served.dir.scan = none ∧ served.EnginesQuiet ∧ ∃ l ∈ served.dir.listings, startsWith [15] l = true)
      ∧ (∀ l ∈ served.dir.listings, startsWith [14] l = false)
      ∧ termsValid (termsOfBytes (1 :: .replicate 15 9)) = false :=
  ⟨⟨served_headIs .., rfl, rfl, rfl, rfl, by decide, by decide, by decide⟩, by decide, by decide,
    ⟨nofun, rfl, fun e h => Option.some.inj h ▸ rfl, by decide +kernel⟩,
    ⟨rfl, ⟨rfl, rfl, nofun⟩, shop, List.mem_singleton.mpr rfl, by decide⟩,
    fun l h => List.mem_singleton.mp h ▸ by decide, by decide +kernel⟩

theorem witness_DirectoryExamination :
    ((scanning { aScan with stop := 2 }).resetLow = false
        ∧ (scanning { aScan with stop := 2 }).dir.scan = some { aScan with stop := 2 }
        ∧ aScan.detached = false ∧ 0 + 1 < 2)
      ∧ ((scanning aScan).dir.scan = some aScan ∧ 1 ≤ 0 + 1 ∧ (scanning aScan).dir.queue = []
        ∧ (scanning aScan).screens[aScan.query.ref.screen.val].outstanding =
          [{ id := aScan.query.ref.id, asker := .host 7, ask := .directory 65535, result := none }])
      ∧ (scanning { aScan with detached := true }).dir.scan = some { aScan with detached := true } :=
  ⟨⟨rfl, rfl, rfl, by decide⟩, ⟨rfl, by decide, rfl, rfl⟩, rfl⟩

/-- R137: a query waits behind the scan, its run the one listing, or empty. -/
theorem witness_DirectoryExamination_next :
    let s := { scanning aScan with dir := { (scanning aScan).dir with queue := [aQuery] } }
    let t := { scanning { aScan with detached := true } with
      dir := { (scanning { aScan with detached := true }).dir with queue := [{ aQuery with pfx := [14] }] } }
    (s.dir.scan = some aScan ∧ s.dir.queue = aQuery :: [] ∧ s.PrefixRun aQuery.pfx 0 1)
      ∧ (t.dir.scan = some { aScan with detached := true } ∧ (∀ l ∈ t.dir.listings, startsWith [14] l = false)
        ∧ t.screens[aQuery.ref.screen.val].outstanding =
          [{ id := aQuery.ref.id, asker := .host 7, ask := .directory 65535, result := none }]) :=
  ⟨⟨rfl, rfl, by decide, by decide, nofun,
      fun j _ h => by obtain rfl : j = 0 := by omega
                      decide, fun h => absurd h (by decide)⟩,
    rfl, by decide, rfl⟩

def nextShop : Listing := { shop with key := #v[15, 1, 0, 0, 0, 0, 0, 0, 0, 0, 0, 0, 0, 0, 0, 0] }

theorem witness_DirectoryFindsAllMatches :
    (∀ n, n + 1 < [shop, nextShop].length →
      sortsBefore (keySymbols ([shop, nextShop].getD (n + 1) .reset).key)
        (keySymbols ([shop, nextShop].getD n .reset).key) = false)
      ∧ ((⟨2, 5, -4⟩ : Term).field = 2 ∧ (0 : Int) = (shop.levelCode.toNat : Int) - 4
        ∧ (-4 : Int) = (⟨2, 5, -4⟩ : Term).operand.toInt ∧ (⟨2, 5, -4⟩ : Term).condition = 5)
      ∧ (⟨4, 8, 0x8000⟩ : Term).field = 4 ∧ (⟨4, 8, 0x8000⟩ : Term).condition = 8 := by
  refine ⟨fun n h => ?_, by decide, by decide⟩
  obtain rfl : n = 0 := by simp at h; omega
  decide

theorem witness_Fence :
    ((ready served 0x0D 9 ([BitVec.ofNat 8 (0 : Fin 4).val] ++ le 4 (0xFFFFFFFF : BitVec 32).toNat)).headIs 0x0D 9
        ([BitVec.ofNat 8 (0 : Fin 4).val] ++ le 4 (0xFFFFFFFF : BitVec 32).toNat) []
        ∧ served.screens[(0 : Fin 4).val].enabled = true ∧ served.screens[0].outstanding = [])
      ∧ ((three routeKey).screens[0].outstanding ≠ [] ∧ (three routeKey).screens[0].headWaits
        ∧ (three routeKey).screens[0].outstanding.length < 4)
      ∧ 4 ≤ (asking [hostRoute, hostRoute, hostRoute, hostRoute]).outstanding.length :=
  ⟨⟨served_headIs .., rfl, rfl⟩, ⟨nofun, fun e h => Option.some.inj h ▸ rfl, by decide⟩, by decide⟩

/-- Screen 0 waits for a route, whose unit stands in HANDOFF behind another screen's job, and for a scan in hand. -/
def detaching : State :=
  { servedWith (asking [hostRoute, { hostQuery with id := 1 }]) with
    search := {
      queue := [{ key := routeKey, requesters := [{ screen := 0, id := 0 }], unit := some 0 }]
      units := #v[{ SearchUnit.idle with state := .handoff }, SearchUnit.idle] }
    rco := { queue := [0]
             job := some { key := routeKey, requesters := [{ screen := 1, id := 0 }], path := [], entrance := 0
                           detour := false, cacheable := false, captured := none, route := none } }
    dir := { served.dir with scan := some { aScan with query := { aQuery with ref := { screen := 0, id := 1 } } } } }

/-- The entries that a CANCEL of screen 0 reaches there. -/
def detached : List Ref := [{ screen := 0, id := 0 }, { screen := 0, id := 1 }]

theorem witness_Cancel_general :
    (ready detaching 0x0E 9 [0]).headIs 0x0E 9 [BitVec.ofNat 8 (0 : Fin 4).val] []
      ∧ detaching.screens[(0 : Fin 4).val].enabled = true
      ∧ detached = (detaching.screens[(0 : Fin 4).val].outstanding.filter fun e => decide (e.result = none)).map
          (fun e => { screen := 0, id := e.id })
      ∧ (ready detaching 0x0E 9 [0]).quietAfterDetaching detached
      ∧ (ready detaching 0x0E 9 [0]).drops detached 0 = true :=
  ⟨⟨rfl, rfl, rfl, rfl⟩, rfl, rfl,
    ⟨.inr (.inl fun e h => List.mem_singleton.mp h ▸ nofun), .inl ⟨_, rfl, by decide⟩, .inl nofun⟩, by decide⟩

theorem witness_Cancel :
    ((ready served 0x0E 9 [0]).headIs 0x0E 9 [BitVec.ofNat 8 (0 : Fin 4).val] []
        ∧ served.screens[0].outstanding = [] ∧ served.WorkHeld ∧ served.EnginesQuiet)
      ∧ ((ready (searching [{ screen := 1, id := 4 }]) 0x0E 9 [0]).headIs 0x0E 9 [BitVec.ofNat 8 (0 : Fin 4).val] []
        ∧ (searching [{ screen := 1, id := 4 }]).screens[0].enabled = true
        ∧ (searching [{ screen := 1, id := 4 }]).rco.queue = [] ∧ (searching [{ screen := 1, id := 4 }]).dir.queue = []
        ∧ (searching [{ screen := 1, id := 4 }]).screens[0].outstanding =
          [{ id := 0, asker := .host 7, ask := .route routeKey false, result := none }]
        ∧ (∃ e, (searching [{ screen := 1, id := 4 }]).search.queue = [e] ∧ e.unit = none
          ∧ e.requesters = { screen := 0, id := 0 } :: [{ screen := 1, id := 4 }])
        ∧ ({ screen := 0, id := 0 } : Ref) ∉ [({ screen := 1, id := 4 } : Ref)]
        ∧ (searching [{ screen := 1, id := 4 }]).rco.job = none ∧ (searching [{ screen := 1, id := 4 }]).dir.scan = none
        ∧ ∀ u : Fin 2, (searching [{ screen := 1, id := 4 }]).search.units[u.val].state ≠ .idle) :=
  ⟨⟨served_headIs .., rfl, ⟨nofun, nofun⟩, rfl, rfl, nofun⟩,
    ⟨rfl, rfl, rfl, rfl⟩, rfl, rfl, rfl, rfl, ⟨_, rfl, rfl, rfl⟩, by decide, rfl, rfl,
    fun u => by fin_cases u <;> exact nofun⟩

def panelQuery : Entry := { id := 1, asker := .panel 3, ask := .directory 0, result := none }

/-- Screen 0's panel query waits behind the scan of another screen's, the report queue holding 30 and reserving 1. -/
def panelWaiting : State :=
  { servedWith (asking [panelQuery]) with
    dir := { served.dir with
      queue := [{ aQuery with ref := { screen := 0, id := 1 } }]
      scan := some { aScan with query := { aQuery with ref := { screen := 1, id := 0 } } } }
    link := { served.link with reports := .replicate 30 (item none), reserved := 1 } }

theorem witness_SessionExpiry :
    (served.resetLow = false ∧ served.screens[0].active = false)
      ∧ ((servedWith (asking [hostQuery])).screens[0].active = true ∧ (asking [hostQuery]).headWaits
        ∧ (∀ e ∈ (asking [hostQuery]).outstanding, ∃ tag, e.asker = .host tag)
        ∧ (servedWith (asking [hostQuery])).EnginesQuiet ∧ (servedWith (asking [hostQuery])).WorkHeld
        ∧ (servedWith (asking [hostQuery])).reportsFreely .session ∧ (0b010000 : BitVec 6).getLsbD 4 = true)
      ∧ (panelWaiting.screens[0].active = true ∧ panelWaiting.screens[0].outstanding =
          [{ id := 1, asker := .panel 3, ask := .directory 0, result := none }]
        ∧ (∃ q z, panelWaiting.dir.queue = [q] ∧ q.ref = { screen := 0, id := 1 } ∧ panelWaiting.dir.scan = some z
          ∧ z.query.ref ≠ q.ref)
        ∧ panelWaiting.rco.queue = [] ∧ panelWaiting.search.queue = [] ∧ panelWaiting.rco.job = none
        ∧ 1 ≤ panelWaiting.link.reserved ∧ panelWaiting.reportsFreely .session
        ∧ panelWaiting.link.masked .matchList = false) :=
  ⟨⟨rfl, rfl⟩,
    ⟨rfl, fun e h => Option.some.inj h ▸ rfl, fun e h => ⟨7, List.mem_singleton.mp h ▸ rfl⟩, ⟨rfl, rfl, nofun⟩,
      ⟨nofun, nofun⟩, ⟨rfl, by decide⟩, by decide⟩,
    rfl, rfl, ⟨_, _, rfl, rfl, rfl, by decide⟩, rfl, rfl, rfl, by decide, ⟨rfl, by decide⟩, rfl⟩

/-! ## Witnesses: search, composition and the cache -/

theorem witness_SegmentCost :
    ({ Profile.standard with weights := .replicate 8 0 } : Profile).weights[escalator.kind.code.val].toNat = 0
      ∧ 20 = Profile.standard.weights[escalator.kind.code.val].toNat ∧ escalator.delta ≠ 0b10000
      ∧ Profile.standard.speed.toNat ≤ 25 ∧ escalator.length ≠ 0 := by decide

theorem witness_OutgoingRuns :
    served.map.startIndex = some (buildStartIndex served.waypointCount served.map.segments)
      ∧ (∀ g, g + 1 < served.segmentCount → (served.segment g).src.toNat ≤ (served.segment (g + 1)).src.toNat)
      ∧ (∀ g < served.segmentCount, (served.segment g).src.toNat < served.waypointCount)
      ∧ (2 : BitVec 12).toNat < served.waypointCount := by
  have h : served.segmentCount = 4 := by decide
  have h' : served.waypointCount = 3 := by decide
  rw [h, h']
  refine ⟨by rw [← h']; rfl, fun g hg => ?_, fun g hg => ?_, by decide⟩
  · obtain rfl | rfl | rfl : g = 0 ∨ g = 1 ∨ g = 2 := by omega
    all_goals decide
  · obtain rfl | rfl | rfl | rfl : g = 0 ∨ g = 1 ∨ g = 2 ∨ g = 3 := by omega
    all_goals decide

/-- Unit 0 works as this on the request for waypoint 2, the composer's job as given. -/
def working (v : SearchUnit) (j : Option Job) (s : State) : State :=
  { s with
    rco := { s.rco with job := j }
    search := {
      queue := [{ key := routeKey, requesters := [{ screen := 0, id := 0 }], unit := some 0 }]
      units := #v[v, SearchUnit.idle] } }

theorem witness_SettleStep :
    (working (served.startSearch routeKey) none served).mod.mode = .service
      ∧ (working (served.startSearch routeKey) none served).mod.freezing = none
      ∧ (working (served.startSearch routeKey) none served).EnginesQuiet
      ∧ (served.startSearch routeKey).state = .running ∧ (served.startSearch routeKey).result = none
      ∧ (∃ e ∈ (working (served.startSearch routeKey) none served).search.queue, e.unit = some 0)
      ∧ (served.startSearch routeKey).frontier = (0, 0) :: [] ∧ (0 : BitVec 12) ∉ (served.startSearch routeKey).targets :=
  ⟨rfl, rfl, ⟨rfl, rfl, fun e h => List.mem_singleton.mp h ▸ nofun⟩, rfl, rfl, ⟨_, List.mem_singleton.mpr rfl, rfl⟩, rfl,
    by decide +kernel⟩

/-- 01 R8: of two segments that offer the same cost, the lower in index becomes the predecessor. -/
theorem test_equal_offers_keep_the_lower_segment :
    let twins := [walkway 0 1 40, walkway 0 1 40]
    let s := { served with map := { served.map with segments := twins, startIndex := some (buildStartIndex 3 twins) } }
    s.outgoing 0 = [0, 1] ∧ place (s.settle (s.startSearch routeKey)).pred 1 = some 0 := by decide +kernel

/-- Unit 0 with waypoint 2, its target, at the head of the frontier, reached over segments 0 and 2. -/
def arriving (restarts : Nat) : SearchUnit :=
  { served.startSearch routeKey with
    pred := setPlace (setPlace (.replicate 4096 none) 1 (some 0)) 2 (some 2)
    frontier := [(70, 2)], restarts := restarts }

def aJob : Job :=
  { key := routeKey, requesters := [{ screen := 0, id := 0 }], path := [0, 2], entrance := 2, detour := false
    cacheable := true, captured := some 0, route := none }

def closedAhead : State :=
  { served with map := { served.map with segments := walkways.set 2 { walkway 1 2 30 with closed := true } } }

theorem witness_SearchEnds :
    ((working { arriving 0 with frontier := [] } (some aJob) served).rco.job ≠ none
        ∧ ({ arriving 0 with frontier := [] } : SearchUnit).frontier = [] ∧ (arriving 0).key.kind = .waypoint)
      ∧ (hiddenShop.listing 0).status = .hidden
      ∧ ((working (arriving 2) none served).rco.queue = [] ∧ (working (arriving 2) none served).dir.queue = []
        ∧ (∀ e ∈ (working (arriving 2) none served).search.queue, e.unit ≠ none)
        ∧ (arriving 2).state = .running ∧ (arriving 2).frontier = (70, 2) :: [] ∧ (2 : BitVec 12) ∈ (arriving 2).targets
        ∧ served.pathTo (arriving 2) 2 = [0, 2] ∧ ∀ g ∈ [0, 2], (served.segment g).closed = false)
      ∧ (closedAhead.pathTo (arriving 1) 2 = [0, 2] ∧ (closedAhead.segment 2).closed = true ∧ (arriving 1).result = none
        ∧ (arriving 1).restarts < 2 ∧ 2 ≤ (arriving 2).restarts) :=
  ⟨⟨nofun, rfl, rfl⟩, rfl,
    ⟨rfl, rfl, fun e h => List.mem_singleton.mp h ▸ nofun, rfl, rfl, by decide +kernel, by decide +kernel,
      by decide⟩,
    by decide +kernel, by decide, rfl, by decide, by decide⟩

/-- R56: the unit that becomes IDLE finds no WAITING entry, or takes the one that waits, the other unit being HELD. -/
theorem witness_SearchEnds_freed :
    let s := working (arriving 2) none served
    let e : SearchEntry := { key := { routeKey with number := 1 }, requesters := [{ screen := 0, id := 1 }], unit := none }
    let t := { s with search := {
      queue := s.search.queue ++ [e], units := #v[arriving 2, { SearchUnit.idle with state := .held }] } }
    s.Freed 0 [] SearchUnit.idle
      ∧ (∀ w : Fin 2, w ≠ 0 → t.search.units[w.val].state ≠ .idle)
      ∧ t.Freed 0 [{ e with unit := some 0 }] (t.begun e.key) :=
  ⟨⟨_, rfl, .inl ⟨nofun, rfl, rfl⟩⟩, by decide, _, rfl, .inr ⟨_, ⟨[], [], rfl, nofun, rfl, rfl⟩, rfl⟩⟩

theorem witness_SearchEnds_refused :
    let s := working { arriving 0 with frontier := [] } none (servedWith (asking [hostRoute]))
    (s.rco.job = none ∧ s.rco.queue = [] ∧ s.search.units[(0 : Fin 2).val].state = .running
        ∧ s.search.units[(0 : Fin 2).val].frontier = [] ∧ (7 : Byte) = 7
        ∧ s.search.units[(0 : Fin 2).val].key.kind = .waypoint)
      ∧ ∃ e items, (s.search.queue.filter fun e => decide (e.unit = some 0)) = [e] ∧ (e.requesters.map (·.screen)).Nodup
        ∧ List.Forall₂ (fun (ref : Ref) (item : OutItem) => ∃ tag k x,
            s.screens[ref.screen.val].outstanding =
                [{ id := ref.id, asker := .host tag, ask := .route k x, result := none }]
              ∧ item = { cls := 0x8B, tag := tag, resets := false
                         release := some (ref.screen, s.screens[ref.screen.val].released)
                         payload := [7, 0] ++ le 2 k.origin.toNat ++ [k.kind.code] ++ le 2 k.number.toNat ++ [0, 0]
                          ++ [BitVec.ofNat 8 k.profile.val] ++ List.replicate 14 0 }) e.requesters items :=
  ⟨⟨rfl, rfl, rfl, rfl, rfl, rfl⟩, _, _, rfl, by simp, .cons ⟨7, routeKey, false, rfl, rfl⟩ .nil⟩

/-- A unit with its last path found, at its one target 2, for the one listing. -/
def shopping : SearchUnit := { arriving 0 with key := { routeKey with kind := .listing, number := 0 } }

theorem witness_SearchEnds_without :
    served.EndsWithout { arriving 0 with frontier := [] } { arriving 0 with frontier := [] } .noRoute
      ∧ (∃ v, hiddenShop.EndsWithout shopping v .notFound) ∧ ∃ v, closedAhead.EndsWithout (arriving 2) v .noStableRoute :=
  ⟨.inl ⟨rfl, rfl, .inr ⟨rfl, fun h => nomatch h.1⟩⟩,
    ⟨_, .inr ⟨70, 2, [], _, rfl, by decide +kernel, rfl, .inl ⟨rfl, ⟨rfl, rfl⟩, rfl⟩⟩⟩,
    _, .inr ⟨70, 2, [], _, rfl, by decide +kernel, rfl,
      .inr ⟨rfl, fun h => (nomatch h.1), by decide, ⟨2, by decide +kernel, by decide⟩, rfl⟩⟩⟩

theorem witness_TurnClasses :
    ((127 : Int) = (((227 : BitVec 8).toNat + 256 - (100 : BitVec 8).toNat) % 256 : Nat) ∧ (127 : Int) < 128)
      ∧ ((-128 : Int) = (((192 : BitVec 8).toNat + 256 - (64 : BitVec 8).toNat) % 256 : Nat) - 256
        ∧ (-128 : Int) < 0 ∧ (-128 : Int) ≤ -128) := by decide

theorem witness_CompositionEnd :
    ((working (arriving 0) (some aJob) served).resetLow = false
        ∧ (working (arriving 0) (some aJob) served).rco.job = some aJob ∧ aJob.route = none)
      ∧ (1 ≤ aJob.path.length ∧ aJob.path.length ≤ 128 ∧ aJob.captured = some served.map.generation
        ∧ ∀ g ∈ aJob.path, (served.segment g).closed = false ∧ g ∉ served.rcc.sweep)
      ∧ (128 < ({ aJob with path := .replicate 129 0 } : Job).path.length ∧ (closedAhead.segment 2).closed = true) :=
  ⟨⟨rfl, rfl, rfl⟩, ⟨by decide, by decide, rfl, by decide⟩,
    by rw [List.length_replicate]; decide, by decide⟩

/-- A map of one door, and a job whose path goes through it this often: nothing of it merges. -/
def doors : State := { served with map := { served.map with segments := [{ walkway 0 1 10 with kind := .door }] } }

theorem witness_CompositionEnd_truncation :
    (mergeSteps (doors.provisionals none ((List.replicate 47 0).map doors.segment))).length = 47
      ∧ (mergeSteps (doors.provisionals none ((List.replicate 48 0).map doors.segment))).length = 48 := by decide +kernel

theorem witness_CompositionEnd_time :
    5 ≤ Profile.standard.speed.toNat ∧ escalator.kind = .escalator
      ∧ 5 = (if escalator.ride = 0 then Profile.standard.speed.toNat else escalator.ride.toNat) := by decide

/-- The key of group 27 with this number above it. -/
def keyOf (m : Nat) : Key := { origin := BitVec.ofNat 12 (64 * m + 27), kind := .listing, number := 0, profile := 0 }

/-- A valid entry of that key. -/
def entryOf (m : Nat) (alternate referenced : Bool) : CacheEntry :=
  { CacheEntry.reset with
    valid := true, alternate := alternate, referenced := referenced, route := { ComposedRoute.blank with key := keyOf m } }

/-- Groups 27 and 36 are full of such entries, those of group 36 alternate, the first two of group 27 referenced. -/
def fullGroups : State :=
  { served with rcc := { served.rcc with
      entries := .ofFn fun e => if e.val / 8 = 27 then entryOf (e.val % 8) false (decide (e.val % 8 < 2))
        else if e.val / 8 = 36 then entryOf (e.val % 8 + 8) true false else .reset } }

theorem fullGroups_at (e : Fin 512) :
    fullGroups.rcc.at e = if e.val / 8 = 27 then entryOf (e.val % 8) false (decide (e.val % 8 < 2))
      else if e.val / 8 = 36 then entryOf (e.val % 8 + 8) true false else .reset := by
  simp [CacheState.at, fullGroups]

theorem fullGroups_valid (e : Fin 512) (h : (fullGroups.rcc.at e).valid = true) :
    ∃ m < 16, (fullGroups.rcc.at e).route.key = keyOf m
      ∧ ((e.val = 216 + m ∧ m < 8 ∧ (fullGroups.rcc.at e).alternate = false)
        ∨ (e.val = 280 + m ∧ 8 ≤ m ∧ (fullGroups.rcc.at e).alternate = true)) := by
  rw [fullGroups_at] at h ⊢
  split at h
  · exact ⟨e.val % 8, by omega, by simp [*, entryOf], .inl ⟨by omega, by omega, by simp [*, entryOf]⟩⟩
  · split at h
    · exact ⟨e.val % 8 + 8, by omega, by simp [*, entryOf], .inr ⟨by omega, by omega, by simp [*, entryOf]⟩⟩
    · simp [CacheEntry.reset] at h

theorem keyOf_injective {m n : Nat} (hm : m < 16) (hn : n < 16) (h : keyOf m = keyOf n) : m = n := by
  have : (keyOf m).origin.toNat = (keyOf n).origin.toNat := by rw [h]
  simp [keyOf] at this
  omega

theorem keyOf_groups (m : Nat) (h : m < 16) : (primaryGroup (keyOf m)).val = 27 ∧ (secondaryGroup (keyOf m)).val = 36 := by
  interval_cases m <;> decide

theorem fullGroups_law : fullGroups.CacheLaw := by
  refine ⟨fun e f he hf hk => ?_, fun e he => ?_⟩
  · obtain ⟨m, hm, hk1, hp⟩ := fullGroups_valid e he
    obtain ⟨n, hn, hk2, hq⟩ := fullGroups_valid f hf
    obtain rfl := keyOf_injective hm hn (hk1.symm.trans (hk.trans hk2))
    exact Fin.ext (by omega)
  · obtain ⟨m, hm, hk, hp⟩ := fullGroups_valid e he
    rw [hk, (keyOf_groups m hm).1, (keyOf_groups m hm).2]
    rcases hp with ⟨hv, hl, ha⟩ | ⟨hv, hl, ha⟩
    · exact .inl ⟨ha, by omega⟩
    · exact .inr ⟨ha, by omega⟩

/-- An offer of `shortRoute`, whose key has the groups 27 and 36, finds its key held, its primary group free, and both full:
the clock then passes entries 216 and 217. -/
theorem witness_CompositionEnd_insertion :
    (1 ≤ ([0, 2] : List Nat).length ∧ ([0, 2] : List Nat).length ≤ 128
        ∧ (∀ n ∈ ([0, 2] : List Nat), (fullGroups.segment n).closed = false ∧ n ∉ fullGroups.rcc.sweep)
        ∧ (27 : Fin 64).val = (shortRoute.key.origin.toNat ^^^ (3 * shortRoute.key.number.toNat)
          ^^^ (9 * shortRoute.key.profile.val) ^^^ (if shortRoute.key.kind = .waypoint then 32 else 0)) % 64)
      ∧ ((cached.rcc.at 216).valid = true ∧ (cached.rcc.at 216).route.key = shortRoute.key)
      ∧ ((served.rcc.at 216).valid = false ∧ ∀ x < (216 : Fin 512), x.val / 8 = 27 → (served.rcc.at x).valid = true)
      ∧ (fullGroups.CacheLaw ∧ (∀ e, (fullGroups.rcc.at e).valid = true → (fullGroups.rcc.at e).route.key ≠ shortRoute.key)
        ∧ (∀ x : Fin 512, x.val / 8 = 27 → (fullGroups.rcc.at x).valid = true)
        ∧ (∀ x : Fin 512, x.val / 8 = 36 → (fullGroups.rcc.at x).valid = true)
        ∧ fullGroups.rcc.hands[(27 : Fin 64).val] = 0
        ∧ (fullGroups.rcc.at 216).referenced = true ∧ (fullGroups.rcc.at 217).referenced = true
        ∧ (fullGroups.rcc.at 218).referenced = false) := by
  refine ⟨⟨by decide, by decide, by decide, by decide⟩, ⟨rfl, rfl⟩, ⟨rfl, fun x h hx => ?_⟩, fullGroups_law, fun e he hk => ?_,
    fun x hx => ?_, fun x hx => ?_, rfl, ?_, ?_, ?_⟩
  · have : x.val < 216 := h
    omega
  · obtain ⟨m, hm, h, -⟩ := fullGroups_valid e he
    have : (keyOf m).kind = .waypoint := by rw [← h, hk]; rfl
    cases this
  · rw [fullGroups_at, if_pos hx]; rfl
  · rw [fullGroups_at, if_neg (by omega), if_pos hx]; rfl
  all_goals rw [fullGroups_at]; rfl

/-- The composed job is finalised for screen 0, whose entry was asked by this asker, under this mask. -/
def finalising (asker : Asker) (mask : BitVec 6) : State :=
  { servedWith (asking [{ hostRoute with asker := asker }]) with
    rco := { served.rco with job := some { aJob with route := some shortRoute } }
    link := { served.link with mask := mask } }

theorem witness_RouteFinalisation :
    ((finalising (.host 7) 0).resetLow = false
        ∧ (finalising (.host 7) 0).rco.job = some { aJob with route := some shortRoute }
        ∧ aJob.requesters = { screen := 0, id := 0 } :: []
        ∧ (finalising (.host 7) 0).screens[0].outstanding =
          [{ id := 0, asker := .host 7, ask := .route routeKey false, result := none }]
        ∧ (∃ y ys, shortRoute.steps = y :: ys) ∧ (finalising (.host 7) 0).EnginesQuiet)
      ∧ (finalising (.panel 7) 0).link.masked .route = false
      ∧ (finalising (.panel 7) 0b000100).link.masked .route = true :=
  ⟨⟨rfl, rfl, rfl, rfl, ⟨_, _, rfl⟩, rfl, rfl, nofun⟩, by decide, by decide⟩

/-- A DONE fence of the host. -/
def doneFence : Entry := { id := 1, asker := .host 8, ask := .fence 5, result := some (.bare .ok) }

/-- A query of the host that is not DONE. -/
def laterQuery : Entry := { hostQuery with id := 1 }

/-- The requester stands behind an older entry that is not DONE, or at the head with a DONE fence behind it. -/
theorem witness_RouteFinalisation_list :
    ((asking [laterQuery, hostRoute]).outstanding = [laterQuery] ++ hostRoute :: [] ∧ (asking [laterQuery, hostRoute]).headWaits
        ∧ ∀ x ∈ [laterQuery] ++ ([] : List Entry), x.id ≠ hostRoute.id)
      ∧ (asking [hostRoute, doneFence]).outstanding = [] ++ hostRoute :: [doneFence]
        ∧ ∀ x ∈ [] ++ [doneFence], x.id ≠ hostRoute.id :=
  ⟨⟨rfl, fun e h => Option.some.inj h ▸ rfl, by simp [hostRoute, laterQuery]⟩, rfl, by simp [hostRoute, doneFence]⟩

def sweeping : State := { cached with rcc := { cached.rcc with sweep := [2], scan := some 511 } }

theorem witness_SweepExamination :
    (sweeping.resetLow = false ∧ sweeping.rcc.sweep = 2 :: [] ∧ sweeping.rcc.scan = some 511)
      ∧ ({ sweeping.rcc with scan := some 0 } : CacheState).scan = some 0 := ⟨⟨rfl, rfl, rfl⟩, rfl⟩

/-! ## Witnesses: touch panels -/

def hotspotBytes (action : Byte) : List Byte := [0, 0, 0, 0, 9, 0, 9, 0, action, 0, 0, 0, 0, 0]

theorem witness_HotspotsSet :
    ((ready served 0x0F 9 ([3, 1] ++ [(hotspotBytes 8, hotspotOfBytes (hotspotBytes 8))].flatMap (·.1))).headIs 0x0F 9
        ([3, 1] ++ [(hotspotBytes 8, hotspotOfBytes (hotspotBytes 8))].flatMap (·.1)) []
        ∧ (hotspotBytes 8).length = 14 ∧ (3 : Byte).toNat = (3 : Fin 4).val
        ∧ ∃ h, [(hotspotBytes 8, hotspotOfBytes (hotspotBytes 8))].map (·.2) = [h].map some)
      ∧ 3 < (4 : Byte).toNat ∧ none ∈ [(hotspotBytes 9, hotspotOfBytes (hotspotBytes 9))].map (·.2) :=
  ⟨⟨served_headIs .., rfl, rfl, _, rfl⟩, by decide, by decide⟩

theorem witness_PanelSet :
    ((ready served 0x10 9 ([0, 1, 1, 40, 30, 0, 17] ++ le 2 65535)).headIs 0x10 9
        ([0, 1, 1, 40, 30, 0, 17] ++ le 2 65535) []
        ∧ (1 : Byte).toNat ≤ 1 ∧ 65535 < 65536 ∧ served.panels[0].state = .off)
      ∧ 3 < (4 : Byte).toNat ∧ (withPanel capturing).panels[0].state = .capturing
      ∧ ((withPanel (panelIn .running .injected)).panels[0].state ≠ .capturing
        ∧ (withPanel (panelIn .running .injected)).panels[0].state ≠ .off
        ∧ Source.injected = (withPanel (panelIn .running .injected)).panels[0].config.source)
      ∧ Source.injected ≠ (withPanel (panelIn .running .sensor)).panels[0].config.source :=
  ⟨⟨served_headIs .., by decide, by decide, rfl⟩, by decide, rfl, ⟨nofun, nofun, rfl⟩, nofun⟩

def frame (inject : Option Byte) : PanelFrame := { samples := .replicate 960 0, inject := inject }

theorem witness_PanelInject :
    ((ready served 0x11 9 ([0] ++ le 2 65535 ++ [(959, 65535)].flatMap (fun x => le 2 x.1 ++ le 2 x.2))).headIs 0x11 9
        ([0] ++ le 2 65535 ++ [(959, 65535)].flatMap (fun x => le 2 x.1 ++ le 2 x.2)) []
        ∧ ∀ x ∈ [(959, 65535)], x.1 < 960 ∧ x.2 < 65536)
      ∧ (3 < (4 : Byte).toNat ∧ ∃ x ∈ [(960, 0)], 960 ≤ x.1)
      ∧ served.panels[0].state = .off
      ∧ ((withPanel (panelIn .fault .injected)).panels[0].state ≠ .off
        ∧ (withPanel (panelIn .fault .injected)).panels[0].config.source = .injected
        ∧ (withPanel (panelIn .fault .injected)).panels[0].buffer = none)
      ∧ (withPanel { panelIn .fault .injected with buffer := some (frame (some 4)) }).panels[0].buffer
          = some (frame (some 4)) :=
  ⟨⟨served_headIs .., by simp⟩, by simp, rfl, ⟨nofun, rfl, rfl⟩, rfl⟩

theorem witness_BaselineCapture :
    ((ready served 0x12 9 [4]).headIs 0x12 9 [4] [] ∧ 3 < (4 : Byte).toNat)
      ∧ ((ready served 0x12 9 [0]).headIs 0x12 9 [0] [] ∧ served.panels[0].state = .off)
      ∧ (withPanel capturing).panels[0].state = .capturing
      ∧ (withPanel (panelIn .running .sensor)).panels[0].state = .running :=
  ⟨⟨served_headIs .., by decide⟩, ⟨served_headIs .., rfl⟩, rfl, rfl⟩

theorem witness_PanelFrames :
    (served.resetLow = false ∧ served.panels[0].state = .off)
      ∧ ((withPanel (panelIn .fault .sensor)).panels[0].state ≠ .off
        ∧ (withPanel (panelIn .fault .sensor)).panels[0].config.source = .sensor
        ∧ (List.replicate 961 (0 : Sample)).length ≠ 960 ∧ (withPanel (panelIn .fault .sensor)).panels[0].buffer = none)
      ∧ ((withPanel { panelIn .capturing .sensor with buffer := some (frame none) }).panels[0].processing = none
        ∧ (withPanel { panelIn .capturing .sensor with buffer := some (frame none) }).panels[0].buffer
          = some (frame none))
      ∧ ((withPanel { panelIn .fault .sensor with buffer := some (frame none) }).panels[0].state = .fault
        ∧ (withPanel { panelIn .fault .sensor with buffer := some (frame none) }).reportsFreely .panel) :=
  ⟨⟨rfl, rfl⟩, ⟨nofun, rfl, by rw [List.length_replicate]; decide, rfl⟩, ⟨rfl, rfl⟩, rfl, rfl, by decide⟩

/-- A frame in processing under the panel's configuration, with this role. -/
def processing (f : PanelFrame) (role : FrameRole) (c : PanelConfig) (page : List Hotspot) : Processing :=
  { frame := f, role := role, config := c, curve := identityCurve, baseline := .replicate 960 0, page := page
    pageNumber := 4, width := 1080, height := 1920, driftCancelled := false }

/-- A panel that processes such a frame, its drift count as given. -/
def busy (f : Processing) (drift : Nat) : Panel :=
  { panelIn .running .sensor with processing := some f, drift := drift }

def emptyFrame : Processing := processing (frame none) .detect PanelConfig.reset []

/-- One cell of full signal, strength 255, and a configuration that one frame qualifies under. -/
def strongFrame : Processing :=
  processing { samples := (Vector.replicate 960 0).set 210 4095, inject := none } .detect
    { PanelConfig.reset with high := 255, nLo := 1, nHi := 1 } []

theorem strongFrame_strengthAt (c r : Nat) :
    strengthAt (strengths strongFrame.curve strongFrame.frame.samples strongFrame.baseline) c r
      = if 40 * r + c = 210 then 255 else 0 := by
  have zero : strengthOf identityCurve 0#12 0#12 = 0 := by decide +kernel
  have full : strengthOf identityCurve 4095#12 0#12 = 255 := by decide +kernel
  simp only [strengthAt, strengths, strongFrame, processing, Vector.toArray_ofFn, Array.getD_eq_getD_getElem?,
    Array.getElem?_ofFn, Vector.getElem_set, Vector.getElem_replicate]
  by_cases h : 40 * r + c = 210
  · simp [h, full]
  · by_cases h' : 40 * r + c < 960
    · simp [h, h', zero, Ne.symm h]
    · simp [h, h']

/-- The one peak of that frame stands at the centre of cell (10, 5). -/
theorem strongFrame_peaks :
    peaksOf (strengths strongFrame.curve strongFrame.frame.samples strongFrame.baseline) 32 1080 1920
      = [{ cell := (10, 5), strength := 255, position := (283, 440) }] := by
  simp only [peaksOf, isPeak, peakPosition, strongFrame_strengthAt]
  decide +kernel

def plainHotspot : Hotspot := { x0 := 0, y0 := 0, x1 := 1079, y1 := 1919, action := .plain }

/-- A frame over a page whose one hotspot, of this action, holds the whole screen. -/
def leavingFrame (a : Action) : Processing :=
  processing (frame none) .detect PanelConfig.reset [{ plainHotspot with action := a }]

/-- Track 0 is DOWN, primary, on hotspot 0 of page 4, and missed the last frame. -/
def leaving (a : Action) : Panel :=
  { busy (leavingFrame a) 6 with
    tracks := (Vector.replicate 5 Track.free).set 0
      { Track.free with state := .down, missing := 1, hotspot := some 0, page := 4, primary := true } }

/-- That panel on a screen and in a mode of one's choice, the units busy and the directory with another screen's scan. -/
def selecting (m : Mode) (a : Action) (c : Screen) : State :=
  { units (inMode m served) .held .held with
    panels := served.panels.set 0 (leaving a)
    screens := served.screens.set 0 c
    dir := { served.dir with scan := some { aScan with query := { aQuery with ref := { screen := 1, id := 0 } } } } }

theorem strengthOf_empty (k : Fin 960) : strengthOf identityCurve (Vector.replicate 960 (0 : Sample))[k.val]
    (Vector.replicate 960 (0 : Sample))[k.val] < PanelConfig.reset.low.toNat := by
  simp only [Vector.getElem_replicate]
  decide +kernel

theorem asking_headWaits (entries : List Entry) (h : ∀ e ∈ entries, e.result = none) : (asking entries).headWaits :=
  fun e he => h e (List.mem_of_mem_head? he)

theorem selecting_quiet (m : Mode) (a : Action) (c : Screen) : (selecting m a c).EnginesQuiet ∧ (selecting m a c).WorkHeld :=
  ⟨⟨rfl, rfl, nofun⟩, nofun, nofun⟩

theorem selecting_formsSelection (m : Mode) (a : Action) (c : Screen) (w : c.headWaits) :
    (selecting m a c).formsSelection 0 (leavingFrame a) 0 { plainHotspot with action := a } := by
  have panel : (selecting m a c).panels[(0 : Fin 4).val] = leaving a := rfl
  have screen : (selecting m a c).screens[(0 : Fin 4).val] = c := rfl
  have link : (selecting m a c).link = LinkState.reset 0 := rfl
  have tracks (k : Fin 5) : k ≠ 0 → (leaving a).tracks[k.val] = Track.free := by
    intro h
    fin_cases k
    · exact absurd rfl h
    all_goals rfl
  rw [State.formsSelection, panel, screen, link]
  exact ⟨rfl, rfl, rfl, rfl, ⟨rfl, rfl, rfl, rfl, rfl, rfl⟩, rfl, tracks, (by decide : 6 < 7), rfl, strengthOf_empty, w,
    (selecting_quiet m a c).1, (selecting_quiet m a c).2, by decide, by decide⟩

theorem selecting_selectsOn (m : Mode) (a : Action) (c : Screen) (h : c.enabled = true) (w : c.headWaits) :
    (selecting m a c).selectsOn 0 (leavingFrame a) 0 { plainHotspot with action := a } :=
  ⟨selecting_formsSelection m a c w, h, by show 0 + 0 + 2 ≤ 32; decide⟩

/-- The selection forms whatever the cache and the listings hold, and whatever the link holds under a mask of 0. -/
theorem formsSelection_with {s : State} {p : Fin 4} {f : Processing} {h : Nat} {x : Hotspot} (hs : s.formsSelection p f h x)
    (l : LinkState) (r : CacheState) (ls : List Listing) (hl : l.mask = 0) :
    ({ s with link := l, rcc := r, dir := { s.dir with listings := ls } } : State).formsSelection p f h x := by
  obtain ⟨a, b, c, d, e, g, i, j, k, m, n, o, q, -, -⟩ := hs
  exact ⟨a, b, c, d, e, g, i, j, k, m, n, o, q, by simp [LinkState.masked, hl],
    by simp [LinkState.masked, hl]⟩

theorem asking_selectsOn (m : Mode) (a : Action) (entries : List Entry) (h : ∀ e ∈ entries, e.result = none) :
    (selecting m a (asking entries)).selectsOn 0 (leavingFrame a) 0 { plainHotspot with action := a } :=
  selecting_selectsOn m a (asking entries) rfl (asking_headWaits entries h)

def capturedSeven (count : Nat) : Panel :=
  { capturing with
    capture := some { tag := 3, sums := .replicate 960 0, count := count }
    processing := some (processing (frame none) .capture PanelConfig.reset []) }

/-- 10 R178: a baseline write during the frame returns the count to 0. -/
theorem test_baseline_write_returns_drift :
    ((busy emptyFrame 3).drifted { emptyFrame with driftCancelled := true }).drift = 0 := rfl

theorem witness_FrameProcessed_peaks :
    ((255 : Fin 256).val = ((4095 : Sample).toNat - (0 : Sample).toNat) / 16)
      ∧ ((959 : Fin 960).val = 40 * 23 + 39 ∧ 39 < 40 ∧ 23 < 24)
      ∧ 32 ≤ strengthAt centroidMap 10 5 ∧ 1 ≤ 1080 ∧ 1 ≤ 1920 := by decide +kernel

/-- The one peak of `strongFrame`, and the track that it opens. -/
def strongPeak : Peak := { cell := (10, 5), strength := 255, position := (283, 440) }

def opening (i : Fin 5) : Option Peak := if i = 0 then some strongPeak else none

def openedTracks : Vector Track 5 :=
  (Vector.replicate 5 Track.free).set 0
    { state := .down, cell := (10, 5), position := (283, 440), reported := (283, 440), lowCount := 1, highCount := 1
      missing := 0, hotspot := none, page := 4, primary := true }

/-- A frame that opens track 0 meets the premises of the general clause, with a baseline written meanwhile or not. -/
theorem witness_FrameProcessed_general :
    (strongFrame.role = .detect
        ∧ peaksOf (strengths strongFrame.curve strongFrame.frame.samples strongFrame.baseline)
            strongFrame.config.low.toNat strongFrame.width strongFrame.height = [strongPeak]
        ∧ (∀ i : Fin 5, (busy strongFrame 7).tracks[i.val].primary = true → (busy strongFrame 7).tracks[i.val].state = .down))
      ∧ Matching [strongPeak] (busy strongFrame 7).tracks opening
      ∧ (∀ i : Fin 5, (busy strongFrame 7).tracks[i.val].primary = true → (busy strongFrame 7).tracks[i.val].missing ≠ 0 →
          opening i = none → ∀ h, (busy strongFrame 7).tracks[i.val].hotspot = some h →
          (busy strongFrame 7).tracks[i.val].page = strongFrame.pageNumber →
          hitTest strongFrame.page (busy strongFrame 7).tracks[i.val].position ≠ some h)
      ∧ (∀ i : Fin 5, openedTracks[i.val] = (((busy strongFrame 7).tracks[i.val]).brought strongFrame
          (takesLead (busy strongFrame 7).tracks openedTracks i) (opening i)).1)
      ∧ ∃ i : Fin 5, openedTracks[i.val].state ≠ .free := by
  have free (i : Fin 5) : (busy strongFrame 7).tracks[i.val] = Track.free := by fin_cases i <;> rfl
  refine ⟨⟨rfl, strongFrame_peaks, fun i h => ?_⟩, ⟨fun i h => ?_, fun n i h => ?_⟩, fun i h => ?_, fun i => ?_,
    0, nofun⟩
  · rw [free] at h; cases h
  · rw [free] at h; exact absurd rfl h
  · have numbers : freeNumbers (busy strongFrame 7).tracks = [0, 1, 2, 3, 4] := by decide
    have left : unclaimed [strongPeak] (busy strongFrame 7).tracks opening = [strongPeak] := by
      simp [unclaimed, free, Track.free]
    rw [numbers] at h
    rw [left]
    match n, h with
    | 0, h | 1, h | 2, h | 3, h | 4, h => obtain rfl := Option.some.inj h; rfl
    | n + 5, h => simp at h
  · rw [free] at h; cases h
  · fin_cases i <;> decide

theorem witness_FrameProcessed :
    ((withPanel (busy (processing (frame (some 4)) .stale PanelConfig.reset []) 0)).resetLow = false
        ∧ (withPanel (busy (processing (frame (some 4)) .stale PanelConfig.reset []) 0)).panels[(0 : Fin 4).val].processing
          = some (processing (frame (some 4)) .stale PanelConfig.reset []))
      ∧ ((busy emptyFrame 7).processing = some emptyFrame ∧ emptyFrame.frame.inject = none
        ∧ (∀ k : Fin 5, (busy emptyFrame 7).tracks[k.val] = Track.free)
        ∧ (∀ k : Fin 960, strengthOf emptyFrame.curve emptyFrame.frame.samples[k.val] emptyFrame.baseline[k.val]
          < emptyFrame.config.low.toNat)
        ∧ (busy emptyFrame 6).drift < 7 ∧ (busy emptyFrame 7).drift = 7 ∧ emptyFrame.driftCancelled = false
        ∧ ({ emptyFrame with driftCancelled := true } : Processing).driftCancelled = true)
      ∧ ((busy strongFrame 0).processing = some strongFrame
        ∧ (∃ k, peaksOf (strengths strongFrame.curve strongFrame.frame.samples strongFrame.baseline)
            strongFrame.config.low.toNat strongFrame.width strongFrame.height = [k]
          ∧ strongFrame.config.high.toNat ≤ k.strength)
        ∧ strongFrame.config.nLo ≤ 1 ∧ strongFrame.config.nHi ≤ 1
        ∧ (withPanel (busy strongFrame 0)).reportsFreely .contact)
      ∧ (selecting .service .plain (asking [])).selectsOn 0 (leavingFrame .plain) 0 plainHotspot
      ∧ ((∃ c, (capturedSeven 6).capture = some c ∧ c.count < 7) ∧ ∃ c, (capturedSeven 7).capture = some c ∧ c.count = 7) := by
  refine ⟨⟨rfl, rfl⟩, ⟨rfl, rfl, fun k => by fin_cases k <;> rfl, ?_, by decide, rfl, rfl, rfl⟩,
    ⟨rfl, ⟨{ cell := (10, 5), strength := 255, position := (283, 440) }, ?_, by decide⟩, by decide, by decide, rfl, by decide⟩,
    asking_selectsOn _ _ [] (by decide), ⟨_, rfl, by decide⟩, _, rfl, rfl⟩
  · exact strengthOf_empty
  · exact strongFrame_peaks

/-- A screen 0 with this many symbols of text and these entries. -/
def typed (n : Nat) (entries : List Entry) : Screen := { asking entries with text := .replicate n 5 }

theorem typed_selectsOn (m : Mode) (a : Action) (n : Nat) (entries : List Entry) (h : ∀ e ∈ entries, e.result = none) :
    (selecting m a (typed n entries)).selectsOn 0 (leavingFrame a) 0 { plainHotspot with action := a } :=
  selecting_selectsOn m a (typed n entries) rfl (asking_headWaits entries h)

theorem witness_HotspotActions_edits :
    ((selecting .loading (.key 40) (typed 15 [])).selectsOn 0 (leavingFrame (.key 40)) 0
          { plainHotspot with action := .key 40 }
        ∧ 1 ≤ (40 : Byte).toNat ∧ (40 : Byte).toNat ≤ 40 ∧ (typed 15 []).text.length < 16
        ∧ (selecting .loading (.key 40) (typed 15 [])).mod.mode.serving = false)
      ∧ ((selecting .service (.key 1) (typed 16 [])).selectsOn 0 (leavingFrame (.key 1)) 0
          { plainHotspot with action := .key 1 } ∧ 16 ≤ (typed 16 []).text.length ∧ 40 < (41 : Byte).toNat)
      ∧ (selecting .service .backspace (typed 1 [hostRoute, hostRoute, hostRoute, hostRoute])).selectsOn 0
          (leavingFrame .backspace) 0 { plainHotspot with action := .backspace }
        ∧ (typed 1 []).text ≠ [] ∧ 4 ≤ (typed 1 [hostRoute, hostRoute, hostRoute, hostRoute]).outstanding.length :=
  ⟨⟨typed_selectsOn _ _ _ [] (by decide), by decide, by decide, by decide, rfl⟩,
    ⟨typed_selectsOn _ _ _ [] (by decide), by decide, by decide⟩,
    typed_selectsOn _ _ _ _ (by decide), nofun, by decide⟩

def aTerm : Option Term := some { field := 1, condition := 1, operand := 0 }

theorem witness_HotspotActions_terms :
    (selecting .service (.filter 3 aTerm) (typed 0 [hostRoute, hostRoute, hostRoute])).selectsOn 0
          (leavingFrame (.filter 3 aTerm)) 0 { plainHotspot with action := .filter 3 aTerm }
      ∧ (3 : Byte) = BitVec.ofNat 8 (3 : Fin 4).val ∧ (typed 0 []).terms[(3 : Fin 4).val] = none
      ∧ (typed 0 [hostRoute, hostRoute, hostRoute]).outstanding.length < 4
      ∧ termsValid ((Vector.replicate 4 none).set 3 aTerm) = true ∧ 3 < (4 : Byte).toNat :=
  ⟨typed_selectsOn _ _ _ _ (by decide), rfl, rfl, by decide, by decide +kernel, by decide⟩

theorem witness_HotspotActions_requests :
    ((selecting .frozen (.waypoint 2) (asking [])).selectsOn 0 (leavingFrame (.waypoint 2)) 0
          { plainHotspot with action := .waypoint 2 }
        ∧ (2 : BitVec 16).toNat < served.waypointCount ∧ served.rcc.find routeKey = none
        ∧ (selecting .frozen (.waypoint 2) (asking [])).search.queue = [])
      ∧ ((selecting .service (.listing 1) (asking [])).selectsOn 0 (leavingFrame (.listing 1)) 0
          { plainHotspot with action := .listing 1 } ∧ served.listingCount ≤ (1 : BitVec 16).toNat)
      ∧ (selecting .service .cancel (asking [hostRoute])).selectsOn 0 (leavingFrame .cancel) 0
          { plainHotspot with action := .cancel } ∧ ∀ e ∈ (asking [hostRoute]).outstanding, ∃ tag, e.asker = .host tag :=
  ⟨⟨asking_selectsOn _ _ [] (by decide), by decide, by decide +kernel, rfl⟩,
    ⟨asking_selectsOn _ _ [] (by decide), by decide⟩,
    asking_selectsOn _ _ _ (by decide), fun e h => ⟨7, List.mem_singleton.mp h ▸ rfl⟩⟩

/-- The part with this many reports queued and reserved. -/
def holding (reports reserved : Nat) (s : State) : State :=
  { s with link := { LinkState.reset 0 with reports := .replicate reports (item none), reserved := reserved } }

/-- A selection whose UP takes the last report slot, and one that leaves room for a request's slot. -/
theorem witness_HotspotActions_slots :
    ((holding 31 0 (selecting .service (.key 40) (typed 15 []))).formsSelection 0 (leavingFrame (.key 40)) 0
          { plainHotspot with action := .key 40 }
        ∧ (holding 31 0 served).link.reportsHeld + (holding 31 0 served).link.reserved = 31)
      ∧ (holding 28 1 (selecting .service (.waypoint 2) (asking []))).selectsOn 0 (leavingFrame (.waypoint 2)) 0
          { plainHotspot with action := .waypoint 2 }
        ∧ (holding 28 1 served).link.reportsHeld + (holding 28 1 served).link.reserved + 3 ≤ 32 :=
  ⟨⟨formsSelection_with (selecting_formsSelection .service (.key 40) (typed 15 [])
      (asking_headWaits [] (by decide))) (holding 31 0 served).link _ _ rfl, by decide⟩,
    ⟨formsSelection_with (selecting_formsSelection .service (.waypoint 2) (asking [])
      (asking_headWaits [] (by decide))) (holding 28 1 served).link _ _ rfl, rfl, by decide⟩, by decide⟩

/-- An invalid term makes the query BAD_FILTER. -/
theorem witness_HotspotActions_badFilter :
    (selecting .service (.filter 0 (some ⟨9, 0, 0⟩)) (typed 0 [])).selectsOn 0 (leavingFrame (.filter 0 (some ⟨9, 0, 0⟩))) 0
        { plainHotspot with action := .filter 0 (some ⟨9, 0, 0⟩) }
      ∧ (typed 0 []).outstanding = [] ∧ termsValid ((typed 0 []).terms.set 0 (some ⟨9, 0, 0⟩)) = false :=
  ⟨typed_selectsOn _ _ _ [] (by decide), rfl, by decide +kernel⟩

/-- The cache with a route under this key at this entry. -/
def keeping (e : Fin 512) (k : Key) : CacheState :=
  { served.rcc with
    entries := served.rcc.entries.set e.val
      { CacheEntry.reset with valid := true, route := { shortRoute with key := k }, segments := [0, 2] } }

/-- That panel's selection over a cache and listings of one's choice. -/
def choosing (a : Action) (r : CacheState) (ls : List Listing) : State :=
  { selecting .service a (asking []) with rcc := r, dir := { (selecting .service a (asking [])).dir with listings := ls } }

/-- A route request that hits entry 304, of the primary group 38 of its key, and one for a HIDDEN listing. -/
theorem witness_HotspotActions_answered :
    ((choosing (.waypoint 2) (keeping 304 routeKey) [shop]).selectsOn 0 (leavingFrame (.waypoint 2)) 0
          { plainHotspot with action := .waypoint 2 }
        ∧ (keeping 304 routeKey).find routeKey = some 304)
      ∧ (choosing (.listing 0) served.rcc [{ shop with status := .hidden }]).selectsOn 0 (leavingFrame (.listing 0)) 0
          { plainHotspot with action := .listing 0 }
        ∧ 0 < (choosing (.listing 0) served.rcc [{ shop with status := .hidden }]).listingCount
        ∧ ((choosing (.listing 0) served.rcc [{ shop with status := .hidden }]).listing 0).status = .hidden :=
  ⟨⟨⟨formsSelection_with (selecting_formsSelection .service (.waypoint 2) (asking [])
      (asking_headWaits [] (by decide))) (LinkState.reset 0) _ _ rfl, rfl, by decide⟩, by decide +kernel⟩,
    ⟨formsSelection_with (selecting_formsSelection .service (.listing 0) (asking [])
      (asking_headWaits [] (by decide))) (LinkState.reset 0) _ _ rfl, rfl, by decide⟩, by decide, rfl⟩

/-- The units and the scan have no part in whether a selection forms. -/
theorem formsSelection_engines {s : State} {p : Fin 4} {f : Processing} {h : Nat} {x : Hotspot} (hs : s.formsSelection p f h x)
    (u : Vector SearchUnit 2) (z : Option Scan) :
    ({ s with search := { s.search with units := u }, dir := { s.dir with scan := z } } : State).formsSelection p f h x := hs

/-- A selection on this screen, both units IDLE, the directory without a scan, `n` report slots held. -/
def restful (n : Nat) (a : Action) (c : Screen) : State :=
  { holding n 0 (selecting .service a c) with
    search := { (selecting .service a c).search with units := .replicate 2 .idle }
    dir := { (selecting .service a c).dir with scan := none } }

theorem restful_formsSelection (n : Nat) (a : Action) (c : Screen) (w : c.headWaits) :
    (restful n a c).formsSelection 0 (leavingFrame a) 0 { plainHotspot with action := a } :=
  formsSelection_engines (formsSelection_with (selecting_formsSelection .service a c w) (holding n 0 served).link _ _ rfl) _ _

theorem restful_selectsOn (a : Action) :
    (restful 30 a (asking [])).selectsOn 0 (leavingFrame a) 0 { plainHotspot with action := a } :=
  ⟨restful_formsSelection 30 a (asking []) (asking_headWaits [] (by decide)), rfl, by show 30 + 0 + 0 + 2 ≤ 32; decide⟩

/-- A query is taken at once, and its SELECTION report finds no slot beside the one that it reserves. -/
theorem witness_HotspotActions_taken :
    (restful 30 (.key 15) (asking [])).selectsOn 0 (leavingFrame (.key 15)) 0 { plainHotspot with action := .key 15 }
      ∧ (asking []).Edits (.key 15) [15] (asking []).terms true 0 ∧ (restful 30 (.key 15) (asking [])).dir.scan = none
      ∧ served.PrefixRun [15] 0 1 ∧ startsWith [14] shop = false := by
  refine ⟨restful_selectsOn _, .inl ⟨15, rfl, by decide, by decide, by decide, rfl, rfl, rfl, rfl⟩, rfl,
    ⟨by decide, by decide, nofun, fun j _ h => ?_, fun h => absurd h (by decide)⟩, by decide⟩
  obtain rfl : j = 0 := by omega
  decide

/-- A unit that is IDLE begins the search of a route request at once, and one whose key is queued merges. -/
theorem witness_HotspotActions_begun :
    (restful 30 (.waypoint 2) (asking [])).selectsOn 0 (leavingFrame (.waypoint 2)) 0
        { plainHotspot with action := .waypoint 2 }
      ∧ (restful 30 (.waypoint 2) (asking [])).search.units[(0 : Fin 2).val].state = .idle
      ∧ served.MissesWith routeKey served.rcc
      ∧ (three routeKey).QueueLaw ∧ (three routeKey).EnginesQuiet ∧ ∃ e ∈ (three routeKey).search.queue, e.key = routeKey := by
  refine ⟨restful_selectsOn _, rfl, .inl ⟨by decide +kernel, rfl⟩, ?_,
    ⟨rfl, rfl, fun e h => List.mem_singleton.mp h ▸ nofun⟩, _, List.mem_singleton.mpr rfl, rfl⟩
  simp [State.QueueLaw, three]

/-- A selection on the panel of a screen that is not enabled. -/
theorem witness_HotspotActions_disabled :
    (restful 30 (.key 15) Screen.reset).formsSelection 0 (leavingFrame (.key 15)) 0 { plainHotspot with action := .key 15 }
      ∧ Screen.reset.enabled = false ∧ (restful 30 (.key 15) Screen.reset).link.reportsHeld + 0 + 2 ≤ 32
      ∧ (restful 31 (.key 15) Screen.reset).link.reportsHeld + 0 = 31 :=
  ⟨restful_formsSelection 30 (.key 15) Screen.reset (fun _ h => nomatch h), rfl, by decide, by decide⟩

/-- A CANCEL hotspot of a screen whose panel query stands before a host's route. -/
theorem witness_HotspotActions_cancel :
    (holding 29 1 (selecting .service .cancel (asking [panelQuery, hostRoute]))).selectsOn 0 (leavingFrame .cancel) 0
        { plainHotspot with action := .cancel }
      ∧ (asking [panelQuery, hostRoute]).outstanding.countP Entry.ofPanel ≤ (holding 29 1 served).link.reserved
      ∧ [({ screen := 0, id := 1 } : Ref)] =
        ((asking [panelQuery, hostRoute]).outstanding.filter fun e => decide (e.result = none) && e.ofPanel).map
          (fun e => { screen := 0, id := e.id }) :=
  ⟨⟨formsSelection_with (selecting_formsSelection .service .cancel (asking [panelQuery, hostRoute])
    (asking_headWaits _ (by decide))) (holding 29 1 served).link _ _ rfl, rfl, by decide⟩, by decide, rfl⟩

/-- A running panel 0 on the sensor with track 3 DOWN. -/
def touched : Panel :=
  { panelIn .running .sensor with tracks := (Vector.replicate 5 Track.free).set 3 { Track.free with state := .down } }

theorem witness_FrameTimerExpiry :
    (served.resetLow = false ∧ (withPanel (panelIn .running .injected)).panels[0].config.source = .injected
        ∧ served.panels[0].state = .off)
      ∧ (touched.config.source = .sensor ∧ touched.state = .running)
      ∧ capturing.config.source = .sensor ∧ capturing.state = .capturing :=
  ⟨⟨rfl, rfl, rfl⟩, ⟨rfl, rfl⟩, rfl, rfl⟩

/-- 10 R177: the one DOWN track, number 3, reports UP (2) with CANCELLED at its position. -/
theorem test_cancelled_track_reports : (touched.cancelReports 0).map (·.payload) = [[0, 3, 2, 1, 0, 0, 0, 0]] := by decide

/-- 10 R167: the injected frame of a buffer that is emptied is answered DISCARDED. -/
theorem test_discarded_frame_answer :
    (({ touched with buffer := some (frame (some 4)) } : Panel).discardReply 1).map (·.payload) = [[2, 1]] := by decide

theorem witness_ArgumentsRefused :
    (1 < (2 : Byte).toNat ∧ (ready served 0x04 9 [2]).headIs 0x04 9 [2] [])
      ∧ ((ready (opened .waypoints 0) 0x06 9 [0, 0, 0]).headIs 0x06 9 [0, 0, 0] []
        ∧ ∀ c, (opened .waypoints 0).map.cursor = some c → ([0, 0, 0] : List Byte).length % c.table.recordSize ≠ 0)
      ∧ ((ready checking 0x06 9 []).headIs 0x06 9 [] [] ∧ checking.mod.mode = .checking)
      ∧ ((ready served 0x07 9 (le 2 0)).headIs 0x07 9 (le 2 0) [] ∧ served.map.cursor = none)
      ∧ ((ready served 0x0A 9 ([0, 1] ++ le 2 3 ++ [0, 0] ++ le 2 1 ++ le 2 4096 ++ le 2 0)).headIs 0x0A 9
          ([0, 1] ++ le 2 3 ++ [0, 0] ++ le 2 1 ++ le 2 4096 ++ le 2 0) []
        ∧ served.mod.mode.serving = true ∧ served.waypointCount ≤ 3 ∧ 8 ≤ (8 : Byte).toNat ∧ 4096 < 4097)
      ∧ ((ready served 0x0B 9 ([BitVec.ofNat 8 (0 : Fin 4).val, 0] ++ le 2 1 ++ [3, 8] ++ le 2 3)).headIs 0x0B 9
          ([BitVec.ofNat 8 (0 : Fin 4).val, 0] ++ le 2 1 ++ [3, 8] ++ le 2 3) []
        ∧ served.screens[(0 : Fin 4).val].enabled = true ∧ served.listingCount ≤ 1 ∧ (3 : Byte).getLsbD 1 = true)
      ∧ ((ready served 0x0E 9 [4]).headIs 0x0E 9 (4 :: []) [] ∧ (3 : Byte).toNat = (3 : Fin 4).val
        ∧ served.screens[(3 : Fin 4).val].enabled = false)
      ∧ ((ready served 0x10 9 ([0, 2, 2] ++ .replicate 6 0)).headIs 0x10 9 ([0, 2, 2] ++ .replicate 6 0) []) :=
  ⟨⟨by decide, served_headIs ..⟩, ⟨⟨rfl, rfl, rfl, rfl⟩, fun c h => Option.some.inj h ▸ by decide⟩,
    ⟨⟨rfl, rfl, rfl, rfl⟩, rfl⟩, ⟨served_headIs .., rfl⟩,
    ⟨served_headIs .., rfl, by decide, by decide, by decide⟩, ⟨served_headIs .., rfl, by decide, by decide⟩,
    ⟨served_headIs .., rfl, rfl⟩, served_headIs ..⟩

/-! ## Witnesses: the laws, each at a state with something in it, whose step answers a next state -/

theorem opened_valid (t : TableId) (i : Nat) (e : Fin 512) : ((opened t i).rcc.at e).valid = false := by
  simp [CacheState.at, opened, State.reset, State.started, State.heldReset, CacheEntry.reset]

theorem witness_ModeLawsKept :
    (opened .waypoints 7).RestsOutsideService ∧ freezing.FrozenHolds ∧ step (opened .waypoints 7) = .next (opened .waypoints 7).tick
      ∧ step freezing = .next freezing.tick :=
  ⟨fun _ => ⟨rfl, fun u => by fin_cases u <;> rfl, opened_valid _ _, rfl, rfl, rfl, rfl⟩,
    ⟨fun _ => rfl, fun _ h => nomatch h⟩, rfl, rfl⟩

theorem witness_CountsKept : closed3.CountsRight ∧ step closed3 = .next closed3.tick :=
  ⟨⟨by decide, by decide, by decide, by decide⟩, rfl⟩

theorem witness_SearchLawKept :
    (working { SearchUnit.idle with cost := setPlace (.replicate 4096 16777215) 2 70, frontier := [(70, 2)] } none
      served).SearchLaw := by
  refine ⟨fun u => ?_, by simp [working], fun e h => List.mem_singleton.mp h ▸ nofun⟩
  fin_cases u
  · simp [SearchUnit.FrontierLaw, working, place, setPlace, SearchUnit.idle]
  · simp [SearchUnit.FrontierLaw, working, SearchUnit.idle]

/-- Entry 216 alone is valid, and holds a route over segments 0 and 2. -/
theorem cached_valid (e : Fin 512) (h : (cached.rcc.at e).valid = true) : e = 216 := by
  by_contra hn
  have hne : ¬ 216 = e.val := fun h => hn (Fin.ext h.symm)
  simp [CacheState.at, cached, served, State.reset, State.started, State.heldReset, CacheEntry.reset,
    hne] at h

theorem witness_CacheLawKept : cached.CacheLaw ∧ step cached = .next cached.tick := by
  refine ⟨⟨fun e f he hf _ => (cached_valid e he).trans (cached_valid f hf).symm, fun e he => ?_⟩, rfl⟩
  obtain rfl := cached_valid e he
  exact .inl ⟨rfl, by decide +kernel⟩

theorem witness_NoHitUsesClosedSegment :
    cached.ClosuresCovered ∧ (cached.rcc.lookup cached.map.generation askedKey).2 = some shortRoute := by
  refine ⟨⟨nofun, ⟨by decide, by decide, by decide⟩, fun e he g hg hc => ?_, nofun⟩,
    by decide +kernel⟩
  obtain rfl := cached_valid e he
  obtain rfl | rfl : g = 0 ∨ g = 2 := by simpa [CacheState.at, cached] using hg
  all_goals exact nomatch hc

theorem witness_SessionLawKept : (scanning aScan).SessionLaw ∧ (scanning aScan).HeadsWait := by
  refine ⟨fun i => ?_, fun i e h => ?_⟩
  · fin_cases i <;> simp [Screen.Law, scanning, servedWith, served, asking, hostQuery, State.reset, State.started,
      State.heldReset, Screen.reset]
  · revert h
    fin_cases i
    · exact fun h => Option.some.inj h ▸ rfl
    all_goals exact fun h => nomatch h

theorem witness_LinkLawsKept : panelWaiting.ReportSlotLaw ∧ panelWaiting.screens[0].panelEntries = 1 :=
  ⟨⟨by decide, by decide⟩, by decide⟩

/-- A host's query is outstanding, and the reply slot it was accepted with is in use. -/
def owing : State := { scanning aScan with link := { (scanning aScan).link with slotsUsed := 1 } }

theorem reset_panel_law : Panel.reset.Law := by
  simp [Panel.Law, Panel.reset, Track.free, PanelConfig.reset]

theorem witness_EverySlotOwedKept : owing.EverySlotOwed ∧ step owing = .next owing.tick := by
  refine ⟨⟨⟨nofun, nofun⟩, fun p => ?_, by decide, by decide, by decide⟩, rfl⟩
  fin_cases p <;> exact reset_panel_law

end Sys2Proof.Tests
end

section
/-! PROOFS. The fields of a payload, requests handed to their owner, and LOAD_OPEN (01 R12, R13). -/

namespace Sys2Proof.Machine

/-! ## Fields of a payload -/

/-- Bytes written and read back give the number, cut to their width (00 section 4.2). -/
theorem ofLe_le (k n : Nat) : ofLe (le k n) = n % 256 ^ k := by
  induction k generalizing n with
  | zero => simp [le, ofLe, Nat.mod_one]
  | succ k ih =>
    have hb : (BitVec.ofNat 8 n).toNat = n % 256 := BitVec.toNat_ofNat n 8
    rw [le, ofLe, ih, hb, Nat.pow_succ', Nat.mod_mul]

/-- A number is written as as many bytes as asked for. -/
@[simp] theorem le_length (k n : Nat) : (le k n).length = k := by
  induction k generalizing n with
  | zero => rfl
  | succ k ih => simp [le, ih]

/-- The bytes of a count of 0. -/
theorem le_two_zero : le 2 0 = [0, 0] := by simp [le]

/-- The one-byte field at the front of a payload is its first byte. -/
theorem field_cons_zero (b : Byte) (p : List Byte) : field (b :: p) 0 1 = b.toNat := by
  simp [field, ofLe]

/-- A field behind the first byte is a field of what follows. -/
theorem field_cons_succ (b : Byte) (p : List Byte) (off n : Nat) : field (b :: p) (off + 1) n = field p off n := rfl

/-- A two-byte number at the front of a payload is read back. -/
theorem field_le_zero {n : Nat} (p : List Byte) (h : n < 65536) : field (le 2 n ++ p) 0 2 = n := by
  have ht : ((le 2 n ++ p).drop 0).take 2 = le 2 n := by simp [le]
  rw [field, ht, ofLe_le]
  exact Nat.mod_eq_of_lt h

/-- A field behind a two-byte number is a field of what follows. -/
theorem field_le_skip (m : Nat) (p : List Byte) (off n : Nat) : field (le 2 m ++ p) (off + 2) n = field p off n := rfl

/-! ## Requests handed to their owner -/

section
variable {s : State} {cls tag : Byte} {p : List Byte} {rest : List InFrame}

/-- While RESET_N is high a meaning is its operation. -/
theorem whileRunning_high (h : s.resetLow = false) (f : State → State) : whileRunning s f = .next (f s) := by
  rw [whileRunning_eq, h, if_neg Bool.false_ne_true]

/-- A request row whose frame passes the size test and the mode gate is what its owner does once the frame has left
the inbound queue (11 R185). -/
theorem whileRunning_dispatch {row : List Byte → Bool} (owner : Byte → List Byte → State → State)
    (h : s.headIs cls tag p rest) (hr : row p = true) (hs : sizeAllowed cls p.length = true)
    (hm : modeGate s.mod.mode cls = true) :
    whileRunning s (fun s => s.dispatch cls row owner) = .next (owner tag p (s.taken rest)) := by
  rw [whileRunning_high h.1, s.dispatch_owner owner h hr hs hm]

/-- The requests that pass the mode gate in every mode and are refused by their owners alone (02 R22). -/
theorem modeGate_open (m : Mode) (h : cls ∈ ([0x04, 0x05, 0x06, 0x07, 0x0D, 0x0E, 0x10] : List Byte)) :
    modeGate m cls = true := by
  fin_cases h <;> cases m <;> rfl

/-- A LOAD_OPEN of an allowed length answers what its operation gives once the frame has left the queue. -/
theorem exec_loadOpen (h : s.headIs 0x05 tag p rest) (hp : p.length = 4) :
    exec .loadOpen s = .next (((s.taken rest).loadOpen p).1.reply 0x05 tag
      (((s.taken rest).loadOpen p).1.loadOpenReply ((s.taken rest).loadOpen p).2)) :=
  whileRunning_dispatch _ h rfl (by rw [hp]; rfl) (modeGate_open _ (by decide))

/-- A LOAD_WRITE of an allowed length answers what its operation gives once the frame has left the queue. -/
theorem exec_loadWrite (h : s.headIs 0x06 tag p rest) (hp : p.length ≤ 1024) :
    exec .loadWrite s =
      .next (((s.taken rest).loadWrite p).state.reply 0x06 tag ((s.taken rest).loadWrite p).reply) :=
  whileRunning_dispatch _ h rfl (by simpa [sizeAllowed] using hp) (modeGate_open _ (by decide))

/-- A LOAD_READ of an allowed length answers what its operation gives once the frame has left the queue. -/
theorem exec_loadRead (h : s.headIs 0x07 tag p rest) (hp : p.length = 2) :
    exec .loadRead s =
      .next (((s.taken rest).loadRead p).1.reply 0x07 tag ((s.taken rest).loadRead p).2) :=
  whileRunning_dispatch _ h rfl (by rw [hp]; rfl) (modeGate_open _ (by decide))

end

/-! ## Table codes (01 R9) -/

/-- A table's code names it. -/
theorem TableId.ofCode_code (t : TableId) : TableId.ofCode t.code.toNat = some t := by
  cases t with
  | curve q => fin_cases q <;> rfl
  | baseline q => fin_cases q <;> rfl
  | _ => rfl

/-- No table has a code above 11. -/
theorem TableId.ofCode_eq_none {n : Nat} (h : 11 < n) : TableId.ofCode n = none := by
  unfold TableId.ofCode
  repeat rw [if_neg (by omega)]

/-! ## LOAD_OPEN (01 R12, R13) -/

/-- Taking the head frame leaves what a clear rests on. -/
theorem State.clearAllowed_taken (s : State) (rest : List InFrame) (t : TableId) :
    (s.taken rest).clearAllowed t = s.clearAllowed t := rfl

section
variable {s : State} {tag o : Byte} {i : Nat} {rest : List InFrame} {t : TableId}

/-- The three fields of a LOAD_OPEN. -/
theorem loadOpen_fields (code : Byte) (h : i < 65536) :
    field ([code] ++ le 2 i ++ [o]) 0 1 = code.toNat ∧ field ([code] ++ le 2 i ++ [o]) 1 2 = i
      ∧ byteAt ([code] ++ le 2 i ++ [o]) 3 = o :=
  ⟨field_cons_zero _ _, field_le_zero [o] h, rfl⟩

/-- A LOAD_OPEN of a table at an index within its capacity, outside CHECKING. -/
theorem State.loadOpen_request (hm : s.mod.mode ≠ .checking) (hi : i < 65536) (hc : i ≤ t.capacity) :
    s.loadOpen ([t.code] ++ le 2 i ++ [o]) =
      if o.getLsbD 0 then
        if s.clearAllowed t then ((s.clearTable t).setCursor t i, .ok) else (s.setCursor t i, .discarded)
      else (s.setCursor t i, .ok) := by
  obtain ⟨hf, hx, hb⟩ := loadOpen_fields (o := o) t.code hi
  simp only [State.loadOpen, if_neg hm, hf, hx, hb, t.ofCode_code, if_neg (Nat.not_lt.mpr hc)]

/-- A LOAD_OPEN that asks for no clear moves the cursor (01 R12). -/
theorem exec_loadOpen_plain (h : s.headIs 0x05 tag ([t.code] ++ le 2 i ++ [o]) rest) (hi : i < 65536)
    (hm : s.mod.mode ≠ .checking) (hc : i ≤ t.capacity) (ho : o.getLsbD 0 = false) :
    exec .loadOpen s = .next { s.answered rest 0x85 tag ([0, t.code] ++ le 2 i ++ le 2 (s.tableCount t)) with
      map := { s.map with cursor := some { table := t, index := i } } } := by
  rw [exec_loadOpen h rfl, State.loadOpen_request (s := s.taken rest) hm hi hc, ho]
  cases t <;> rfl

/-- A LOAD_OPEN whose clear is not allowed moves the cursor and answers DISCARDED (01 R13). -/
theorem exec_loadOpen_discarded (h : s.headIs 0x05 tag ([t.code] ++ le 2 i ++ [o]) rest) (hi : i < 65536)
    (hm : s.mod.mode ≠ .checking) (hc : i ≤ t.capacity) (ho : o.getLsbD 0 = true) (ha : s.clearAllowed t = false) :
    exec .loadOpen s = .next { s.answered rest 0x85 tag ([2, t.code] ++ le 2 i ++ le 2 (s.tableCount t)) with
      map := { s.map with cursor := some { table := t, index := i } } } := by
  rw [exec_loadOpen h rfl, State.loadOpen_request (s := s.taken rest) hm hi hc, ho, s.clearAllowed_taken, ha]
  cases t <;> rfl

/-- A LOAD_OPEN whose clear is allowed empties the table and moves the cursor (01 R13). -/
theorem exec_loadOpen_cleared (h : s.headIs 0x05 tag ([t.code] ++ le 2 i ++ [o]) rest) (hi : i < 65536)
    (hm : s.mod.mode ≠ .checking) (hc : i ≤ t.capacity) (ho : o.getLsbD 0 = true) (ha : s.clearAllowed t = true) :
    exec .loadOpen s =
      .next (((s.clearTable t).setCursor t i).answered rest 0x85 tag ([0, t.code] ++ le 2 i ++ [0, 0])) := by
  rw [exec_loadOpen h rfl, State.loadOpen_request (s := s.taken rest) hm hi hc, ho, s.clearAllowed_taken, ha,
    ← le_two_zero]
  cases t <;> rfl

/-- A LOAD_OPEN that names no table or an index above the capacity leaves the state (01 R12). -/
theorem State.loadOpen_badArgument {s : State} {p : List Byte} (hm : s.mod.mode ≠ .checking)
    (h : 11 < field p 0 1 ∨ ∃ t, TableId.ofCode (field p 0 1) = some t ∧ t.capacity < field p 1 2) :
    s.loadOpen p = (s, .badArgument) := by
  obtain h | ⟨t, ht, hc⟩ := h
  · simp only [State.loadOpen, if_neg hm, TableId.ofCode_eq_none h]
  · simp only [State.loadOpen, if_neg hm, ht, if_pos hc]

/-- The standard curve is the one whose entries are their own indices (01 R9). -/
theorem eq_identityCurve {v : Vector Byte 256} (h : ∀ k : Fin 256, v[k.val].toNat = k.val) : v = identityCurve := by
  ext k hk : 1
  apply BitVec.eq_of_toNat_eq
  rw [h ⟨k, hk⟩, identityCurve, Vector.getElem_ofFn, BitVec.toNat_ofNat, Nat.mod_eq_of_lt hk]

end

/-- Settles O20. Each clause is one of the three outcomes of an open, read at its table, or a refusal. -/
theorem loadOpen : Obligations.LoadOpen := by
  unfold Obligations.LoadOpen
  intro s tag code i o rest h hi
  constructor
  · rintro t hm rfl hc
    have cleared := exec_loadOpen_cleared h hi hm hc
    have discarded := exec_loadOpen_discarded h hi hm hc
    refine ⟨exec_loadOpen_plain h hi hm hc, ?_, ?_, ?_, ?_, ?_, ?_, ?_, ?_⟩
    · intro ho ht hl
      exact discarded ho (by simp [State.clearAllowed, ht, hl])
    · rintro ho hl rfl
      exact cleared ho (by simp [State.clearAllowed, TableId.inService, hl])
    · rintro ho hl rfl
      exact cleared ho (by simp [State.clearAllowed, TableId.inService, hl])
    · rintro ho hl rfl
      exact cleared ho (by simp [State.clearAllowed, TableId.inService, hl])
    · rintro ho hl rfl
      exact cleared ho (by simp [State.clearAllowed, TableId.inService, hl])
    · rintro q v ho rfl hv
      rw [eq_identityCurve hv]
      exact cleared ho rfl
    · rintro q ho rfl hq
      exact cleared ho (by simp [State.clearAllowed, TableId.inService, State.captured, hq])
    · rintro q ho rfl hq
      rw [← le_two_zero]
      exact discarded ho (by simp [State.clearAllowed, TableId.inService, State.captured, hq])
  · intro r hr
    rw [exec_loadOpen h rfl]
    obtain ⟨hf, hx, -⟩ := loadOpen_fields (o := o) code hi
    obtain ⟨hm, rfl⟩ | ⟨hm, rfl, hbad⟩ := hr
    · have hl : (s.taken rest).loadOpen ([code] ++ le 2 i ++ [o]) = (s.taken rest, .wrongMode) := if_pos hm
      rw [hl, State.taken_reply]
      simp only [State.loadOpenReply, State.taken_fields]
      cases s.map.cursor <;> rfl
    · have hl : (s.taken rest).loadOpen ([code] ++ le 2 i ++ [o]) = (s.taken rest, .badArgument) :=
        State.loadOpen_badArgument hm (by
          rw [hf, hx]
          exact hbad.imp_right fun ⟨t, ht, hc⟩ => ⟨t, by rw [ht, t.ofCode_code], hc⟩)
      rw [hl, State.taken_reply]
      simp only [State.loadOpenReply, State.taken_fields]
      cases s.map.cursor <;> rfl
end Sys2Proof.Machine
end

section
/-! PROOFS. LOAD_READ (01 R18), what a table holds once records have been written to it, and LOAD_WRITE (01 R14 to R17). -/

namespace Sys2Proof.Machine

/-! ## LOAD_READ (01 R18) -/

/-- Settles O22: the count of records returned is the least of the three limits, which the model computes likewise. -/
theorem loadRead : Obligations.LoadRead := by
  unfold Obligations.LoadRead
  intro s tag w rest t i n h hw hm hcur hn
  have hf : field (le 2 w) 0 2 = w := field_le_zero [] hw
  have hcount : (s.taken rest).readCount { table := t, index := i } w = n := by rw [hn]; rfl
  have hread : (s.taken rest).loadRead (le 2 w) =
      ((s.taken rest).setCursor t (i + n), [(if n = w then ResultCode.ok else .partialDone).code, t.code]
        ++ le 2 i ++ le 2 n ++ (List.range' i n).flatMap (s.recordBytes t)) := by
    simp only [State.loadRead, State.taken_fields, if_neg hm, hcur, hf, hcount]
    rfl
  have hcode : (if n = w then ResultCode.ok else .partialDone).code = if n = w then 0 else 1 := by split <;> rfl
  rw [exec_loadRead h rfl, hread, hcode]
  rfl

/-! ## Records written (01 R14) -/

/-- A payload is cut into as many pieces as asked for. -/
@[simp] theorem pieces_length (size n : Nat) (p : List Byte) : (pieces size n p).length = n := by
  induction n generalizing p with
  | zero => rfl
  | succ n ih => simp [pieces, ih]

/-- Piece `j` of a payload stands at offset `size * j`. -/
theorem pieces_getD {size n j : Nat} (p : List Byte) (h : j < n) :
    (pieces size n p).getD j [] = (p.drop (size * j)).take size := by
  induction n generalizing p j with
  | zero => omega
  | succ n ih =>
    cases j with
    | zero => simp [pieces]
    | succ j =>
      have hj : size + size * j = size * (j + 1) := by rw [Nat.mul_succ, Nat.add_comm]
      rw [pieces, List.getD_cons_succ, ih (p.drop size) (by omega), List.drop_drop, hj]

/-- A record of a fixed table after a write within its capacity: a written one or an older one (01 R14). -/
theorem writeFixed_getD {α : Type} {n : Nat} (d : α) (t : Vector α n) (i j : Nat) (rs : List α)
    (h : rs = [] ∨ i + rs.length ≤ n) :
    (writeFixed t i rs).toArray.getD j d =
      if i ≤ j ∧ j < i + rs.length then rs.getD (j - i) d else t.toArray.getD j d := by
  by_cases hj : j < n
  · have hd : ∀ x, i ≤ j ∧ j < i + rs.length → rs.getD (j - i) x = rs.getD (j - i) d := by
      intro x hx
      rw [List.getD_eq_getElem _ _ (by omega), List.getD_eq_getElem _ _ (by omega)]
    simp [writeFixed, Array.getD, hj]
    split
    · exact hd _ ‹_›
    · rfl
  · have hout : ¬ (i ≤ j ∧ j < i + rs.length) := by
      obtain rfl | h := h
      · simp
      · omega
    simp [Array.getD, hj, hout]

/-- A written record is stored in its table's form. -/
theorem map_getD_stored {α : Type} (f : List Byte → α) (d : α) {rs : List (List Byte)} {k : Nat}
    (h : k < rs.length) : (rs.map f).getD k d = f (rs.getD k []) := by
  simp [List.getD_eq_getElem?_getD, h]

/-- The bytes of a record chosen between those just written and an older one, as every table chooses it. -/
theorem ite_map_getD {α : Type} (f : List Byte → α) (bytes : α → List Byte) (d old : α) (rs : List (List Byte))
    (i j : Nat) :
    bytes (if i ≤ j ∧ j < i + (rs.map f).length then (rs.map f).getD (j - i) d else old) =
      if i ≤ j ∧ j < i + rs.length then bytes (f (rs.getD (j - i) [])) else bytes old := by
  rw [List.length_map, apply_ite bytes]
  split
  · rw [map_getD_stored f d (by omega)]
  · rfl

/-- What a table holds once records have been written to it (01 R14, R15). -/
theorem State.writeTable_recordBytes (s : State) (t : TableId) (i j : Nat) (rs : List (List Byte))
    (h : rs = [] ∨ i + rs.length ≤ t.capacity) :
    (s.writeTable t i rs).recordBytes t j =
      if i ≤ j ∧ j < i + rs.length then t.stored (rs.getD (j - i) []) else s.recordBytes t j := by
  have hmap : ∀ {α : Type} (f : List Byte → α), rs.map f = [] ∨ i + (rs.map f).length ≤ t.capacity := by
    intro α f
    simpa using h
  cases t with
  | waypoints =>
    exact (congrArg Waypoint.toBytes (writeCounted_getD _ _ i j _)).trans (ite_map_getD ..)
  | segments =>
    exact (congrArg Segment.toBytes (writeCounted_getD _ _ i j _)).trans (ite_map_getD ..)
  | listings =>
    exact (congrArg Listing.toBytes (writeCounted_getD _ _ i j _)).trans (ite_map_getD ..)
  | profiles =>
    exact (congrArg Profile.toBytes (writeFixed_getD _ _ i j _ (hmap _))).trans (ite_map_getD ..)
  | curve q =>
    simp only [State.writeTable, State.recordBytes, State.onPanel_get, if_true]
    exact (congrArg (fun b => [b]) (writeFixed_getD _ _ i j _ (hmap _))).trans
      (ite_map_getD _ (fun b => [b]) ..)
  | baseline q =>
    cases hrs : rs.isEmpty with
    | true =>
      obtain rfl : rs = [] := List.isEmpty_iff.mp hrs
      simp [State.writeTable]
    | false =>
      simp only [State.writeTable, State.recordBytes, hrs, Bool.false_eq_true, if_false, State.onPanel_get, if_true]
      exact (congrArg baselineToBytes (writeFixed_getD _ _ i j _ (hmap _))).trans (ite_map_getD ..)

section
variable (s : State) {t : TableId} (i : Nat) (rs : List (List Byte))

/-- Records written to another table leave the waypoints. -/
theorem State.writeTable_waypoints (h : t ≠ .waypoints) : (s.writeTable t i rs).map.waypoints = s.map.waypoints := by
  cases t with
  | waypoints => exact absurd rfl h
  | baseline q => cases rs <;> rfl
  | _ => rfl

/-- Records written to another table leave the segments and the closed-segment count. -/
theorem State.writeTable_segments (h : t ≠ .segments) :
    (s.writeTable t i rs).map.segments = s.map.segments
      ∧ (s.writeTable t i rs).map.closedCount = s.map.closedCount := by
  cases t with
  | segments => exact absurd rfl h
  | baseline q => cases rs <;> exact ⟨rfl, rfl⟩
  | _ => exact ⟨rfl, rfl⟩

/-- Records written to another table leave the listings. -/
theorem State.writeTable_listings (h : t ≠ .listings) : (s.writeTable t i rs).dir.listings = s.dir.listings := by
  cases t with
  | listings => exact absurd rfl h
  | baseline q => cases rs <;> rfl
  | _ => rfl

/-- Records written to another table leave the profiles. -/
theorem State.writeTable_profiles (h : t ≠ .profiles) : (s.writeTable t i rs).profiles = s.profiles := by
  cases t with
  | profiles => exact absurd rfl h
  | baseline q => cases rs <;> rfl
  | _ => rfl

/-- What records written do to a panel: the curve, or the baseline with the drift cancellation, of their own table's
panel changes, and nothing else. -/
theorem State.writeTable_panel (q : Fin 4) :
    (s.writeTable t i rs).panels[q.val] =
      if t = .curve q then
        { s.panels[q.val] with curve := writeFixed s.panels[q.val].curve i (rs.map fun r => byteAt r 0) }
      else if t = .baseline q ∧ rs ≠ [] then
        s.panels[q.val].setBaseline (writeFixed s.panels[q.val].baseline i (rs.map baselineOfBytes))
      else s.panels[q.val] := by
  cases t with
  | curve p =>
    by_cases hq : q = p
    · simp [State.writeTable, hq]
    · simp [State.writeTable, hq, Ne.symm hq]
  | baseline p =>
    cases rs with
    | nil => simp [State.writeTable]
    | cons r rs =>
      by_cases hq : q = p
      · simp [State.writeTable, hq]
      · simp [State.writeTable, hq, Ne.symm hq]
  | _ => rfl

/-- Records written leave all of a panel but its curve, its baseline and its frame in processing. -/
theorem State.writeTable_panel_keeps (q : Fin 4) :
    (s.writeTable t i rs).panels[q.val] = { s.panels[q.val] with
      curve := (s.writeTable t i rs).panels[q.val].curve
      baseline := (s.writeTable t i rs).panels[q.val].baseline
      processing := (s.writeTable t i rs).panels[q.val].processing } := by
  rw [s.writeTable_panel]
  split
  · rfl
  · split
    · simp only [Panel.setBaseline]
    · rfl

/-- Records written to one table leave the count and the records of every other (01 R15). -/
theorem State.writeTable_other {t' : TableId} (h : t' ≠ t) :
    (s.writeTable t i rs).tableCount t' = s.tableCount t'
      ∧ ∀ j, (s.writeTable t i rs).recordBytes t' j = s.recordBytes t' j := by
  cases t' with
  | waypoints =>
    simp only [State.tableCount, State.recordBytes, State.waypointCount, State.waypoint,
      s.writeTable_waypoints i rs h.symm, implies_true, and_self]
  | segments =>
    simp only [State.tableCount, State.recordBytes, State.segmentCount, State.segment,
      s.writeTable_segments i rs h.symm, implies_true, and_self]
  | listings =>
    simp only [State.tableCount, State.recordBytes, State.listingCount, State.listing,
      s.writeTable_listings i rs h.symm, implies_true, and_self]
  | profiles =>
    simp only [State.tableCount, State.recordBytes, s.writeTable_profiles i rs h.symm, implies_true, and_self]
  | curve q =>
    simp only [State.tableCount, State.recordBytes, s.writeTable_panel, if_neg h.symm, true_and]
    intro j
    split <;> rfl
  | baseline q =>
    have hb : ¬ (t = .baseline q ∧ rs ≠ []) := fun hb => h hb.1.symm
    simp only [State.tableCount, State.recordBytes, s.writeTable_panel, if_neg hb, true_and]
    intro j
    split <;> rfl

/-- The count of a table that has one, once records have been written to it (01 R14). -/
theorem State.writeTable_tableCount (h : t.counted = true) :
    (s.writeTable t i rs).tableCount t =
      if rs.length = 0 then s.tableCount t else max (s.tableCount t) (i + rs.length) := by
  cases rs with
  | nil =>
    cases t with
    | waypoints | segments | listings => simp [State.writeTable, State.tableCount, State.waypointCount,
        State.segmentCount, State.listingCount]
    | profiles | curve | baseline => cases h
  | cons r rs =>
    have hlen : ∀ {α : Type} (f : List Byte → α) (d : α) (l : List α),
        (writeCounted d l i ((r :: rs).map f)).length = max l.length (i + (r :: rs).length) := by
      intro α f d l
      rw [writeCounted_length _ _ _ _ (by simp), List.length_map]
    rw [if_neg (by simp)]
    cases t with
    | waypoints | segments | listings => exact hlen _ _ _
    | profiles | curve | baseline => cases h

end

/-! ## LOAD_WRITE (01 R14 to R17) -/

section
variable {s : State} {tag : Byte} {p : List Byte} {rest : List InFrame} {t : TableId} {i n k : Nat}

/-- Every record has a size. -/
theorem TableId.recordSize_pos (t : TableId) : 0 < t.recordSize := by cases t <;> simp [TableId.recordSize]

/-- A LOAD_WRITE of whole records outside CHECKING, at an open cursor: discarded, or written up to the capacity. -/
theorem State.loadWrite_records (hcur : s.map.cursor = some { table := t, index := i }) (hm : s.mod.mode ≠ .checking)
    (hp : p.length = n * t.recordSize) (hn : 0 < n) :
    s.loadWrite p =
      if s.writeDiscarded t then
        { state := s.setCursor t (min (i + n) t.capacity), result := .discarded, written := 0 }
      else
        { state := (s.writeTable t i (pieces t.recordSize (min n (t.capacity - i)) p)).setCursor t
            (i + min n (t.capacity - i))
          result := if min n (t.capacity - i) < n then .partialDone else .ok
          written := min n (t.capacity - i) } := by
  have hdiv : p.length / t.recordSize = n := by rw [hp, Nat.mul_div_cancel _ t.recordSize_pos]
  have hbad : ¬ (p.length = 0 ∨ p.length % t.recordSize ≠ 0) := by
    rw [hp, Nat.mul_mod_left]
    have := Nat.mul_pos hn t.recordSize_pos
    omega
  simp only [State.loadWrite, if_neg hm, hcur, hdiv, if_neg hbad]

/-- Whether the panel of a table is taking a baseline capture of that table (01 R17). -/
theorem State.captured_iff : s.captured t = true ↔ ∃ q, t = .baseline q ∧ s.panels[q.val].state = .capturing := by
  cases t <;> simp [State.captured]

/-- A write is discarded exactly for a map table in service and for a baseline that is being captured (01 R16, R17). -/
theorem State.writeDiscarded_iff : s.writeDiscarded t = true ↔
    (t.inService = true ∧ s.mod.mode.serving = true)
      ∨ ∃ q, t = .baseline q ∧ s.panels[q.val].state = .capturing := by
  rw [State.writeDiscarded, Bool.or_eq_true, Bool.and_eq_true, State.captured_iff]

/-- SERVICE and FROZEN are neither CHECKING nor LOADING. -/
theorem Mode.serving_ne {m : Mode} (h : m.serving = true) : m ≠ .checking ∧ m ≠ .loading := by
  cases m <;> simp_all [Mode.serving]

/-- A discarded LOAD_WRITE moves the cursor alone (01 R16, R17). -/
theorem exec_loadWrite_discarded (h : s.headIs 0x06 tag p rest) (hcur : s.map.cursor = some { table := t, index := i })
    (hm : s.mod.mode ≠ .checking) (hp : p.length = n * t.recordSize) (hn : 0 < n) (hlen : p.length ≤ 1024)
    (hd : s.writeDiscarded t = true) :
    exec .loadWrite s = .next { s.answered rest 0x86 tag ([2, 0, 0] ++ le 2 (min (i + n) t.capacity)) with
      map := { s.map with cursor := some { table := t, index := min (i + n) t.capacity } } } := by
  have hd' : (s.taken rest).writeDiscarded t = true := hd
  rw [exec_loadWrite h hlen, State.loadWrite_records (s := s.taken rest) hcur hm hp hn, if_pos hd',
    WriteOutcome.reply, le_two_zero]
  rfl

/-- A LOAD_WRITE that may write stores the records that fall below the capacity and moves the cursor behind them
(01 R14, R15). -/
theorem exec_loadWrite_written (h : s.headIs 0x06 tag p rest) (hcur : s.map.cursor = some { table := t, index := i })
    (hm : s.mod.mode ≠ .checking) (hp : p.length = n * t.recordSize) (hn : 0 < n) (hlen : p.length ≤ 1024)
    (hd : s.writeDiscarded t = false) (hk : k = min n (t.capacity - i)) :
    exec .loadWrite s = .next ((((s.taken rest).writeTable t i (pieces t.recordSize k p)).setCursor t (i + k)).reply
      0x06 tag ([if k < n then 1 else 0] ++ le 2 k ++ le 2 (i + k))) := by
  have hd' : (s.taken rest).writeDiscarded t ≠ true := by rw [← Bool.not_eq_true] at hd; exact hd
  have hcode : (if k < n then ResultCode.partialDone else .ok).code = if k < n then 1 else 0 := by split <;> rfl
  rw [exec_loadWrite h hlen, State.loadWrite_records (s := s.taken rest) hcur hm hp hn, if_neg hd', ← hk,
    WriteOutcome.reply, hcode]
  rfl

end

/-- Settles O21: the records, the counts and the panels are read off the tables once the pieces of the payload have been
written to them. -/
theorem loadWrite : Obligations.LoadWrite := by
  unfold Obligations.LoadWrite
  constructor
  · intro s tag p rest t i n k h hcur hm hload hcap hp hn hlen hk
    have hd : s.writeDiscarded t = false := by
      rw [← Bool.not_eq_true, State.writeDiscarded_iff]
      rintro (⟨ht, hs⟩ | ⟨q, ht, hq⟩)
      · exact (Mode.serving_ne hs).2 (hload ht)
      · exact hcap q ht hq
    have hfit : pieces t.recordSize k p = [] ∨ i + (pieces t.recordSize k p).length ≤ t.capacity := by
      rw [← List.length_eq_zero_iff, pieces_length]
      omega
    refine ⟨_, exec_loadWrite_written h hcur hm hp hn hlen hd hk, ?_, rfl, ?_, ?_, ?_, ?_, ?_⟩
    · simp only [State.reply_link, State.setCursor_fields, State.writeTable_keeps]
      rfl
    · intro j
      have hrec := (s.taken rest).writeTable_recordBytes t i j _ hfit
      rw [pieces_length] at hrec
      refine hrec.trans (ite_congr rfl (fun hj => ?_) fun _ => rfl)
      rw [pieces_getD p (by omega)]
    · intro hc
      have hcount := (s.taken rest).writeTable_tableCount i (pieces t.recordSize k p) hc
      rwa [pieces_length] at hcount
    · intro t' ht
      exact (s.taken rest).writeTable_other i _ ht
    · simp
    · intro q
      exact (s.taken rest).writeTable_panel_keeps i _ q
  · intro s tag p rest t i n h hcur hd hp hn hlen
    have hm : s.mod.mode ≠ .checking := hd.elim (fun hs => (Mode.serving_ne hs.2).1) And.left
    exact exec_loadWrite_discarded h hcur hm hp hn hlen (State.writeDiscarded_iff.mpr (hd.imp_right And.right))
end Sys2Proof.Machine
end

section
/-! PROOFS. The outgoing runs of the start index (01 R7, R8) and the settle step (04 R61 to R63). -/

namespace Sys2Proof.Machine

/-! ## The outgoing runs (01 R7, R8) -/

/-- The first index of a table whose from waypoint is `v` or above; the length where none is (01 R7). -/
def firstFrom (l : List Segment) (v : Nat) : Nat := l.findIdx fun g => decide (v ≤ g.src.toNat)

/-- The start index holds, for every waypoint and for the end of the map, the first segment from there on. -/
theorem buildStartIndex_getD {n v : Nat} {l : List Segment} (h : ∀ g ∈ l, g.src.toNat < n) (hv : v ≤ n) :
    (buildStartIndex n l).getD v 0 = firstFrom l v := by
  obtain hv | rfl := Nat.lt_or_eq_of_le hv
  · simp [buildStartIndex, firstFrom, List.getD_eq_getElem?_getD, List.getElem?_append, hv]
  · have hnone : firstFrom l v = l.length := List.findIdx_eq_length.mpr fun g hg => by simpa using h g hg
    simp [buildStartIndex, List.getD_eq_getElem?_getD, hnone]

/-- In a table in the order of its from waypoints, the segments from waypoint `v` on are those at or behind the first of
them. -/
theorem firstFrom_le_iff {l : List Segment}
    (hs : ∀ i j (hij : i ≤ j) (hj : j < l.length), l[i].src.toNat ≤ l[j].src.toNat) {v g : Nat}
    (hg : g < l.length) : firstFrom l v ≤ g ↔ v ≤ l[g].src.toNat := by
  constructor
  · intro hle
    have hfirst : v ≤ (l[firstFrom l v]'(by omega)).src.toNat :=
      of_decide_eq_true (List.findIdx_getElem (w := Nat.lt_of_le_of_lt hle hg))
    exact hfirst.trans (hs _ g hle hg)
  · intro hv
    by_contra hlt
    exact of_decide_eq_false (List.not_of_lt_findIdx (Nat.not_le.mp hlt)) hv

/-- A run of indices is what a bound on both sides leaves of a range. -/
theorem range'_eq_filter_range {a b n : Nat} (hb : b ≤ n) :
    List.range' a (b - a) = (List.range n).filter fun g => decide (a ≤ g ∧ g < b) := by
  have hboth : (List.Ico 0 n).filter (fun g => decide (a ≤ g ∧ g < b)) =
      ((List.Ico 0 n).filter fun g => decide (g < b)).filter fun g => decide (a ≤ g) := by
    rw [List.filter_filter]
    simp only [Bool.decide_and]
  rw [← List.Ico.zero_bot, hboth, List.Ico.filter_lt, List.Ico.filter_le, min_eq_right hb, Nat.zero_max]
  rfl

/-- Settles O37: a run lies between the first segment from its waypoint on and the first from the next one on. -/
theorem outgoingRuns : Obligations.OutgoingRuns := by
  unfold Obligations.OutgoingRuns
  intro s w hidx hsorted hsrc hw
  have hseg : ∀ g (hg : g < s.map.segments.length), s.segment g = s.map.segments[g] :=
    fun g hg => List.getD_eq_getElem _ _ hg
  have hmem : ∀ g ∈ s.map.segments, g.src.toNat < s.waypointCount := by
    intro x hx
    obtain ⟨g, hg, rfl⟩ := List.getElem_of_mem hx
    exact hseg g hg ▸ hsrc g hg
  have hmono : ∀ i j (hij : i ≤ j) (hj : j < s.map.segments.length),
      s.map.segments[i].src.toNat ≤ s.map.segments[j].src.toNat := by
    intro i j hij
    induction j, hij using Nat.le_induction with
    | base => exact fun _ => le_rfl
    | succ j hij ih =>
      intro hj
      have hstep := hsorted j hj
      rw [hseg j (by omega), hseg (j + 1) hj] at hstep
      exact (ih (by omega)).trans hstep
  have hrun : s.outgoing w = List.range' (firstFrom s.map.segments w.toNat)
      (firstFrom s.map.segments (w.toNat + 1) - firstFrom s.map.segments w.toNat) := by
    simp only [State.outgoing, hidx, buildStartIndex_getD hmem hw, buildStartIndex_getD hmem hw.le]
  have hend : firstFrom s.map.segments (w.toNat + 1) ≤ s.segmentCount := List.findIdx_le_length
  rw [hrun, range'_eq_filter_range hend]
  refine List.filter_congr fun g hg => ?_
  have hg : g < s.map.segments.length := List.mem_range.mp hg
  have hlow := firstFrom_le_iff hmono (v := w.toNat) hg
  have hhigh := firstFrom_le_iff hmono (v := w.toNat + 1) hg
  rw [decide_eq_decide, hseg g hg, ← BitVec.toNat_inj]
  omega

/-! ## The settle step (04 R61 to R63) -/

/-- A queue in which no entry is WAITING holds none to take. -/
theorem takeOldest_none {u : Fin 2} {q : List SearchEntry} (h : NoneWaits q) : takeOldest u q = none := by
  induction q with
  | nil => rfl
  | cons e es ih =>
    obtain ⟨he, hes⟩ := List.forall_mem_cons.mp h
    obtain ⟨v, hv⟩ := Option.ne_none_iff_exists'.mp he
    simp [takeOldest, hv, ih hes]

/-- A unit takes nothing while no entry is WAITING (04 R56). -/
theorem State.giveUnit_noneWaits {s : State} (u : Fin 2) (h : NoneWaits s.search.queue) : s.giveUnit u = s := by
  simp [State.giveUnit, takeOldest_none h]

/-- Where nothing waits, serving the engines changes nothing. -/
theorem State.serve_quiet {s : State} (h : s.EnginesQuiet) : s.serve = s := by
  obtain ⟨hrco, hdir, hq⟩ := h
  have hc : s.serveComposer = s := by rw [State.serveComposer, hrco, State.takePlaces, ← hrco]
  have hg : s.giveUnits = s := by
    rw [State.giveUnits, State.giveUnit_noneWaits 0 hq, State.giveUnit_noneWaits 1 hq]
  have hd : s.serveDirectory = s := by rw [State.serveDirectory, hdir, State.takeQueries, ← hdir]
  rw [State.serve, hc, hg, hd]

/-- An insertion adds its pair to the frontier. -/
theorem mem_frontierInsert (x y : Nat × BitVec 12) (f : List (Nat × BitVec 12)) :
    y ∈ frontierInsert x f ↔ y = x ∨ y ∈ f := by
  induction f with
  | nil => simp [frontierInsert]
  | cons z zs ih =>
    rw [frontierInsert]
    split
    · simp
    · rw [List.mem_cons, ih, List.mem_cons]
      tauto

/-- A frontier in which a waypoint has been placed holds that waypoint and those it held (04 R60). -/
theorem mem_frontierPlace (c : Nat) (w x : BitVec 12) (f : List (Nat × BitVec 12)) :
    x ∈ (frontierPlace c w f).map (·.2) ↔ x = w ∨ x ∈ f.map (·.2) := by
  simp only [frontierPlace, List.mem_map, mem_frontierInsert, List.mem_filter, decide_eq_true_eq]
  constructor
  · rintro ⟨y, rfl | ⟨hy, -⟩, rfl⟩
    · exact .inl rfl
    · exact .inr ⟨y, hy, rfl⟩
  · rintro (rfl | ⟨y, hy, rfl⟩)
    · exact ⟨_, .inl rfl, rfl⟩
    · by_cases hw : y.2 = w
      · exact ⟨(c, w), .inl rfl, hw.symm⟩
      · exact ⟨y, .inr ⟨hy, hw⟩, rfl⟩

/-- A segment of the settled waypoint's run that passes the four tests offers its to waypoint a path at this cost more
than the settled waypoint's (04 R62). -/
def State.Offers (s : State) (u : SearchUnit) (g k : Nat) : Prop :=
  segmentCost s.profiles[u.key.profile.val] (s.segment g) = some k ∧ place u.settled (s.segment g).dst = false
    ∧ (s.segment g).closed = false

/-- A segment of an allowed kind to an unsettled waypoint is closed, which DETOUR records (04 R62). -/
def State.MeetsClosed (s : State) (u : SearchUnit) (g : Nat) : Prop :=
  place u.settled (s.segment g).dst = false ∧ (s.segment g).closed = true
    ∧ segmentCost s.profiles[u.key.profile.val] (s.segment g) ≠ none

/-- A segment offers one cost. -/
theorem State.Offers.unique {s : State} {u : SearchUnit} {g k n : Nat} (h : s.Offers u g k) (h' : s.Offers u g n) :
    k = n := Option.some.inj (h.1.symm.trans h'.1)

/-- All that relaxing one segment can do (04 R62). -/
theorem State.relaxOne_cases (s : State) (w : BitVec 12) (u : SearchUnit) (g : Nat) :
    ((∀ k, ¬ s.Offers u g k) ∧ ¬ s.MeetsClosed u g ∧ s.relaxOne w u g = u)
      ∨ ((∀ k, ¬ s.Offers u g k) ∧ s.MeetsClosed u g ∧ s.relaxOne w u g = { u with detour := true })
      ∨ ∃ k, s.Offers u g k ∧ ¬ s.MeetsClosed u g
        ∧ s.relaxOne w u g = u.offer g (s.segment g).dst (place u.cost w + k) := by
  unfold State.Offers State.MeetsClosed State.relaxOne
  cases hk : segmentCost s.profiles[u.key.profile.val] (s.segment g) with
  | none => simp
  | some k =>
    cases hs : place u.settled (s.segment g).dst with
    | true => simp
    | false => cases hc : (s.segment g).closed <;> simp

/-- What relaxing the segments `run` of the settled waypoint `w` has made of a unit `u` (04 R61 to R63). -/
structure Relaxed (s : State) (w : BitVec 12) (u : SearchUnit) (run : List Nat) (v : SearchUnit) : Prop where
  frame : v = { u with cost := v.cost, pred := v.pred, frontier := v.frontier, detour := v.detour }
  cost_le : ∀ x, place v.cost x ≤ place u.cost x
  pred_eq : ∀ x, place v.cost x = place u.cost x → place v.pred x = place u.pred x
  offered : ∀ g ∈ run, ∀ k, s.Offers u g k → place u.cost w + k ≤ Config.maxPathCost →
    place v.cost (s.segment g).dst ≤ place u.cost w + k
  lowered : ∀ x, place v.cost x ≠ place u.cost x → ∃ g ∈ run, (s.segment g).dst = x ∧ place v.pred x = some g
    ∧ ∃ k, s.Offers u g k ∧ place v.cost x = place u.cost w + k ∧ place v.cost x ≤ Config.maxPathCost
      ∧ ∀ j ∈ run, j < g → (s.segment j).dst = x → ∀ n, s.Offers u j n → place v.cost x < place u.cost w + n
  frontier : ∀ x, x ∈ v.frontier.map (·.2) ↔ x ∈ u.frontier.map (·.2) ∨ place v.cost x ≠ place u.cost x
  detour : v.detour = true ↔ u.detour = true ∨ ∃ g ∈ run, s.MeetsClosed u g

namespace Relaxed

variable {s : State} {w : BitVec 12} {u v : SearchUnit} {run : List Nat} {g : Nat}

/-- Before the first segment the unit stands as it was. -/
theorem nil (s : State) (w : BitVec 12) (u : SearchUnit) : Relaxed s w u [] u where
  frame := rfl
  cost_le _ := le_rfl
  pred_eq _ _ := rfl
  offered := by simp
  lowered := by simp
  frontier := by simp
  detour := by simp

/-- Relaxing leaves the key. -/
theorem key (h : Relaxed s w u run v) : v.key = u.key := by rw [h.frame]

/-- Relaxing settles no waypoint. -/
theorem settled (h : Relaxed s w u run v) : v.settled = u.settled := by rw [h.frame]

/-- Which segments offer a path reads nothing that relaxing changes. -/
theorem offers_iff (h : Relaxed s w u run v) (k : Nat) : s.Offers v g k ↔ s.Offers u g k := by
  simp only [State.Offers, h.key, h.settled]

/-- Which segments are met closed reads nothing that relaxing changes. -/
theorem meetsClosed_iff (h : Relaxed s w u run v) : s.MeetsClosed v g ↔ s.MeetsClosed u g := by
  simp only [State.MeetsClosed, h.key, h.settled]

/-- A settled waypoint keeps its cost. -/
theorem cost_settled (h : Relaxed s w u run v) {x : BitVec 12} (hx : place u.settled x = true) :
    place v.cost x = place u.cost x := by
  by_contra hne
  obtain ⟨g, -, rfl, -, k, ⟨-, hopen, -⟩, -⟩ := h.lowered x hne
  simp [hx] at hopen

/-- A segment that offers nothing lower leaves all but DETOUR, which records whether it was met closed (04 R62). -/
theorem pass (h : Relaxed s w u run v) (hlast : ∀ j ∈ run, j < g)
    (ho : ∀ k, s.Offers u g k → place u.cost w + k ≤ Config.maxPathCost →
      place v.cost (s.segment g).dst ≤ place u.cost w + k)
    {d : Bool} (hd : d = true ↔ v.detour = true ∨ s.MeetsClosed u g) :
    Relaxed s w u (run ++ [g]) { v with detour := d } where
  frame := by rw [h.frame]
  cost_le := h.cost_le
  pred_eq := h.pred_eq
  offered := by
    intro j hj
    obtain hj | hj := List.mem_append.mp hj
    · exact h.offered j hj
    · exact List.mem_singleton.mp hj ▸ ho
  lowered := by
    intro x hx
    obtain ⟨j, hj, hdst, hpred, k, hoff, hcost, hmax, hmin⟩ := h.lowered x hx
    refine ⟨j, List.mem_append_left _ hj, hdst, hpred, k, hoff, hcost, hmax, fun i hi hlt => ?_⟩
    obtain hi | hi := List.mem_append.mp hi
    · exact hmin i hi hlt
    · have := hlast j hj
      have := List.mem_singleton.mp hi
      omega
  frontier := h.frontier
  detour := by
    rw [hd, h.detour, or_assoc]
    simp [List.mem_append, or_and_right, exists_or]

/-- A segment that offers a lower cost within the greatest path cost gives its to waypoint that cost, itself as the
predecessor, and a place in the frontier (04 R63). -/
theorem lower (h : Relaxed s w u run v) (hlast : ∀ j ∈ run, j < g) (hm : ¬ s.MeetsClosed u g) {k : Nat}
    (ho : s.Offers u g k) (hmax : place u.cost w + k ≤ Config.maxPathCost)
    (hlow : place u.cost w + k < place v.cost (s.segment g).dst) :
    Relaxed s w u (run ++ [g])
      { v with
        cost := setPlace v.cost (s.segment g).dst (place u.cost w + k)
        pred := setPlace v.pred (s.segment g).dst (some g)
        frontier := frontierPlace (place u.cost w + k) (s.segment g).dst v.frontier } := by
  have hchanged : place u.cost w + k ≠ place u.cost (s.segment g).dst := by
    have := h.cost_le (s.segment g).dst
    omega
  refine
    { frame := by rw [h.frame], cost_le := fun x => ?_, pred_eq := fun x hx => ?_, offered := fun j hj n hn hle => ?_
      lowered := fun x hx => ?_, frontier := fun x => ?_, detour := ?_ }
  · rw [place_setPlace]
    split
    · subst x
      exact hlow.le.trans (h.cost_le _)
    · exact h.cost_le x
  · rw [place_setPlace] at hx ⊢
    split
    · subst x
      exact absurd (by simpa using hx) hchanged
    · rename_i hne
      exact h.pred_eq x (by simpa [hne] using hx)
  · have hnew : place u.cost w + k ≤ place u.cost w + n ∨ j ∈ run := by
      obtain hj | hj := List.mem_append.mp hj
      · exact .inr hj
      · obtain rfl := List.mem_singleton.mp hj
        exact .inl (Nat.le_of_eq (by rw [ho.unique hn]))
    rw [place_setPlace]
    split
    · rename_i hdst
      exact hnew.elim id fun hj => hlow.le.trans (hdst ▸ h.offered j hj n hn hle)
    · rename_i hdst
      obtain hj | hj := List.mem_append.mp hj
      · exact h.offered j hj n hn hle
      · exact absurd (by rw [List.mem_singleton.mp hj]) hdst
  · by_cases hdst : x = (s.segment g).dst
    · subst x
      refine ⟨g, by simp, rfl, by simp, k, ho, by simp, by simpa using hmax, fun j hj hlt hjx n hn => ?_⟩
      have hj : j ∈ run := by
        obtain hj | hj := List.mem_append.mp hj
        · exact hj
        · exact absurd (List.mem_singleton.mp hj) hlt.ne
      simp only [place_setPlace, if_true]
      by_cases hle : place u.cost w + n ≤ Config.maxPathCost
      · exact hlow.trans_le (hjx ▸ h.offered j hj n hn hle)
      · omega
    · simp only [place_setPlace, if_neg hdst] at hx ⊢
      obtain ⟨j, hj, hjx, hpred, m, hoff, hcost, hle, hmin⟩ := h.lowered x hx
      refine ⟨j, List.mem_append_left _ hj, hjx, hpred, m, hoff, hcost, hle, fun i hi hlt => ?_⟩
      obtain hi | hi := List.mem_append.mp hi
      · exact hmin i hi hlt
      · have := hlast j hj
        have := List.mem_singleton.mp hi
        omega
  · rw [mem_frontierPlace, h.frontier, place_setPlace]
    split
    · subst x
      simp [hchanged]
    · simp [*]
  · rw [h.detour]
    simp [List.mem_append, or_and_right, exists_or, hm]

/-- One more segment relaxed. -/
theorem relaxOne (h : Relaxed s w u run v) (hw : place u.settled w = true) (hlast : ∀ j ∈ run, j < g) :
    Relaxed s w u (run ++ [g]) (s.relaxOne w v g) := by
  obtain ⟨ho, hm, heq⟩ | ⟨ho, hm, heq⟩ | ⟨k, ho, hm, heq⟩ := s.relaxOne_cases w v g <;>
    rw [h.meetsClosed_iff] at hm <;> simp only [h.offers_iff] at ho <;> rw [heq]
  · exact h.pass hlast (fun k hk => absurd hk (ho k)) (by simp [hm])
  · exact h.pass hlast (fun k hk => absurd hk (ho k)) (by simp [hm])
  · rw [h.cost_settled hw, SearchUnit.offer]
    split
    · rename_i hc
      exact h.lower hlast hm ho hc.1 hc.2
    · rename_i hc
      refine h.pass hlast (fun n hn hle => ?_) (by simp [hm])
      have := ho.unique hn
      omega

/-- A whole run relaxed, in increasing index order. -/
theorem foldl (hw : place u.settled w = true) (rest : List Nat) (h : Relaxed s w u run v)
    (hord : (run ++ rest).Pairwise (· < ·)) : Relaxed s w u (run ++ rest) (rest.foldl (s.relaxOne w) v) := by
  induction rest generalizing run v with
  | nil => simpa using h
  | cons g rest ih =>
    have hlast : ∀ j ∈ run, j < g := fun j hj => (List.pairwise_append.mp hord).2.2 j hj g (by simp)
    have happ : run ++ g :: rest = (run ++ [g]) ++ rest := by simp
    rw [happ] at hord ⊢
    exact ih (h.relaxOne hw hlast) hord

end Relaxed

/-- An outgoing run is in increasing index order (01 R8). -/
theorem State.outgoing_pairwise (s : State) (w : BitVec 12) : (s.outgoing w).Pairwise (· < ·) := by
  unfold State.outgoing
  split
  · exact .nil
  · exact List.pairwise_lt_range' _

/-- What a settle step whose head is no target makes of a unit (04 R61). -/
theorem State.settle_relaxed {s : State} {u : SearchUnit} {c : Nat} {w : BitVec 12} {rest : List (Nat × BitVec 12)}
    (hf : u.frontier = (c, w) :: rest) (hw : w ∉ u.targets) :
    Relaxed s w (u.settleHead w rest) (s.outgoing w) (s.settle u) := by
  have hsettle : s.settle u = s.relax w (u.settleHead w rest) := by
    simp only [State.settle, hf, List.contains_eq_mem, hw, decide_false, Bool.false_eq_true, if_false]
  rw [hsettle]
  exact Relaxed.foldl (by simp [SearchUnit.settleHead]) _ (.nil s w _) (s.outgoing_pairwise w)

/-- A settle step in SERVICE that ends no search changes its unit alone. -/
theorem exec_settleStep_searching {s : State} {u : Fin 2} (hlow : s.resetLow = false) (hm : s.mod.mode = .service)
    (hfr : s.mod.freezing = none) (hq : s.EnginesQuiet) (hrun : s.search.units[u.val].state = .running)
    (howns : ∃ e ∈ s.search.queue, e.unit = some u) (hres : (s.settle s.search.units[u.val]).result = none) :
    exec (.settleStep u) s = .next { s with search := { s.search with
      units := s.search.units.set u.val (s.settle s.search.units[u.val]) } } := by
  have hown : s.ownsEntry u = true := by
    simpa [State.ownsEntry] using howns
  have hend : s.endSettle u (s.settle s.search.units[u.val]) = s.onUnit u fun _ => s.settle s.search.units[u.val] := by
    simp [State.endSettle, hown, hres, hm]
  have hquiet : (s.onUnit u fun _ => s.settle s.search.units[u.val]).EnginesQuiet := hq
  have hfreeze : (s.onUnit u fun _ => s.settle s.search.units[u.val]).mod.freezing = none := hfr
  have hstep : exec (.settleStep u) s =
      .next (s.endSettle u (s.settle s.search.units[u.val])).serve.answerFreezing := by
    rw [exec, execSettleStep, whileRunning_high hlow, if_pos hrun]
  rw [hstep, hend, State.serve_quiet hquiet, State.answerFreezing, hfreeze]
  rfl

/-- Settles O38: the unit after the step is read off what relaxing the outgoing run has made of it. -/
theorem settleStep : Obligations.SettleStep := by
  unfold Obligations.SettleStep
  rintro s u old c w rest hlow hm hfr hq rfl hrun howns hres hf hw
  have h := State.settle_relaxed (s := s) hf hw
  have hresult : (s.settle s.search.units[u.val]).result = none := by rw [h.frame]; exact hres
  refine ⟨_, exec_settleStep_searching hlow hm hfr hq hrun howns hresult, h.frame, h.cost_le, h.pred_eq, ?_, ?_,
    h.frontier, ?_⟩
  · intro g hg k hk hopen hclosed hle
    exact h.offered g hg k ⟨hk, h.settled ▸ hopen, hclosed⟩ hle
  · intro x hx
    obtain ⟨g, hg, rfl, hpred, k, ⟨hk, hopen, hclosed⟩, hcost, hmax, hmin⟩ := h.lowered x hx
    refine ⟨g, hg, rfl, hclosed, h.settled ▸ hopen, hpred, k, hk, hcost, hmax, fun j hj hlt hdst hjc n hn => ?_⟩
    exact hmin j hj hlt hdst n ⟨hn, hdst ▸ hopen, hjc⟩
  · rw [h.detour]
    simp only [State.MeetsClosed, h.settled]
    rfl

end Sys2Proof.Machine
end

section
/-! PROOFS. The requests that are refused for an argument, the load cursor or the mode (02 R38, 09 R147 to R155, 10 R164). -/

namespace Sys2Proof.Machine

section
variable {s : State} {tag : Byte} {p : List Byte} {rest : List InFrame}

/-! ## RESET (02 R38) -/

/-- A RESET of a kind above 1 is refused by either row (02 R38, log entry 19). -/
theorem exec_reset_refused {k : Byte} (hk : 1 < k.toNat) (h : s.headIs 0x04 tag [k] rest) (c : Instr)
    (hc : c = .resetFull ∨ c = .resetSessions) : exec c s = .next (s.answered rest 0x84 tag [5]) := by
  have hf : field [k] 0 1 = k.toNat := field_cons_zero k []
  have hm : modeGate s.mod.mode 0x04 = true := modeGate_open _ (by decide)
  have hne : ∀ b : Byte, b.toNat ≤ 1 → [k] ≠ [b] := by
    rintro b hb heq
    obtain rfl := List.singleton_inj.mp heq
    omega
  obtain rfl | rfl := hc
  · have hrow : resetFullRow [k] = true := decide_eq_true (hne 0 (by decide))
    refine (whileRunning_dispatch _ h hrow rfl hm).trans ?_
    rw [hf, if_neg (by omega)]
    rfl
  · have hrow : resetSessionsRow [k] = true := decide_eq_true (hne 1 (by decide))
    refine (whileRunning_dispatch _ h hrow rfl hm).trans ?_
    rw [hf, if_neg (by omega)]
    rfl

/-! ## LOAD_WRITE and LOAD_READ (01 R14, R18) -/

/-- A LOAD_WRITE that is refused carries its result, no record and the cursor's index (01 R14, log entry 18). -/
theorem exec_loadWrite_refused (h : s.headIs 0x06 tag p rest) (hlen : p.length ≤ 1024) {r : ResultCode}
    (hr : (s.taken rest).loadWrite p = { state := s.taken rest, result := r, written := 0 }) :
    exec .loadWrite s = .next (s.answered rest 0x86 tag
      ([r.code, 0, 0] ++ le 2 (match s.map.cursor with | none => 0 | some c => c.index))) := by
  rw [exec_loadWrite h hlen, hr, WriteOutcome.reply, le_two_zero]
  rfl

/-- Outside CHECKING a LOAD_WRITE without a cursor or not of whole records is refused (01 R14). -/
theorem State.loadWrite_badArgument (hm : s.mod.mode ≠ .checking)
    (hbad : ∀ c, s.map.cursor = some c → p.length = 0 ∨ p.length % c.table.recordSize ≠ 0) :
    s.loadWrite p = { state := s, result := .badArgument, written := 0 } := by
  cases hc : s.map.cursor with
  | none => simp only [State.loadWrite, if_neg hm, hc]
  | some c => simp only [State.loadWrite, if_neg hm, hc, if_pos (hbad c hc)]

/-- A LOAD_READ in CHECKING or without a cursor is refused (01 R18). -/
theorem exec_loadRead_refused {w : Nat} (h : s.headIs 0x07 tag (le 2 w) rest) {r : Byte}
    (hr : (s.mod.mode = .checking ∧ r = 3) ∨ (s.mod.mode ≠ .checking ∧ s.map.cursor = none ∧ r = 5)) :
    exec .loadRead s = .next (s.answered rest 0x87 tag [r]) := by
  rw [exec_loadRead h rfl]
  obtain ⟨hm, rfl⟩ | ⟨hm, hc, rfl⟩ := hr
  · simp only [State.loadRead, State.taken_fields, if_pos hm]
    rfl
  · simp only [State.loadRead, State.taken_fields, if_neg hm, hc]
    rfl

/-! ## SCREEN_SET (09 R147) -/

/-- In SERVICE and FROZEN the mode gate stops MAP_COMMIT alone (02 R22). -/
theorem modeGate_serving {m : Mode} {cls : Byte} (h : m.serving = true) (hc : cls.toNat ≠ 3) :
    modeGate m cls = true := by
  unfold modeGate
  split <;> simp_all [Mode.serving]

/-- The place of a screen or panel number. -/
theorem fourOf_eq_some (i : Fin 4) : fourOf i.val = some i := dif_pos i.isLt

/-- There is no screen or panel above 3. -/
theorem fourOf_eq_none {n : Nat} (h : 3 < n) : fourOf n = none := dif_neg (by omega)

/-- A number names a place, or is above 3. -/
theorem fourOf_cases (n : Nat) : (3 < n ∧ fourOf n = none) ∨ ∃ i : Fin 4, n = i.val ∧ fourOf n = some i := by
  by_cases h : n < 4
  · exact .inr ⟨⟨n, h⟩, rfl, dif_pos h⟩
  · exact .inl ⟨by omega, dif_neg h⟩

/-- The fields of a SCREEN_SET (11 R191). -/
theorem screenSet_fields (b e heading profile : Byte) {origin w h : Nat} (n : Nat) (ho : origin < 65536)
    (hw : w < 65536) (hh : h < 65536) :
    let p := [b, e] ++ le 2 origin ++ [heading, profile] ++ le 2 w ++ le 2 h ++ le 2 n
    field p 0 1 = b.toNat ∧ field p 1 1 = e.toNat ∧ field p 2 2 = origin ∧ field p 5 1 = profile.toNat
      ∧ field p 6 2 = w ∧ field p 8 2 = h :=
  ⟨field_cons_zero _ _, field_cons_zero _ _, field_le_zero ([heading, profile] ++ le 2 w ++ le 2 h ++ le 2 n) ho,
    field_cons_zero _ _, field_le_zero (le 2 h ++ le 2 n) hw, field_le_zero (le 2 n) hh⟩

/-- A SCREEN_SET with an argument out of range is refused before the outstanding list is looked at (09 R147). -/
theorem State.screenSetTest_badArgument {i : Fin 4}
    (h : 1 < field p 1 1 ∨ 4096 ≤ field p 2 2 ∨ 8 ≤ field p 5 1
      ∨ ¬ (1 ≤ field p 6 2 ∧ field p 6 2 ≤ 4096 ∧ 1 ≤ field p 8 2 ∧ field p 8 2 ≤ 4096)
      ∨ (s.mod.mode.serving = true ∧ field p 1 1 = 1 ∧ s.waypointCount ≤ field p 2 2)) :
    s.screenSetTest i p = some .badArgument := by
  unfold State.screenSetTest
  simp only [ite_eq_left_iff]
  intro h1 h2 h3 h4 h5
  exact absurd h (by tauto)

/-- A SCREEN_SET for no screen, or with an argument out of range, is refused (09 R147). -/
theorem exec_screenSet_refused (h : s.headIs 0x0A tag p rest) (hlen : p.length = 12) (hm : s.mod.mode ≠ .checking)
    (hbad : 3 < field p 0 1 ∨ 1 < field p 1 1 ∨ 4096 ≤ field p 2 2 ∨ 8 ≤ field p 5 1
      ∨ ¬ (1 ≤ field p 6 2 ∧ field p 6 2 ≤ 4096 ∧ 1 ≤ field p 8 2 ∧ field p 8 2 ≤ 4096)
      ∨ (s.mod.mode.serving = true ∧ field p 1 1 = 1 ∧ s.waypointCount ≤ field p 2 2)) :
    exec .screenSet s = .next (s.answered rest 0x8A tag [5]) := by
  have hgate : modeGate s.mod.mode 0x0A = true := by
    cases hmode : s.mod.mode with
    | checking => exact absurd hmode hm
    | _ => rfl
  refine (whileRunning_dispatch _ h rfl (by rw [hlen]; rfl) hgate).trans ?_
  obtain ⟨-, hi⟩ | ⟨i, hn, hi⟩ := fourOf_cases (field p 0 1)
  · rw [hi]
    rfl
  · have htest : (s.taken rest).screenSetTest i p = some .badArgument :=
      State.screenSetTest_badArgument (hbad.resolve_left (by omega))
    rw [hi]
    simp only [htest]
    rfl

/-! ## Screen-bound requests (09 R152 to R155) -/

/-- The screen test passes exactly the enabled screens (09 R152). -/
theorem State.screenTest_enabled {i : Fin 4} (h : s.screens[i.val].enabled = true) :
    s.screenTest i.val = some i := by
  simp only [State.screenTest, fourOf_eq_some, h, if_true]

/-- No screen above 3 and no disabled one passes the screen test (09 R152). -/
theorem State.screenTest_none {n : Nat} (h : 3 < n ∨ ∃ i : Fin 4, n = i.val ∧ s.screens[i.val].enabled = false) :
    s.screenTest n = none := by
  obtain h | ⟨i, rfl, hi⟩ := h
  · simp only [State.screenTest, fourOf_eq_none h]
  · simp only [State.screenTest, fourOf_eq_some, hi, Bool.false_eq_true, if_false]

/-- A screen-bound request whose screen fails the test is refused (09 R152). -/
theorem whileRunning_screenBound_refused {cls : Byte} (body : Byte → List Byte → State → Fin 4 → State)
    (h : s.headIs cls tag p rest) (hs : sizeAllowed cls p.length = true) (hm : modeGate s.mod.mode cls = true)
    (htest : s.screenTest (field p 0 1) = none) :
    whileRunning s (fun s => s.dispatch cls anyPayload fun tag p s => s.screenBound cls tag p (body tag p)) =
      .next (s.answered rest (cls + 0x80) tag [5]) := by
  have htest' : (s.taken rest).screenTest (field p 0 1) = none := htest
  refine (whileRunning_dispatch _ h rfl hs hm).trans ?_
  simp only [State.screenBound, htest']
  rfl

/-- A screen-bound request of an enabled screen restarts its session and goes on (09 R148, R152). -/
theorem State.screenBound_enabled {cls : Byte} (body : State → Fin 4 → State) {i : Fin 4}
    (hf : field p 0 1 = i.val) (h : s.screens[i.val].enabled = true) :
    s.screenBound cls tag p body = body (s.touchSession i) i := by
  simp only [State.screenBound, hf, s.screenTest_enabled h]

/-- An enabled screen that is touched is ACTIVE with its idle timer at 0 (09 R148). -/
theorem State.touchSession_enabled {i : Fin 4} (h : s.screens[i.val].enabled = true) :
    s.touchSession i =
      { s with screens := s.screens.set i.val { s.screens[i.val] with active := true, idle := some 0 } } := by
  simp only [State.touchSession, State.onScreen, Screen.touch, h, if_true]

/-- The kinds of destination are those of the codes 0 and 1 (04 R54). -/
theorem destKindOf_cases (n : Nat) :
    (1 < n ∧ destKindOf n = none) ∨ (n = 0 ∧ destKindOf n = some .listing)
      ∨ (n = 1 ∧ destKindOf n = some .waypoint) := by
  match n with
  | 0 => simp [destKindOf]
  | 1 => simp [destKindOf]
  | n + 2 => simp [destKindOf]

/-- The fields of a ROUTE_ASK (11 R191). -/
theorem routeAsk_fields (i : Fin 4) (kind options profile : Byte) {number origin : Nat} (hn : number < 65536)
    (ho : origin < 65536) :
    let p := [BitVec.ofNat 8 i.val, kind] ++ le 2 number ++ [options, profile] ++ le 2 origin
    field p 0 1 = i.val ∧ field p 1 1 = kind.toNat ∧ field p 2 2 = number ∧ byteAt p 4 = options
      ∧ field p 5 1 = profile.toNat ∧ field p 6 2 = origin := by
  have hi : (BitVec.ofNat 8 i.val).toNat = i.val := Nat.mod_eq_of_lt (by omega)
  exact ⟨(field_cons_zero _ _).trans hi, field_cons_zero _ _,
    field_le_zero ([options, profile] ++ le 2 origin) hn, rfl, field_cons_zero _ _, field_le_zero [] ho⟩

/-- A ROUTE_ASK with an argument out of range is refused before the room in the list is looked at (09 R153). -/
theorem State.askRoute_badArgument {i : Fin 4}
    (h : 1 < field p 1 1 ∨ (field p 1 1 = 0 ∧ s.listingCount ≤ field p 2 2)
      ∨ (field p 1 1 = 1 ∧ s.waypointCount ≤ field p 2 2)
      ∨ ((byteAt p 4).getLsbD 0 = true ∧ 8 ≤ field p 5 1)
      ∨ ((byteAt p 4).getLsbD 1 = true ∧ s.waypointCount ≤ field p 6 2)) :
    s.askRoute i tag p = s.refuse 0x0B tag .badArgument := by
  unfold State.askRoute
  obtain ⟨-, hd⟩ | ⟨hk, hd⟩ | ⟨hk, hd⟩ := destKindOf_cases (field p 1 1)
  · rw [hd]
  · simp only [hd, State.destinationExists, ite_eq_left_iff, decide_eq_false_iff_not]
    grind
  · simp only [hd, State.destinationExists, ite_eq_left_iff, decide_eq_false_iff_not]
    grind

/-- A ROUTE_ASK of an enabled screen in service with an argument out of range restarts the session and is refused
(09 R148, R153). -/
theorem exec_routeAsk_refused {i : Fin 4} (h : s.headIs 0x0B tag p rest) (hlen : p.length = 8)
    (hm : s.mod.mode.serving = true) (hi : field p 0 1 = i.val) (he : s.screens[i.val].enabled = true)
    (hbad : 1 < field p 1 1 ∨ (field p 1 1 = 0 ∧ s.listingCount ≤ field p 2 2)
      ∨ (field p 1 1 = 1 ∧ s.waypointCount ≤ field p 2 2)
      ∨ ((byteAt p 4).getLsbD 0 = true ∧ 8 ≤ field p 5 1)
      ∨ ((byteAt p 4).getLsbD 1 = true ∧ s.waypointCount ≤ field p 6 2)) :
    exec .routeAsk s = .next { s.answered rest 0x8B tag [5] with
      screens := s.screens.set i.val { s.screens[i.val] with active := true, idle := some 0 } } := by
  refine (whileRunning_dispatch _ h rfl (by rw [hlen]; rfl) (modeGate_serving hm (by decide))).trans ?_
  rw [State.screenBound_enabled (s := s.taken rest) _ hi he,
    State.askRoute_badArgument (s := (s.taken rest).touchSession i) hbad,
    State.touchSession_enabled (s := s.taken rest) he]
  rfl

/-- A screen-bound request that names no enabled screen is refused (09 R152). -/
theorem exec_screenBound_refused {c : Instr} {cls : Byte} {n : Nat} {b : Byte} (hrow : (c, cls, n) ∈
      ([(.directoryAsk, 0x0C, 38), (.fence, 0x0D, 5), (.cancel, 0x0E, 1)] : List (Instr × Byte × Nat)))
    (h : s.headIs cls tag (b :: p) rest) (hlen : p.length + 1 = n)
    (hm : c = .directoryAsk → s.mod.mode.serving = true)
    (hb : 3 < b.toNat ∨ ∃ i : Fin 4, b.toNat = i.val ∧ s.screens[i.val].enabled = false) :
    exec c s = .next (s.answered rest (cls + 0x80) tag [5]) := by
  have htest : s.screenTest (field (b :: p) 0 1) = none := by
    rw [field_cons_zero]
    exact State.screenTest_none hb
  have hsize : (b :: p).length = n := by rw [List.length_cons, hlen]
  simp only [List.mem_cons, Prod.mk.injEq, List.not_mem_nil, or_false] at hrow
  obtain ⟨rfl, rfl, rfl⟩ | ⟨rfl, rfl, rfl⟩ | ⟨rfl, rfl, rfl⟩ := hrow
  · have hgate : modeGate s.mod.mode 0x0C = true := modeGate_serving (hm rfl) (by decide)
    exact whileRunning_screenBound_refused _ h (by rw [hsize]; rfl) hgate htest
  · exact whileRunning_screenBound_refused _ h (by rw [hsize]; rfl) (modeGate_open _ (by decide)) htest
  · exact whileRunning_screenBound_refused _ h (by rw [hsize]; rfl) (modeGate_open _ (by decide)) htest

/-! ## PANEL_SET (10 R164) -/

/-- A PANEL_SET for no panel, or with a byte out of range, is refused (10 R164). -/
theorem exec_panelSet_refused (h : s.headIs 0x10 tag p rest) (hlen : p.length = 9)
    (hbad : 3 < field p 0 1 ∨ 1 < field p 1 1 ∨ 1 < field p 2 1) :
    exec .panelSet s = .next (s.answered rest 0x90 tag [5]) := by
  refine (whileRunning_dispatch _ h rfl (by rw [hlen]; rfl) (modeGate_open _ (by decide))).trans ?_
  obtain ⟨-, hp⟩ | ⟨q, hn, hp⟩ := fourOf_cases (field p 0 1)
  · rw [hp]
    rfl
  · rw [hp]
    simp only [if_pos (hbad.resolve_left (by omega))]
    rfl

end

/-- Settles O52: each clause is one of the refusals above, at the fields of its payload. -/
theorem argumentsRefused : Obligations.ArgumentsRefused := by
  unfold Obligations.ArgumentsRefused
  intro s tag rest
  refine ⟨?_, ?_, ?_, ?_, ?_, ?_, ?_⟩
  · intro k hk h c hc
    exact exec_reset_refused hk h c (by simpa using hc)
  · rintro p r h hlen (⟨hm, rfl⟩ | ⟨hm, rfl, hbad⟩)
    · exact exec_loadWrite_refused h hlen (r := .wrongMode) (if_pos hm)
    · exact exec_loadWrite_refused h hlen (State.loadWrite_badArgument (s := s.taken rest) hm hbad)
  · intro w r h hr
    exact exec_loadRead_refused h hr
  · intro b e heading profile origin w h n hq horigin hw hh hn hm hbad
    obtain ⟨f0, f1, f2, f5, f6, f8⟩ := screenSet_fields b e heading profile n horigin hw hh
    refine exec_screenSet_refused hq (by simp) hm ?_
    rw [f0, f1, f2, f5, f6, f8]
    grind
  · intro i kind options profile number origin h hnumber horigin hm he hbad
    obtain ⟨f0, f1, f2, f4, f5, f6⟩ := routeAsk_fields i kind options profile hnumber horigin
    refine exec_routeAsk_refused h (by simp) hm f0 he ?_
    rw [f1, f2, f4, f5, f6]
    grind
  · rintro ⟨c, cls, n⟩ hrow b p h hlen hm hb
    exact exec_screenBound_refused hrow h hlen hm hb
  · intro b e src p h hlen hbad
    refine exec_panelSet_refused h (by simp [hlen]) ?_
    have h0 : field ([b, e, src] ++ p) 0 1 = b.toNat := field_cons_zero _ _
    have h1 : field ([b, e, src] ++ p) 1 1 = e.toNat := field_cons_zero _ _
    have h2 : field ([b, e, src] ++ p) 2 1 = src.toNat := field_cons_zero _ _
    rwa [h0, h1, h2]
end Sys2Proof.Machine
end

section
/-! PROOFS. The counts of the map store, kept by every step (01 R5, R6). -/

namespace Sys2Proof.Machine

/-! ## The tables and their counts (01 R5, R6) -/

/-- Two states hold the same counted tables and the same closed-segment count. -/
def State.SameTables (t s : State) : Prop :=
  t.map.waypoints = s.map.waypoints ∧ t.map.segments = s.map.segments ∧ t.map.closedCount = s.map.closedCount
    ∧ t.dir.listings = s.dir.listings

section
variable {s t : State}

/-- The law of the counts reads the tables and the closed-segment count alone. -/
theorem State.CountsRight.of_sameTables (h : s.CountsRight) (e : t.SameTables s) : t.CountsRight := by
  obtain ⟨hw, hs, hc, hl⟩ := e
  simpa only [State.CountsRight, State.waypointCount, State.segmentCount, State.listingCount, hw, hs, hc, hl] using h

/-- What the pin gates keeps a law where its operation does. -/
theorem answers_whileRunning {law : State → Prop} {f : State → State} (h : law s) (hf : law (f s)) :
    Answers (whileRunning s f) law := by
  refine ⟨_, whileRunning_eq s f, ?_⟩
  split
  · exact h
  · exact hf

/-- A dispatch keeps a law that does not read the link, where its owner keeps it. -/
theorem State.dispatch_law {law : State → Prop} {cls : Byte} {row : List Byte → Bool}
    {owner : Byte → List Byte → State → State} (hlink : ∀ (u : State) (l : LinkState), law u → law { u with link := l })
    (h : law s) (howner : ∀ tag p u, law u → law (owner tag p u)) : law (s.dispatch cls row owner) := by
  obtain hd | ⟨tag, p, rest, -, -, -, -, ⟨-, hd⟩ | ⟨-, -, hd⟩ | ⟨-, -, hd⟩⟩ := s.dispatch_cases cls row owner <;>
    rw [hd]
  · exact h
  · exact hlink s _ h
  · exact hlink s _ h
  · exact howner tag p _ (hlink s _ h)

/-- A request keeps the law of the counts where its owner keeps it. -/
theorem answers_request (h : s.CountsRight) {cls : Byte} {row : List Byte → Bool}
    {owner : Byte → List Byte → State → State}
    (howner : ∀ tag p u, u.CountsRight → (owner tag p u).CountsRight) :
    Answers (whileRunning s fun s => s.dispatch cls row owner) State.CountsRight :=
  answers_whileRunning h (State.dispatch_law (fun _ _ hu => hu) h howner)

/-- A request keeps the law of the counts where its owner leaves the tables alone. -/
theorem answers_readingRequest (h : s.CountsRight) {cls : Byte} {row : List Byte → Bool}
    {owner : Byte → List Byte → State → State} (howner : ∀ tag p u, (owner tag p u).SameTables u) :
    Answers (whileRunning s fun s => s.dispatch cls row owner) State.CountsRight :=
  answers_request h fun tag p u hu => hu.of_sameTables (howner tag p u)

/-- A screen-bound request leaves the tables where its body does. -/
theorem State.screenBound_sameTables {cls tag : Byte} {p : List Byte} {body : State → Fin 4 → State}
    (hbody : ∀ (u : State) i, (body u i).SameTables u) : (s.screenBound cls tag p body).SameTables s := by
  unfold State.screenBound
  split
  · simp [State.SameTables]
  · simpa [State.SameTables] using hbody (s.touchSession _) _

/-- The end of a map check leaves the tables. -/
theorem State.endCheck_sameTables : s.endCheck.SameTables s := by
  unfold State.endCheck
  split
  · split <;> simp [State.SameTables, State.commitPasses]
  · exact ⟨rfl, rfl, rfl, rfl⟩

/-- A MODE_SET leaves the tables. -/
theorem State.modeSet_sameTables (tag : Byte) (n : Nat) : (s.modeSet tag n).SameTables s := by
  unfold State.modeSet
  split <;> simp [State.SameTables]

/-! ## The commands that write no table -/

/-- An UNKNOWN_CLASS keeps the counts right. -/
theorem execUnknownClass_countsRight (h : s.CountsRight) : Answers (execUnknownClass s) State.CountsRight := by
  unfold execUnknownClass
  refine answers_whileRunning h ?_
  split
  · exact h
  · rename_i f t hd
    have ht : t.SameTables s := by
      simp only [State.dispatchHead] at hd
      split at hd
      · cases hd
      · split at hd
        · cases hd
        · cases hd
          exact ⟨rfl, rfl, rfl, rfl⟩
    split
    · exact h
    · exact h.of_sameTables ht

/-- A panel frame keeps the counts right. -/
theorem execPanelFrameReceived_countsRight (h : s.CountsRight) (p : Fin 4) (samples : List Sample) :
    Answers (execPanelFrameReceived p samples s) State.CountsRight := by
  unfold execPanelFrameReceived
  refine answers_whileRunning h (h.of_sameTables ?_)
  simp only
  split
  · exact ⟨rfl, rfl, rfl, rfl⟩
  · split <;> simp [State.SameTables]

/-- A SCREEN_SET keeps the counts right. -/
theorem execScreenSet_countsRight (h : s.CountsRight) : Answers (execScreenSet s) State.CountsRight := by
  unfold execScreenSet
  refine answers_readingRequest h fun tag p u => ?_
  split
  · simp [State.SameTables]
  · split <;> simp [State.SameTables]

/-- A PANEL_SET keeps the counts right. -/
theorem execPanelSet_countsRight (h : s.CountsRight) : Answers (execPanelSet s) State.CountsRight := by
  unfold execPanelSet
  refine answers_readingRequest h fun tag p u => ?_
  split
  · simp [State.SameTables]
  · split
    · simp [State.SameTables]
    · split <;> simp [State.SameTables]

/-- A PANEL_INJECT keeps the counts right. -/
theorem execPanelInject_countsRight (h : s.CountsRight) : Answers (execPanelInject s) State.CountsRight := by
  unfold execPanelInject
  refine answers_readingRequest h fun tag p u => ?_
  simp only
  split
  · simp [State.SameTables]
  · split
    · simp [State.SameTables]
    · split <;> simp [State.SameTables]

/-- A BASELINE_CAPTURE keeps the counts right. -/
theorem execBaselineCapture_countsRight (h : s.CountsRight) :
    Answers (execBaselineCapture s) State.CountsRight := by
  unfold execBaselineCapture
  refine answers_readingRequest h fun tag p u => ?_
  split
  · simp [State.SameTables]
  · split <;> simp [State.SameTables]

/-! ## The commands that write a table -/

/-- The law of the counts, with the capacities said of the counted tables at once (01 R5, R6). -/
theorem State.countsRight_iff : s.CountsRight ↔
    s.map.closedCount = s.map.segments.countP (·.closed)
      ∧ ∀ t : TableId, t.counted = true → s.tableCount t ≤ t.capacity := by
  refine and_congr_right fun _ => ⟨?_, fun h => ⟨h .waypoints rfl, h .segments rfl, h .listings rfl⟩⟩
  rintro ⟨hw, hg, hl⟩ t ht
  cases t with
  | waypoints => exact hw
  | segments => exact hg
  | listings => exact hl
  | profiles | curve | baseline => cases ht

/-- The closed-segment count is moved by exactly the CLOSED records that a write puts in and takes out (01 R5). -/
theorem closedAfter_writeCounted (l new : List Segment) (i : Nat) :
    closedAfter (l.countP (·.closed)) ((l.drop i).take new.length) new =
      (writeCounted .reset l i new).countP (·.closed) := by
  cases hnew : new.isEmpty with
  | true =>
    obtain rfl : new = [] := List.isEmpty_iff.mp hnew
    simp [closedAfter]
  | false =>
    simp only [closedAfter, writeCounted, hnew, Bool.false_eq_true, if_false, List.countP_append]
    obtain hi | hi := Nat.le_total i l.length
    · have hfront := congrArg (List.countP (·.closed)) (List.take_append_drop i l)
      have hback := congrArg (List.countP (·.closed)) (List.take_append_drop new.length (l.drop i))
      rw [List.countP_append] at hfront hback
      rw [List.drop_drop] at hback
      simp only [Nat.sub_eq_zero_of_le hi, List.replicate_zero, List.append_nil]
      omega
    · have hlen : (l ++ List.replicate (i - l.length) Segment.reset).length = i := by simp; omega
      have hopen : (List.replicate (i - l.length) Segment.reset).countP (·.closed) = 0 := by
        simp [List.countP_replicate, Segment.reset]
      rw [List.take_of_length_le hlen.le, List.drop_eq_nil_of_le hi,
        List.drop_eq_nil_of_le (Nat.le_add_right_of_le hlen.le), List.countP_append, hopen]
      simp

/-- Records written keep the counts right (01 R5, R6, R14). -/
theorem State.CountsRight.writeTable (h : s.CountsRight) (t : TableId) (i : Nat) (rs : List (List Byte))
    (hfit : rs = [] ∨ i + rs.length ≤ t.capacity) : (s.writeTable t i rs).CountsRight := by
  rw [State.countsRight_iff] at h ⊢
  obtain ⟨hclosed, hcap⟩ := h
  constructor
  · by_cases ht : t = .segments
    · subst t
      have hafter := closedAfter_writeCounted s.map.segments (rs.map Segment.ofBytes) i
      rwa [← hclosed] at hafter
    · obtain ⟨hseg, hcount⟩ := s.writeTable_segments i rs ht
      rw [hseg, hcount, hclosed]
  · intro t' ht'
    by_cases ht : t' = t
    · subst t'
      rw [s.writeTable_tableCount i rs ht']
      have := hcap t ht'
      split
      · exact this
      · rename_i hne
        have := hfit.resolve_left fun hnil => hne (by rw [hnil]; rfl)
        omega
    · rw [(s.writeTable_other i rs ht).1]
      exact hcap t' ht'

/-- A clear keeps the counts right (01 R13). -/
theorem State.CountsRight.clearTable (h : s.CountsRight) (t : TableId) : (s.clearTable t).CountsRight := by
  obtain ⟨hclosed, hw, hg, hl⟩ := h
  cases t with
  | waypoints => exact ⟨hclosed, Nat.zero_le _, hg, hl⟩
  | segments => exact ⟨rfl, hw, Nat.zero_le _, hl⟩
  | listings => exact ⟨hclosed, hw, hg, Nat.zero_le _⟩
  | profiles | curve | baseline => exact ⟨hclosed, hw, hg, hl⟩

/-- A LOAD_OPEN keeps the counts right. -/
theorem State.CountsRight.loadOpen (h : s.CountsRight) (p : List Byte) : (s.loadOpen p).1.CountsRight := by
  unfold State.loadOpen
  split
  · exact h
  · split
    · exact h
    · split
      · exact h
      · split
        · split
          · exact h.clearTable _
          · exact h
        · exact h

/-- A LOAD_WRITE keeps the counts right: it writes no record at or beyond the capacity (01 R14, R15). -/
theorem State.CountsRight.loadWrite (h : s.CountsRight) (p : List Byte) : (s.loadWrite p).state.CountsRight := by
  unfold State.loadWrite
  split
  · exact h
  · split
    · exact h
    · rename_i c _
      simp only
      split
      · exact h
      · split
        · exact h
        · refine h.writeTable c.table c.index _ ?_
          rw [← List.length_eq_zero_iff, pieces_length]
          generalize p.length / c.table.recordSize = n
          omega

/-- A status written over the other one moves the closed-segment count by one (07 R118, R119). -/
theorem State.CountsRight.setStatus (h : s.CountsRight) {g : Nat} {b : Bool} (hg : g < s.segmentCount)
    (hb : (s.segment g).closed ≠ b) : ({ s with map := s.map.setStatus g b } : State).CountsRight := by
  obtain ⟨hclosed, hw, hcap, hl⟩ := h
  have hg : g < s.map.segments.length := hg
  have hold : (s.map.segments[g]).closed = !b := by
    rw [State.segment, List.getD_eq_getElem _ _ hg] at hb
    exact Bool.eq_not.mpr hb
  have hcount : (s.map.setStatus g b).closedCount = (s.map.setStatus g b).segments.countP (·.closed) := by
    have hsplit := congrArg (List.countP (·.closed)) (List.take_append_drop g s.map.segments)
    rw [List.drop_eq_getElem_cons hg, List.countP_append, List.countP_cons, hold] at hsplit
    simp only [MapState.setStatus, hclosed, List.modify_eq_take_cons_drop hg, List.countP_append, List.countP_cons]
    cases b <;> simp at hsplit ⊢ <;> omega
  refine ⟨hcount, hw, ?_, hl⟩
  simpa [State.segmentCount, MapState.setStatus] using hcap

/-- A reopening in service writes the status and leaves the rest of the tables (07 R119 to R121). -/
theorem State.reopenSegment_sameTables (g : Nat) :
    (s.reopenSegment g).SameTables { s with map := s.map.setStatus g false } := by
  simp only [State.reopenSegment]
  split <;> exact ⟨rfl, rfl, rfl, rfl⟩

/-- A SEGMENT_SET keeps the counts right (07 R117). -/
theorem State.CountsRight.segmentSet (h : s.CountsRight) (g n : Nat) : (s.segmentSet g n).1.CountsRight := by
  unfold State.segmentSet
  split
  · exact h
  · split
    · exact h
    · split
      · exact h
      · rename_i hn hg
        split
        · exact h
        · rename_i hne
          have hset := h.setStatus (Nat.not_le.mp hg) hne
          split
          · exact hset
          · split
            · subst n
              exact hset
            · rename_i hn1
              rw [beq_eq_false_iff_ne.mpr hn1] at hset
              exact hset.of_sameTables (State.reopenSegment_sameTables g)

/-- A LISTING_SET keeps the counts right (07 R124). -/
theorem State.CountsRight.listingSet (h : s.CountsRight) (g n : Nat) : (s.listingSet g n).1.CountsRight := by
  unfold State.listingSet
  split
  · exact h
  · split
    · exact h
    · split
      · exact h
      · split
        · exact h
        · simpa [State.CountsRight, State.waypointCount, State.segmentCount, State.listingCount] using h

/-- A part after reset holds empty tables (02 R37). -/
theorem State.started_countsRight (rate : BitVec 2) (cause : Byte) (pending : List Instr) :
    ({ State.started rate cause with pending := pending } : State).CountsRight :=
  ⟨rfl, Nat.zero_le _, Nat.zero_le _, Nat.zero_le _⟩

/-- The end of a transmission keeps the counts right: it leaves the tables, or resets the part (02 R38). -/
theorem execTransmitComplete_countsRight (h : s.CountsRight) :
    Answers (execTransmitComplete s) State.CountsRight := by
  unfold execTransmitComplete
  refine answers_whileRunning h ?_
  split
  · exact h
  · split
    · exact State.started_countsRight ..
    · exact h

/-! ## Every command and every step -/

/-- Every command keeps the counts right. -/
theorem exec_countsRight (h : s.CountsRight) (c : Instr) : Answers (exec c s) State.CountsRight := by
  cases c with
  | frameReceived | receiveGapTimeout | linkByteReceived | transmitStart | sweepExamination | compositionEnd
  | routeFinalisation | directoryExamination | frameProcessingStart | frameProcessed =>
    simp only [exec, execFrameReceived, execReceiveGapTimeout, execLinkByteReceived, execTransmitStart,
      execSweepExamination, execCompositionEnd, execRouteFinalisation, execDirectoryExamination,
      execFrameProcessingStart, execFrameProcessed]
    exact answers_whileRunning h (h.of_sameTables (by simp [State.SameTables]))
  | settleStep | sessionExpiry | frameTimerExpiry =>
    simp only [exec, execSettleStep, execSessionExpiry, execFrameTimerExpiry]
    exact answers_whileRunning h (h.of_sameTables (by split <;> simp [State.SameTables]))
  | mapCheckEnd =>
    rw [exec, execMapCheckEnd]
    exact answers_whileRunning h (h.of_sameTables State.endCheck_sameTables)
  | stateGet | reportMask | loadRead =>
    simp only [exec, execStateGet, execReportMask, execLoadRead]
    exact answers_readingRequest h fun tag p u => by simp [State.SameTables, MaskKind.all]
  | resetFull | resetSessions | hotspotsSet | unitPeek =>
    simp only [exec, execResetFull, execResetSessions, execHotspotsSet, execUnitPeek]
    exact answers_readingRequest h fun tag p u => by split <;> simp [State.SameTables]
  | modeSet =>
    rw [exec, execModeSet]
    exact answers_readingRequest h fun tag p u => u.modeSet_sameTables _ _
  | mapCommit =>
    rw [exec, execMapCommit]
    exact answers_readingRequest h fun tag p u => ⟨rfl, rfl, rfl, rfl⟩
  | routeAsk | directoryAsk | cancel =>
    simp only [exec, execRouteAsk, execDirectoryAsk, execCancel]
    exact answers_readingRequest h fun tag p u => u.screenBound_sameTables fun v i => by simp [State.SameTables]
  | fence =>
    rw [exec, execFence]
    exact answers_readingRequest h fun tag p u =>
      u.screenBound_sameTables fun v i => by split <;> simp [State.SameTables]
  | unknownClass => exact execUnknownClass_countsRight h
  | panelFrameReceived p samples => exact execPanelFrameReceived_countsRight h p samples
  | screenSet => exact execScreenSet_countsRight h
  | panelSet => exact execPanelSet_countsRight h
  | panelInject => exact execPanelInject_countsRight h
  | baselineCapture => exact execBaselineCapture_countsRight h
  | loadOpen =>
    rw [exec, execLoadOpen]
    exact answers_request h fun tag p u hu => hu.loadOpen p
  | loadWrite =>
    rw [exec, execLoadWrite]
    exact answers_request h fun tag p u hu => hu.loadWrite p
  | segmentSet =>
    rw [exec, execSegmentSet]
    exact answers_request h fun tag p u hu => hu.segmentSet _ _
  | listingSet =>
    rw [exec, execListingSet]
    exact answers_request h fun tag p u hu => hu.listingSet _ _
  | resetPinAssert => exact ⟨_, rfl, State.started_countsRight s.link.rate 0 s.pending⟩
  | resetPinRelease straps =>
    refine ⟨_, rfl, ?_⟩
    split
    · exact State.started_countsRight ..
    · exact h
  | transmitComplete => exact execTransmitComplete_countsRight h

end

/-- Settles O54: a command is one of those above, and a millisecond leaves the tables. -/
theorem countsKept : Obligations.CountsKept := by
  unfold Obligations.CountsKept KeptByEveryStep
  intro s t h ht
  cases hp : s.pending with
  | nil =>
    simp only [step, hp, Host.Outcome.next.injEq] at ht
    subst ht
    exact h.of_sameTables (by simp [State.SameTables])
  | cons c rest =>
    simp only [step, hp] at ht
    obtain ⟨u, hu, hright⟩ := exec_countsRight (s := { s with pending := rest }) h c
    cases hu.symm.trans ht
    exact hright

end Sys2Proof.Machine
end

section
/-! PROOFS. The laws of the modes, kept by every step (02 R24, R26). -/

namespace Sys2Proof.Machine

/-! ## What a step may do to the work over the map -/

/-- No work over the map is in hand, and no cached route is valid. -/
def State.AtRest (s : State) : Prop :=
  s.search.queue = [] ∧ (∀ u : Fin 2, s.search.units[u.val].state = .idle)
    ∧ (∀ e : Fin 512, (s.rcc.at e).valid = false)
    ∧ s.rco.queue = [] ∧ s.rco.job = none ∧ s.dir.queue = [] ∧ s.dir.scan = none

/-- The mode stands, outside service rest is kept, and no unit begins to run except in SERVICE. -/
structure State.Settles (t s : State) : Prop where
  mode : t.mod.mode = s.mod.mode
  freezing : t.mod.freezing = s.mod.freezing
  atRest : s.mod.mode.serving = false → s.AtRest → t.AtRest
  startsNone : s.mod.mode ≠ .service →
    ∀ u : Fin 2, s.search.units[u.val].state ≠ .running → t.search.units[u.val].state ≠ .running

/-- The mode, the search block, the composer, the cache and the directory's work are the same. -/
def State.SameWork (t s : State) : Prop :=
  t.mod.mode = s.mod.mode ∧ t.mod.freezing = s.mod.freezing ∧ t.search = s.search ∧ t.rco = s.rco
    ∧ t.rcc = s.rcc ∧ t.dir.queue = s.dir.queue ∧ t.dir.scan = s.dir.scan

section
variable {s t r : State}

/-- Where the work is the same, nothing begins. -/
theorem State.SameWork.settles (h : t.SameWork s) : t.Settles s := by
  obtain ⟨hm, hf, hs, hc, hr, hq, hn⟩ := h
  refine ⟨hm, hf, fun _ hrest => ?_, fun _ u hu => hs ▸ hu⟩
  rwa [State.AtRest, hs, hc, hr, hq, hn]

/-- Nothing begins where nothing happens. -/
theorem State.Settles.refl (s : State) : s.Settles s := ⟨rfl, rfl, fun _ => id, fun _ _ => id⟩

/-- One event after another. -/
theorem State.Settles.trans (h : t.Settles s) (k : r.Settles t) : r.Settles s where
  mode := k.mode.trans h.mode
  freezing := k.freezing.trans h.freezing
  atRest hm hs := k.atRest (h.mode ▸ hm) (h.atRest hm hs)
  startsNone hm u hu := k.startsNone (h.mode ▸ hm) u (h.startsNone hm u hu)

/-- In SERVICE and FROZEN it is enough that no unit begins to run in FROZEN. -/
theorem State.settles_of_serving (hs : s.mod.mode.serving = true) (hm : t.mod = s.mod)
    (hu : s.mod.mode ≠ .service →
      ∀ u : Fin 2, s.search.units[u.val].state ≠ .running → t.search.units[u.val].state ≠ .running) :
    t.Settles s :=
  ⟨by rw [hm], by rw [hm], fun hn => by simp [hs] at hn, hu⟩

/-- An event that is repeated for the members of a list. -/
theorem State.foldl_settles {α : Type} {f : State → α → State} (hf : ∀ s a, (f s a).Settles s) (l : List α) (s : State) :
    (l.foldl f s).Settles s := by
  induction l generalizing s with
  | nil => exact .refl s
  | cons a l ih => exact (hf s a).trans (ih _)

/-! ## Replies stay queued -/

/-- A placed result is queued behind the replies that wait. -/
theorem State.placeResult_replies (i : Fin 4) (e : Entry) (r : EntryResult) :
    s.link.replies <+: (s.placeResult i e r).link.replies := by
  unfold State.placeResult
  split
  · exact List.prefix_append ..
  · split <;> exact List.prefix_rfl

/-- Released results are queued behind the replies that wait. -/
theorem State.releaseList_replies (i : Fin 4) (l : List Entry) :
    s.link.replies <+: (s.releaseList i l).link.replies := by
  induction l generalizing s with
  | nil => exact List.prefix_rfl
  | cons e es ih =>
    cases h : e.result with
    | none => rw [State.releaseList_stop _ _ _ _ h]; exact List.prefix_rfl
    | some r => rw [State.releaseList_go _ _ _ _ r h]; exact (State.placeResult_replies i e r).trans ih

/-- A completion queues its results behind the replies that wait. -/
theorem State.complete_replies (ref : Ref) (r : EntryResult) :
    s.link.replies <+: (s.complete ref r).link.replies :=
  State.releaseList_replies (s := s.mark ref r) ref.screen _

/-- Completions queue their results behind the replies that wait. -/
theorem State.completeAll_replies (refs : List Ref) (c : ResultCode) :
    s.link.replies <+: (s.completeAll refs c).link.replies := by
  induction refs generalizing s with
  | nil => exact List.prefix_rfl
  | cons a l ih => exact (State.complete_replies a (.bare c)).trans ih

/-! ## The engines -/

/-- All that the composer does at a waiting place: with a job in hand it leaves the place, and else it goes on with the
place's unit freed. -/
theorem State.takePlaces_cons_cases (v : Fin 2) (vs : List (Fin 2)) :
    s.takePlaces (v :: vs) = { s with rco := { s.rco with queue := v :: vs } }
      ∨ ∃ w : State, s.takePlaces (v :: vs) = w.takePlaces vs ∧ w.mod = s.mod
          ∧ w.search = (s.freeUnit v).search ∧ s.link.replies <+: w.link.replies := by
  rw [State.takePlaces]
  split
  · exact .inl rfl
  · simp only
    split
    · exact .inr ⟨_, rfl, by simp, rfl, by simp⟩
    · split
      · exact .inr ⟨_, rfl, by simp, rfl, by simp⟩
      · refine .inr ⟨_, rfl, by simp, by simp, ?_⟩
        simpa using State.completeAll_replies (s := s.freeUnit v) (s.requestersOf v) _

/-- What waits for the composer is taken without a unit that begins to run, but for SERVICE. -/
theorem State.takePlaces_startsNone (l : List (Fin 2)) (hm : s.mod.mode ≠ .service) (u : Fin 2)
    (hu : s.search.units[u.val].state ≠ .running) : (s.takePlaces l).search.units[u.val].state ≠ .running := by
  induction l generalizing s with
  | nil => exact hu
  | cons v vs ih =>
    obtain h | ⟨w, h, hmod, hsearch, -⟩ := s.takePlaces_cons_cases v vs <;> rw [h]
    · exact hu
    · refine ih (by rwa [hmod]) ?_
      rw [hsearch, State.freeUnit, State.giveUnit_outside _ _ (by simpa using hm), State.onUnit_get]
      split
      · exact nofun
      · exact hu

/-- At rest the engines find nothing to take. -/
theorem State.serve_atRest (hm : s.mod.mode.serving = false) (h : s.AtRest) : s.serve = s := by
  obtain ⟨-, -, -, hq, -, hd, -⟩ := h
  have hc : s.serveComposer = s := by
    rw [State.serveComposer, hq, State.takePlaces, ← hq]
  have hg : s.giveUnits = s := s.giveUnits_outside fun e => by rw [e] at hm; cases hm
  rw [State.serve, hc, hg, State.serveDirectory, hd, State.takeQueries, ← hd]

/-- The engines take up work in service alone. -/
theorem State.serve_settles : s.serve.Settles s := by
  refine ⟨by simp, by simp, fun hm h => by rwa [State.serve_atRest hm h], fun hm u hu => ?_⟩
  have hm' : s.serveComposer.mod.mode ≠ .service := by simpa using hm
  simp only [State.serve, State.giveUnits_outside _ hm', State.serveDirectory_keeps]
  exact State.takePlaces_startsNone s.rco.queue hm u hu

/-- Outside service the directory examines nothing. -/
theorem State.examineListing_settles : s.examineListing.Settles s := by
  refine ⟨by simp, by simp, fun _ h => ?_, fun _ u hu => by simpa using hu⟩
  obtain ⟨-, -, -, -, -, -, hscan⟩ := id h
  rwa [State.examineListing, hscan]

/-- Outside service the composer has no job whose composition ends. -/
theorem State.endComposition_settles : s.endComposition.Settles s := by
  refine ⟨by simp, by simp, fun _ h => ?_, fun _ u hu => by simpa using hu⟩
  obtain ⟨-, -, -, -, hjob, -, -⟩ := id h
  rwa [State.endComposition, hjob]

/-- Outside service the composer has no requester to finalise for. -/
theorem State.finaliseNext_settles : s.finaliseNext.Settles s := by
  have hwork (u : State) (h : u.search = s.search) (hm : u.mod = s.mod) :
      s.mod.mode ≠ .service → ∀ v : Fin 2, s.search.units[v.val].state ≠ .running →
        u.serve.search.units[v.val].state ≠ .running := fun hs v hv =>
    u.serve_settles.startsNone (by rwa [hm]) v (by rwa [h])
  refine ⟨by simp, by simp, fun _ h => ?_, ?_⟩
  · obtain ⟨-, -, -, -, hjob, -, -⟩ := id h
    rwa [State.finaliseNext, hjob]
  · unfold State.finaliseNext
    split
    · exact fun _ _ => id
    · split
      · exact fun _ _ => id
      · split
        · exact hwork _ rfl rfl
        · simp only
          split
          · exact hwork _ (by simp) (by simp)
          · exact fun _ v hv => by simpa using hv

/-- A sweep examination makes no entry valid. -/
theorem CacheState.examine_invalid {c : CacheState} (h : ∀ e : Fin 512, (c.at e).valid = false) (e : Fin 512) :
    (c.examine.at e).valid = false := by
  have hentry (p : Fin 512) (g : Nat) : ((c.onEntry p (CacheEntry.sweepFor g)).at e).valid = false := by
    rw [CacheState.onEntry_at]
    split
    · rw [CacheEntry.sweepFor]
      split
      · rfl
      · exact h p
    · exact h e
  unfold CacheState.examine
  split
  · simp only
    split
    · exact hentry _ _
    · exact hentry _ _
  · exact h e

/-- The sweep engine begins nothing. -/
theorem State.sweep_settles : ({ s with rcc := s.rcc.examine } : State).Settles s :=
  ⟨rfl, rfl, fun _ ⟨hq, hu, hv, hrest⟩ => ⟨hq, hu, fun e => CacheState.examine_invalid hv e, hrest⟩, fun _ _ => id⟩

/-! ## Detachment -/

/-- A unit whose search is dropped does not begin to run. -/
theorem State.dropUnit_settles (u : Fin 2) : (s.dropUnit u).Settles s := by
  have hidle (v : Fin 2) (w : State) (hw : w.search.units = s.search.units) (hv : s.search.units[v.val].state ≠ .running) :
      (w.onUnit u fun _ => .idle).search.units[v.val].state ≠ .running := by
    rw [State.onUnit_get]
    split
    · exact nofun
    · rwa [hw]
  refine ⟨by simp, by simp, fun _ h => ?_, fun _ v hv => ?_⟩
  · obtain ⟨-, hu, -⟩ := id h
    rwa [State.dropUnit, hu u]
  · unfold State.dropUnit
    split
    · exact hidle v s rfl hv
    · exact hidle v _ rfl hv
    · exact hv
    · exact hv

/-- Where requesters leave the search queue, no work begins. -/
theorem State.detachSearch_settles (refs : List Ref) : (s.detachSearch refs).Settles s := by
  have hqueue : ({ s with search := { s.search with
      queue := (s.search.queue.map (SearchEntry.without refs)).filter fun e => !e.requesters.isEmpty } } :
      State).Settles s :=
    ⟨rfl, rfl, fun _ ⟨hq, hrest⟩ => ⟨by simp [hq], hrest⟩, fun _ _ => id⟩
  exact hqueue.trans (State.foldl_settles (fun s u => s.dropUnit_settles u) _ _)

/-- Where requesters leave the composer's job, no work begins. -/
theorem State.detachJob_settles (refs : List Ref) : (s.detachJob refs).Settles s := by
  refine ⟨by simp, by simp, fun _ h => ?_, fun _ u hu => by simpa using hu⟩
  obtain ⟨-, -, -, -, hjob, -, -⟩ := id h
  rwa [State.detachJob, hjob]

/-- Where requesters leave the directory, no work begins. -/
theorem State.detachQueries_settles (refs : List Ref) : (s.detachQueries refs).Settles s :=
  ⟨rfl, rfl, fun _ ⟨hq, hu, hv, hc, hj, hd, hs⟩ =>
    ⟨hq, hu, hv, hc, hj, by simp [State.detachQueries, hd], by simp [State.detachQueries, hs]⟩, fun _ _ => id⟩

/-- Where requesters leave all work that holds them, no work begins. -/
theorem State.detach_settles (refs : List Ref) : (s.detach refs).Settles s :=
  (State.detachSearch_settles refs).trans ((State.detachJob_settles refs).trans (State.detachQueries_settles refs))

/-! ## The screen sessions -/

/-- A change of a screen begins no work. -/
theorem State.onScreen_settles (i : Fin 4) (f : Screen → Screen) : (s.onScreen i f).Settles s :=
  State.SameWork.settles ⟨rfl, rfl, rfl, rfl, rfl, rfl, rfl⟩

/-- A release begins no work. -/
theorem State.release_settles (i : Fin 4) : (s.release i).Settles s :=
  State.SameWork.settles (by simp [State.SameWork])

/-- An offered report begins no work. -/
theorem State.offerReport_settles (k : MaskKind) (cls : Byte) (p : List Byte) : (s.offerReport k cls p).Settles s :=
  State.SameWork.settles (by simp [State.SameWork])

/-- A reply begins no work. -/
theorem State.reply_settles (cls tag : Byte) (p : List Byte) : (s.reply cls tag p).Settles s :=
  State.SameWork.settles (by simp [State.SameWork])

/-- A cancellation begins no work. -/
theorem State.cancelEntries_settles (i : Fin 4) (b : Bool) : (s.cancelEntries i b).Settles s :=
  ((State.onScreen_settles i _).trans (State.detach_settles _)).trans (State.release_settles i)

/-- An expiry begins no work outside SERVICE. -/
theorem State.expire_settles (i : Fin 4) : (s.expire i).Settles s :=
  (((State.onScreen_settles i _).trans (State.cancelEntries_settles i true)).trans State.serve_settles).trans
    (State.offerReport_settles _ _ _)

/-- A SCREEN_SET begins no work outside SERVICE. -/
theorem State.configureScreen_settles (i : Fin 4) (p : List Byte) : (s.configureScreen i p).Settles s := by
  unfold State.configureScreen
  simp only
  split
  · exact (State.onScreen_settles i _).trans (State.onScreen_settles i _)
  · split
    · exact (State.onScreen_settles i _).trans (State.expire_settles i)
    · exact State.onScreen_settles i _

/-- A screen-bound request that begins no work in its body begins none. -/
theorem State.screenBound_settles {cls tag : Byte} {p : List Byte} {body : State → Fin 4 → State}
    (hbody : ∀ (u : State) i, u.mod.mode = s.mod.mode → (body u i).Settles u) :
    (s.screenBound cls tag p body).Settles s := by
  unfold State.screenBound
  split
  · exact State.reply_settles ..
  · exact (State.onScreen_settles _ _).trans (hbody (s.touchSession _) _ (by simp))

/-- A route request that is dispatched in SERVICE or FROZEN begins no search yet. -/
theorem State.dispatchRoute_settles (hs : s.mod.mode.serving = true) (ref : Ref) (k : Key) (x : Bool) :
    (s.dispatchRoute ref k x).Settles s := by
  refine State.settles_of_serving hs (by simp) fun _ u hu => ?_
  unfold State.dispatchRoute
  split
  · simpa using hu
  · simp only
    split
    · simpa using hu
    · exact hu

/-- A query that is dispatched in SERVICE or FROZEN begins no search. -/
theorem State.dispatchQuery_settles (hs : s.mod.mode.serving = true) (q : Query) : (s.dispatchQuery q).Settles s :=
  State.settles_of_serving hs (by simp) fun _ u hu => by simpa using hu

/-- A ROUTE_ASK served in FROZEN begins no search. -/
theorem State.askRoute_settles (hs : s.mod.mode.serving = true) (i : Fin 4) (tag : Byte) (p : List Byte) :
    (s.askRoute i tag p).Settles s := by
  have hjoin (k : Key) (x : Bool) : (s.joinRoute i tag k x).Settles s :=
    (((State.onScreen_settles i _).trans
      (State.dispatchRoute_settles (s := s.join i (.host tag) (.route k x) none) hs _ k x)).trans
        (State.release_settles i)).trans State.serve_settles
  unfold State.askRoute
  simp only
  split
  · exact State.reply_settles ..
  · split
    · exact State.reply_settles ..
    · split
      · exact State.reply_settles ..
      · split
        · exact State.reply_settles ..
        · split
          · exact State.reply_settles ..
          · exact hjoin _ _

/-- A DIRECTORY_ASK served in FROZEN begins no search. -/
theorem State.askDirectory_settles (hs : s.mod.mode.serving = true) (i : Fin 4) (tag : Byte) (p : List Byte) :
    (s.askDirectory i tag p).Settles s := by
  unfold State.askDirectory
  simp only
  split
  · exact State.reply_settles ..
  · split
    · exact State.reply_settles ..
    · split
      · exact State.reply_settles ..
      · split
        · exact State.reply_settles ..
        · exact (((State.onScreen_settles i _).trans
            (State.dispatchQuery_settles (s := s.join i (.host tag) (.directory _) none) hs _)).trans
              (State.release_settles i)).trans State.serve_settles

/-! ## Hotspot actions -/

/-- A panel's request begins no search, and outside service none is made. -/
theorem State.panelRequest_settles (i : Fin 4) (ask : Ask) {dispatch : State → Ref → State}
    (hd : ∀ (u : State) ref, u.mod.mode.serving = true → (dispatch u ref).Settles u) :
    (s.panelRequest i ask dispatch).state.Settles s := by
  unfold State.panelRequest
  split
  · exact .refl s
  · split
    · exact .refl s
    · rename_i hs _
      have hcreate : (s.createPanelEntry i ask).Settles s := State.SameWork.settles (by simp [State.SameWork])
      exact hcreate.trans (hd _ _ (by simpa using hs))

/-- A route action begins no search. -/
theorem State.panelRoute_settles (i : Fin 4) (kind : DestKind) (n : BitVec 16) :
    (s.panelRoute i kind n).state.Settles s := by
  refine State.panelRequest_settles i _ fun u ref hu => ?_
  split
  · exact State.dispatchRoute_settles hu ..
  · exact State.onScreen_settles _ _

/-- The query of an edit begins no search. -/
theorem State.panelQuery_settles (i : Fin 4) : (s.panelQuery i).state.Settles s :=
  State.panelRequest_settles i _ fun _ _ hu => State.dispatchQuery_settles hu _

/-- A text edit begins no search. -/
theorem State.editText_settles (i : Fin 4) (text : List Byte) : (s.editText i text).state.Settles s :=
  (State.onScreen_settles i _).trans (State.panelQuery_settles i)

/-- A term edit begins no search. -/
theorem State.editTerm_settles (i : Fin 4) (slot : Byte) (term : Option Term) :
    (s.editTerm i slot term).state.Settles s := by
  unfold State.editTerm
  split
  · exact .refl s
  · split
    · exact .refl s
    · exact (State.onScreen_settles i _).trans (State.panelQuery_settles i)

/-- An action begins no search. -/
theorem State.doAction_settles (i : Fin 4) (a : Action) : (s.doAction i a).state.Settles s := by
  cases a with
  | plain => exact .refl s
  | listing n => exact State.panelRoute_settles i .listing n
  | waypoint n => exact State.panelRoute_settles i .waypoint n
  | key b =>
    simp only [State.doAction]
    split
    · exact .refl s
    · split
      · exact State.editText_settles i _
      · exact .refl s
  | backspace =>
    simp only [State.doAction]
    split
    · exact .refl s
    · exact State.editText_settles i _
  | clearText =>
    simp only [State.doAction]
    split
    · exact .refl s
    · exact State.editText_settles i _
  | filter slot term => exact State.editTerm_settles i slot term
  | unfilter slot => exact State.editTerm_settles i slot none
  | cancel => exact State.cancelEntries_settles i true

/-- A selection begins no work outside SERVICE. -/
theorem State.select_settles (i : Fin 4) (h : Nat) (n : Byte) (a : Action) : (s.select i h n a).Settles s := by
  have hcarry : (s.carryOut i a).state.Settles s := by
    unfold State.carryOut
    split
    · exact (State.onScreen_settles i _).trans (State.doAction_settles i a)
    · exact .refl s
  exact ((hcarry.trans (State.offerReport_settles _ _ _)).trans (State.release_settles i)).trans State.serve_settles

/-! ## The touch panels -/

/-- The UP of a track begins no work outside SERVICE. -/
theorem State.goUp_settles (p : Fin 4) (i : Fin 5) (f : Processing) : (s.goUp p i f).Settles s := by
  have hreport : (s.reportContact p i.val .up false (s.track p i).position).Settles s :=
    State.SameWork.settles (by simp [State.SameWork])
  have htrack (u : State) : (u.onTrack p i fun _ => .free).Settles u :=
    State.SameWork.settles (by simp [State.SameWork])
  unfold State.goUp
  simp only
  split
  · exact hreport.trans (htrack _)
  · exact (hreport.trans (State.select_settles ..)).trans (htrack _)

/-- A track brought forward begins no work outside SERVICE. -/
theorem State.advanceTrack_settles (p : Fin 4) (f : Processing) (i : Fin 5) (c : Claim) :
    (s.advanceTrack p f i c).Settles s := by
  unfold State.advanceTrack
  split
  case h_7 =>
    split
    · exact State.SameWork.settles (by simp [State.SameWork])
    · exact State.goUp_settles p i f
  all_goals exact State.SameWork.settles (by simp [State.SameWork])

/-- The end of a frame begins no work outside SERVICE. -/
theorem State.finishFrame_settles (p : Fin 4) : (s.finishFrame p).Settles s := by
  have hdetect (f : Processing) : (s.detect p f).Settles s := by
    have htracks (u : State) (cs : List Claim) : (u.advanceTracks p f cs).Settles u :=
      State.foldl_settles (α := Fin 5 × Claim) (fun _ x => State.advanceTrack_settles p f x.1 x.2) _ u
    have hpanel (u : State) (g : Panel → Panel) : (u.onPanel p g).Settles u :=
      State.SameWork.settles ⟨rfl, rfl, rfl, rfl, rfl, rfl, rfl⟩
    exact ((hpanel s _).trans (htracks _ _)).trans (hpanel _ fun q => q.drifted f)
  have hend (t : State) (f : Processing) :
      ((t.onPanel p fun q => { q with processing := none }).answerInject p f.frame.inject .ok).Settles t :=
    State.SameWork.settles (by simp [State.SameWork])
  unfold State.finishFrame
  split
  · exact .refl s
  · rename_i f _
    simp only
    split
    · exact (hdetect f).trans (hend _ f)
    · exact State.Settles.trans (State.SameWork.settles (by simp [State.SameWork])) (hend _ f)
    · exact hend _ f

/-! ## The map store -/

/-- A SEGMENT_SET begins no work: outside service it only writes the status (07 R117). -/
theorem State.segmentSet_settles (g n : Nat) : (s.segmentSet g n).1.Settles s := by
  refine ⟨by simp, by simp, fun hm h => ?_, fun _ u hu => ?_⟩
  · have hserving : s.mod.mode ≠ .checking → s.mod.mode = .loading := by
      revert hm
      cases s.mod.mode <;> decide
    unfold State.segmentSet
    split
    · exact h
    · rename_i hc
      rw [if_pos (hserving hc)]
      repeat' split
      all_goals exact h
  · have hvoid (v : SearchUnit) : v.void.state = v.state := by
      unfold SearchUnit.void
      split <;> rfl
    unfold State.segmentSet
    split
    · exact hu
    · split
      · exact hu
      · split
        · exact hu
        · split
          · exact hu
          · split
            · exact hu
            · split
              · exact hu
              · simp only [State.reopenSegment]
                split
                · simpa [State.wrapGeneration, hvoid] using hu
                · exact hu

/-! ## The commands that stay in their mode -/

/-- A dispatch begins no work where its owner, behind the mode gate, begins none. -/
theorem State.dispatch_settles {cls : Byte} {row : List Byte → Bool} {owner : Byte → List Byte → State → State}
    (howner : ∀ tag p u, modeGate u.mod.mode cls = true → (owner tag p u).Settles u) :
    (s.dispatch cls row owner).Settles s := by
  have htaken (rest : List InFrame) : (s.taken rest).Settles s :=
    State.SameWork.settles ⟨rfl, rfl, rfl, rfl, rfl, rfl, rfl⟩
  obtain hd | ⟨tag, p, rest, -, -, -, -, ⟨-, hd⟩ | ⟨-, -, hd⟩ | ⟨-, hgate, hd⟩⟩ := s.dispatch_cases cls row owner <;>
    rw [hd]
  · exact .refl s
  · exact (htaken rest).trans (State.reply_settles ..)
  · exact (htaken rest).trans (State.reply_settles ..)
  · exact (htaken rest).trans (howner tag p _ hgate)

/-- What the pin gates begins no work where its operation begins none. -/
theorem answers_settles {f : State → State} (hf : (f s).Settles s) :
    Answers (whileRunning s f) fun t => t.Settles s :=
  answers_whileRunning (law := fun t => t.Settles s) (.refl s) hf

/-- A request begins no work where its owner begins none. -/
theorem request_settles {cls : Byte} {row : List Byte → Bool} {owner : Byte → List Byte → State → State}
    (howner : ∀ tag p u, modeGate u.mod.mode cls = true → (owner tag p u).Settles u) :
    Answers (whileRunning s fun s => s.dispatch cls row owner) fun t => t.Settles s :=
  answers_settles (State.dispatch_settles howner)

/-- Outside SERVICE and FROZEN the mode gate stops the requests of routes and of the directory (02 R22). -/
theorem serving_of_modeGate {m : Mode} {cls : Byte} (hc : cls = 0x0B ∨ cls = 0x0C) (h : modeGate m cls = true) :
    m.serving = true := by
  revert h
  obtain rfl | rfl := hc <;> cases m <;> decide

/-- The commands that change the mode, answer a MODE_SET FROZEN or may reset the part. -/
def movesMode : Instr → Bool
  | .modeSet | .mapCommit | .mapCheckEnd | .resetSessions | .settleStep _ | .transmitComplete | .resetPinAssert
  | .resetPinRelease _ => true
  | _ => false

/-- A command that does not move the mode begins no work outside SERVICE. -/
theorem exec_settles (c : Instr) (hc : movesMode c = false) : Answers (exec c s) fun t => t.Settles s := by
  cases c with
  | modeSet | mapCommit | mapCheckEnd | resetSessions | settleStep | transmitComplete | resetPinAssert
  | resetPinRelease => cases hc
  | frameReceived | receiveGapTimeout | linkByteReceived | transmitStart | frameProcessingStart =>
    simp only [exec, execFrameReceived, execReceiveGapTimeout, execLinkByteReceived, execTransmitStart,
      execFrameProcessingStart]
    exact answers_settles (State.SameWork.settles (by simp [State.SameWork]))
  | compositionEnd => exact answers_settles State.endComposition_settles
  | routeFinalisation => exact answers_settles State.finaliseNext_settles
  | sweepExamination => exact answers_settles (f := fun s => { s with rcc := s.rcc.examine }) State.sweep_settles
  | directoryExamination => exact answers_settles State.examineListing_settles
  | frameProcessed p => exact answers_settles (f := fun s => s.finishFrame p) (State.finishFrame_settles p)
  | sessionExpiry i =>
    simp only [exec, execSessionExpiry]
    refine answers_settles ?_
    split
    · exact State.expire_settles i
    · exact .refl s
  | frameTimerExpiry p =>
    simp only [exec, execFrameTimerExpiry]
    exact answers_settles (State.SameWork.settles (by split <;> simp [State.SameWork]))
  | panelFrameReceived p samples =>
    simp only [exec, execPanelFrameReceived]
    refine answers_settles (State.SameWork.settles ?_)
    split
    · exact ⟨rfl, rfl, rfl, rfl, rfl, rfl, rfl⟩
    · split <;> simp [State.SameWork]
  | unknownClass =>
    simp only [exec, execUnknownClass]
    refine answers_settles ?_
    split
    · exact .refl s
    · rename_i f t hd
      split
      · exact .refl s
      · refine State.SameWork.settles ?_
        simp only [State.dispatchHead] at hd
        split at hd
        · cases hd
        · split at hd
          · cases hd
          · cases hd
            exact ⟨rfl, rfl, rfl, rfl, rfl, rfl, rfl⟩
  | stateGet | reportMask | loadOpen | loadWrite | loadRead | listingSet =>
    simp only [exec, execStateGet, execReportMask, execLoadOpen, execLoadWrite, execLoadRead, execListingSet]
    exact request_settles fun tag p u _ => State.SameWork.settles (by simp [State.SameWork, MaskKind.all])
  | segmentSet => exact request_settles fun tag p u _ => (State.segmentSet_settles _ _).trans (State.reply_settles ..)
  | resetFull =>
    simp only [exec, execResetFull]
    refine request_settles fun tag p u _ => State.SameWork.settles ?_
    split
    · exact ⟨rfl, rfl, rfl, rfl, rfl, rfl, rfl⟩
    · simp [State.SameWork]
  | hotspotsSet | unitPeek =>
    simp only [exec, execHotspotsSet, execUnitPeek]
    exact request_settles fun tag p u _ => State.SameWork.settles (by split <;> simp [State.SameWork])
  | baselineCapture =>
    simp only [exec, execBaselineCapture]
    refine request_settles fun tag p u _ => State.SameWork.settles ?_
    split
    · simp [State.SameWork]
    · split <;> simp [State.SameWork]
  | panelSet | panelInject =>
    simp only [exec, execPanelSet, execPanelInject]
    refine request_settles fun tag p u _ => State.SameWork.settles ?_
    split
    · simp [State.SameWork]
    · split
      · simp [State.SameWork]
      · split <;> simp [State.SameWork]
  | screenSet =>
    simp only [exec, execScreenSet]
    refine request_settles fun tag p u _ => ?_
    split
    · exact State.reply_settles ..
    · split
      · exact State.reply_settles ..
      · exact (State.configureScreen_settles _ _).trans (State.reply_settles ..)
  | routeAsk =>
    exact request_settles fun tag p u hg => State.screenBound_settles fun v i hv =>
      State.askRoute_settles (hv ▸ serving_of_modeGate (.inl rfl) hg) i tag p
  | directoryAsk =>
    exact request_settles fun tag p u hg => State.screenBound_settles fun v i hv =>
      State.askDirectory_settles (hv ▸ serving_of_modeGate (.inr rfl) hg) i tag p
  | fence =>
    refine request_settles fun tag p u _ => State.screenBound_settles fun v i _ => ?_
    split
    · exact State.reply_settles ..
    · exact (State.onScreen_settles i _).trans (State.release_settles i)
  | cancel =>
    exact request_settles fun tag p u _ => State.screenBound_settles fun v i _ =>
      ((State.cancelEntries_settles i false).trans State.serve_settles).trans (State.reply_settles ..)

/-- A millisecond begins no work outside SERVICE. -/
theorem State.tick_settles : s.tick.Settles s := by
  have hscreen (u : State) (i : Fin 4) : (u.tickScreen i).Settles u := by
    unfold State.tickScreen
    simp only
    split
    · exact (State.onScreen_settles i _).trans (State.expire_settles i)
    · exact State.onScreen_settles i _
  have hpanel (u : State) (p : Fin 4) : (u.tickPanel p).Settles u := State.SameWork.settles (by simp [State.SameWork])
  have hgap : (s.onLink LinkState.tickGap).Settles s := State.SameWork.settles ⟨rfl, rfl, rfl, rfl, rfl, rfl, rfl⟩
  unfold State.tick
  split
  · exact .refl s
  · exact (hgap.trans (State.foldl_settles hpanel _ _)).trans (State.foldl_settles hscreen _ _)

/-! ## The two laws -/

/-- Rest outside service is kept where no work begins. -/
theorem State.Settles.restsOutsideService (k : t.Settles s) (h : s.RestsOutsideService) : t.RestsOutsideService :=
  fun hm => k.atRest (k.mode ▸ hm) (h (k.mode ▸ hm))

/-- FROZEN holds where no work begins. -/
theorem State.Settles.frozenHolds (k : t.Settles s) (h : s.FrozenHolds) : t.FrozenHolds := by
  obtain ⟨hmode, hunits⟩ := h
  rw [State.FrozenHolds, k.mode, k.freezing]
  exact ⟨hmode, fun hm hf u => k.startsNone (by rw [hm]; exact nofun) u (hunits hm hf u)⟩

/-- A request keeps a law of the modes where its owner keeps it, which is handed a request while no MODE_SET FROZEN
waits for its reply and the mode gate lets it pass. -/
theorem request_keepsModeLaw {law : State → Prop} (hlaw : ∀ t u : State, t.Settles u → law u → law t) (h : law s)
    {cls : Byte} {row : List Byte → Bool} {owner : Byte → List Byte → State → State}
    (howner : ∀ tag p u, u.mod.freezing = none → modeGate u.mod.mode cls = true → law u → law (owner tag p u)) :
    Answers (whileRunning s fun s => s.dispatch cls row owner) law := by
  have htaken (rest : List InFrame) : law (s.taken rest) :=
    hlaw _ s (State.SameWork.settles ⟨rfl, rfl, rfl, rfl, rfl, rfl, rfl⟩) h
  refine answers_whileRunning h ?_
  obtain hd | ⟨tag, p, rest, -, hf, -, -, ⟨-, hd⟩ | ⟨-, -, hd⟩ | ⟨-, hgate, hd⟩⟩ := s.dispatch_cases cls row owner <;>
    rw [hd]
  · exact h
  · exact hlaw _ _ (State.reply_settles ..) (htaken rest)
  · exact hlaw _ _ (State.reply_settles ..) (htaken rest)
  · exact howner tag p _ hf hgate (htaken rest)

/-- After the end of all work nothing is in hand (02 R25, R39). -/
theorem State.abortWork_atRest : s.abortWork.AtRest := by
  obtain ⟨hsearch, hrco, hrcc, hdir⟩ := s.abortWork_empties
  rw [State.AtRest, hsearch, hrco, hrcc, hdir]
  exact ⟨rfl, fun u => by simp [SearchUnit.idle], fun e => (s.rcc.flush_at e).1, rfl, rfl, rfl, rfl⟩

/-- An entry to LOADING leaves nothing in hand (02 R25). -/
theorem State.enterLoading_atRest : s.enterLoading.AtRest :=
  State.abortWork_atRest (s := { s with mod := _ })

/-- What the aborts of the screens and the panels leave of the work, and of MODE_SET FROZEN (02 R39). -/
theorem State.resetSessions_work : s.resetSessions.AtRest ∧ s.resetSessions.mod.freezing = s.mod.freezing
    ∧ (s.resetSessions.mod.mode = s.mod.mode ∨ s.resetSessions.mod.mode = .loading) := by
  have hcheck (u : State) : u.abandonCheck.mod.freezing = u.mod.freezing
      ∧ (u.abandonCheck.mod.mode = u.mod.mode ∨ u.abandonCheck.mod.mode = .loading) := by
    unfold State.abandonCheck
    split
    · exact ⟨rfl, .inl rfl⟩
    · exact ⟨rfl, .inr rfl⟩
  have hrest : s.abortWork.AtRest := State.abortWork_atRest
  refine ⟨by simpa [State.resetSessions, four, State.AtRest] using hrest, ?_, ?_⟩
  · simp [State.resetSessions, four, (hcheck _).1]
  · simpa [State.resetSessions, four] using (hcheck (four.foldl State.abortScreen s.abortWork)).2

/-- A part after reset is in LOADING with nothing in hand (02 R37). -/
theorem State.started_atRest (rate : BitVec 2) (cause : Byte) (pending : List Instr) :
    ({ State.started rate cause with pending := pending } : State).AtRest :=
  ⟨rfl, fun u => by simp [State.started, State.heldReset, SearchUnit.idle],
    fun e => by simp [State.started, State.heldReset, CacheState.at, CacheEntry.reset], rfl, rfl, rfl, rfl⟩

/-- The settle step of a unit, up to the answer of a MODE_SET FROZEN, lets no unit begin to run in FROZEN; and a unit
that runs is not at rest. -/
theorem State.settleStep_settles (u : Fin 2) (hu : s.search.units[u.val].state = .running) :
    (s.endSettle u (s.settle s.search.units[u.val])).serve.Settles s := by
  refine State.Settles.trans ⟨by simp, by simp, fun _ hrest => ?_, fun hm v hv => ?_⟩ State.serve_settles
  · obtain ⟨-, hidle, -⟩ := hrest
    rw [hidle u] at hu
    cases hu
  · have hne : v ≠ u := fun e => hv (e ▸ hu)
    unfold State.endSettle
    split
    · simpa [hne] using hv
    · split
      · simpa [hne] using hv
      · split <;> simpa [hne] using hv

/-- The answer of a MODE_SET FROZEN is given once no unit runs, and else nothing changes. -/
theorem State.answerFreezing_cases : s.answerFreezing = s
    ∨ (s.answerFreezing.mod.freezing = none ∧ ∀ u : Fin 2, s.search.units[u.val].state ≠ .running) := by
  unfold State.answerFreezing
  split
  · exact .inl rfl
  · split
    · exact .inl rfl
    · rename_i hrun
      refine .inr ⟨rfl, fun u hu => hrun ?_⟩
      exact List.any_eq_true.mpr ⟨_, Vector.mem_toList_iff.mpr (Vector.getElem_mem u.isLt), decide_eq_true hu⟩

/-- The answer of a MODE_SET FROZEN keeps FROZEN's law, given that the MODE_SET has been served in it. -/
theorem State.answerFreezing_frozenHolds (hf : s.mod.freezing.isSome = true → s.mod.mode = .frozen)
    (h : s.mod.mode = .frozen → s.mod.freezing = none → ∀ u : Fin 2, s.search.units[u.val].state ≠ .running) :
    s.answerFreezing.FrozenHolds := by
  obtain hsame | ⟨hnone, hrun⟩ := s.answerFreezing_cases
  · rw [hsame]
    exact ⟨hf, h⟩
  · exact ⟨fun hsome => by simp [hnone] at hsome, fun _ _ u => by simpa using hrun u⟩

/-- FROZEN's law asks nothing of another mode without a MODE_SET FROZEN that waits. -/
theorem State.frozenHolds_of_not_frozen (hm : s.mod.mode ≠ .frozen) (hf : s.mod.freezing = none) : s.FrozenHolds :=
  ⟨fun h => by simp [hf] at h, fun h => absurd h hm⟩

/-- Outside service a part at rest meets R26. -/
theorem State.AtRest.restsOutsideService (h : s.AtRest) : s.RestsOutsideService := fun _ => h

/-- In SERVICE and FROZEN R26 asks nothing. -/
theorem State.restsOutsideService_of_serving (h : s.mod.mode.serving = true) : s.RestsOutsideService :=
  fun hn => by rw [h] at hn; cases hn

/-- A MODE_SET keeps R26 (02 R23 to R25). -/
theorem State.modeSet_restsOutsideService (h : s.RestsOutsideService) (tag : Byte) (n : Nat) :
    (s.modeSet tag n).RestsOutsideService := by
  have hreply (r : ResultCode) : (s.modeReply tag r).RestsOutsideService :=
    State.Settles.restsOutsideService (State.reply_settles ..) h
  have hloading : (s.enterLoading.modeReply tag .ok).RestsOutsideService :=
    State.Settles.restsOutsideService (State.reply_settles ..) State.enterLoading_atRest.restsOutsideService
  unfold State.modeSet
  split
  case h_4 | h_5 => exact hloading
  case h_7 =>
    exact State.restsOutsideService_of_serving (by simp [State.enterFrozen, Mode.serving])
  case h_8 => exact State.restsOutsideService_of_serving (by simp [Mode.serving])
  all_goals exact hreply _

/-- A MODE_SET keeps FROZEN's law (02 R23 to R25). -/
theorem State.modeSet_frozenHolds (h : s.FrozenHolds) (hf : s.mod.freezing = none) (tag : Byte) (n : Nat) :
    (s.modeSet tag n).FrozenHolds := by
  have hreply (r : ResultCode) : (s.modeReply tag r).FrozenHolds :=
    State.Settles.frozenHolds (State.reply_settles ..) h
  have hloading : (s.enterLoading.modeReply tag .ok).FrozenHolds :=
    State.frozenHolds_of_not_frozen (by simp) (by simpa using hf)
  unfold State.modeSet
  split
  case h_4 | h_5 => exact hloading
  case h_7 => exact State.answerFreezing_frozenHolds (fun _ => rfl) nofun
  case h_8 => exact State.frozenHolds_of_not_frozen (by simp) (by simpa [State.returnToService] using hf)
  all_goals exact hreply _

/-- A command that may move the mode keeps R26. -/
theorem exec_restsOutsideService (h : s.RestsOutsideService) (c : Instr) :
    Answers (exec c s) State.RestsOutsideService := by
  have hlaw (t u : State) (k : t.Settles u) (hu : u.RestsOutsideService) := k.restsOutsideService hu
  cases hc : movesMode c with
  | false =>
    obtain ⟨t, ht, hsettles⟩ := exec_settles (s := s) c hc
    exact ⟨t, ht, hsettles.restsOutsideService h⟩
  | true =>
    cases c with
    | modeSet => exact request_keepsModeLaw hlaw h fun tag p u _ _ hu => u.modeSet_restsOutsideService hu tag _
    | mapCommit =>
      refine request_keepsModeLaw hlaw h fun tag p u _ hgate hu => ?_
      have hm : u.mod.mode = .loading := by
        revert hgate
        cases u.mod.mode <;> decide
      exact State.AtRest.restsOutsideService (hu (by rw [hm]; rfl))
    | mapCheckEnd =>
      refine answers_whileRunning h ?_
      unfold State.endCheck
      split
      · rename_i hm _
        split
        · exact State.restsOutsideService_of_serving (by simp [Mode.serving])
        · exact State.AtRest.restsOutsideService (h (by rw [hm]; rfl))
      · exact h
    | resetSessions =>
      refine request_keepsModeLaw hlaw h fun tag p u _ _ hu => ?_
      split
      · exact hlaw _ _ (State.reply_settles ..) u.resetSessions_work.1.restsOutsideService
      · exact hlaw _ _ (State.reply_settles ..) hu
    | settleStep u =>
      refine answers_whileRunning h ?_
      split
      · rename_i hu
        have hserve := hlaw _ _ (State.settleStep_settles u hu) h
        simpa [State.RestsOutsideService] using hserve
      · exact h
    | transmitComplete =>
      rw [exec, execTransmitComplete]
      refine answers_whileRunning h ?_
      split
      · exact h
      · split
        · exact (State.started_atRest ..).restsOutsideService
        · exact h
    | resetPinAssert => exact ⟨_, rfl, (State.started_atRest s.link.rate 0 s.pending).restsOutsideService⟩
    | resetPinRelease straps =>
      refine ⟨_, rfl, ?_⟩
      split
      · exact (State.started_atRest ..).restsOutsideService
      · exact h
    | _ => cases hc

/-- A command keeps FROZEN's law. -/
theorem exec_frozenHolds (h : s.FrozenHolds) (c : Instr) : Answers (exec c s) State.FrozenHolds := by
  have hlaw (t u : State) (k : t.Settles u) (hu : u.FrozenHolds) := k.frozenHolds hu
  have hstarted (rate : BitVec 2) (cause : Byte) (pending : List Instr) :
      ({ State.started rate cause with pending := pending } : State).FrozenHolds :=
    State.frozenHolds_of_not_frozen nofun rfl
  cases hc : movesMode c with
  | false =>
    obtain ⟨t, ht, hsettles⟩ := exec_settles (s := s) c hc
    exact ⟨t, ht, hsettles.frozenHolds h⟩
  | true =>
    cases c with
    | modeSet => exact request_keepsModeLaw hlaw h fun tag p u hf _ hu => u.modeSet_frozenHolds hu hf tag _
    | mapCommit =>
      exact request_keepsModeLaw hlaw h fun tag p u hf _ _ => State.frozenHolds_of_not_frozen nofun hf
    | mapCheckEnd =>
      refine answers_whileRunning h ?_
      unfold State.endCheck
      split
      · rename_i hm _
        have hf : s.mod.freezing = none := by
          cases hf : s.mod.freezing with
          | none => rfl
          | some tag =>
            have := h.1 (by rw [hf]; rfl)
            rw [hm] at this
            cases this
        split
        · exact State.frozenHolds_of_not_frozen (by simp) hf
        · exact State.frozenHolds_of_not_frozen (by simp) hf
      · exact h
    | resetSessions =>
      refine request_keepsModeLaw hlaw h fun tag p u hf _ hu => ?_
      split
      · obtain ⟨⟨-, hidle, -⟩, hfreezing, -⟩ := u.resetSessions_work
        refine hlaw _ _ (State.reply_settles ..) ⟨fun hsome => ?_, fun _ _ v => by rw [hidle v]; exact nofun⟩
        simp [hfreezing, hf] at hsome
      · exact hlaw _ _ (State.reply_settles ..) hu
    | settleStep u =>
      refine answers_whileRunning h ?_
      split
      · rename_i hu
        obtain ⟨hmode, hunits⟩ := hlaw _ _ (State.settleStep_settles u hu) h
        exact State.answerFreezing_frozenHolds hmode hunits
      · exact h
    | transmitComplete =>
      rw [exec, execTransmitComplete]
      refine answers_whileRunning h ?_
      split
      · exact h
      · split
        · exact hstarted ..
        · exact h
    | resetPinAssert => exact ⟨_, rfl, hstarted s.link.rate 0 s.pending⟩
    | resetPinRelease straps =>
      refine ⟨_, rfl, ?_⟩
      split
      · exact hstarted ..
      · exact h
    | _ => cases hc

/-- A law that every command and a millisecond keep is kept by every step. -/
theorem keptByEveryStep_of_exec {law : State → Prop} (hframe : ∀ (u : State) rest, law u → law { u with pending := rest })
    (hexec : ∀ c u, law u → Answers (exec c u) law) (htick : ∀ u : State, law u → law u.tick) : KeptByEveryStep law := by
  intro s t h ht
  cases hp : s.pending with
  | nil =>
    simp only [step, hp, Host.Outcome.next.injEq] at ht
    exact ht ▸ htick s h
  | cons c rest =>
    simp only [step, hp] at ht
    obtain ⟨u, hu, hkept⟩ := hexec c _ (hframe s rest h)
    cases hu.symm.trans ht
    exact hkept

end

/-- Settles O53: outside SERVICE no command begins work, but for those that move the mode. -/
theorem modeLawsKept : Obligations.ModeLawsKept :=
  ⟨keptByEveryStep_of_exec (fun _ _ hu => hu) (fun c _ hu => exec_restsOutsideService hu c)
      (fun _ hu => State.tick_settles.restsOutsideService hu),
    keptByEveryStep_of_exec (fun _ _ hu => hu) (fun c _ hu => exec_frozenHolds hu c)
      (fun _ hu => State.tick_settles.frozenHolds hu)⟩

end Sys2Proof.Machine
end

section
/-! PROOFS. The resets, the laws right after reset, STATE_GET (02 R36 to R38), and the transmit arbiter (11 R187). -/

namespace Sys2Proof.Machine

/-! ## The pin (02 R37) -/

/-- A vector of equal values holds that value in every place. -/
theorem replicate_get {α : Type} {n : Nat} (x : α) (i : Fin n) : (Vector.replicate n x)[i.val] = x :=
  Vector.getElem_replicate i.isLt

/-- Every block holds its reset values, whatever the pin, the bit rate, the report queue and the waiting commands are. -/
theorem State.heldReset_atReset (low : Bool) (rate : BitVec 2) (reports : List OutItem) (pending : List Instr) :
    ({ State.heldReset rate with
        resetLow := low, link := { LinkState.reset rate with reports := reports }, pending := pending } :
      State).AtReset := by
  refine ⟨rfl, ⟨rfl, rfl, rfl, rfl, rfl, rfl, rfl⟩, fun k => ?_, ⟨rfl, rfl, rfl, rfl, rfl⟩, fun u => ?_, fun e => ?_,
    ⟨fun g => ?_, rfl, rfl⟩, fun i => ?_, fun p => ?_, rfl, rfl, rfl, rfl, rfl, rfl, rfl, rfl, rfl, rfl⟩
  · simp only [State.heldReset, replicate_get]
    exact ⟨rfl, rfl, rfl, rfl⟩
  · simp only [State.heldReset, replicate_get]
    rfl
  · simp only [State.heldReset, CacheState.at, replicate_get]
    exact ⟨rfl, rfl, rfl, rfl, rfl, rfl, rfl⟩
  · simp only [State.heldReset, replicate_get]
  · simp only [State.heldReset, replicate_get]
    rfl
  · simp only [State.heldReset, replicate_get]
    refine ⟨rfl, rfl, fun k => ?_, fun k => ?_, rfl, rfl, fun k => ?_, rfl, rfl, rfl, rfl, rfl, rfl, rfl⟩
    · simp only [Panel.reset, identityCurve, Vector.getElem_ofFn, BitVec.toNat_ofNat]
      exact Nat.mod_eq_of_lt k.isLt
    · simp only [Panel.reset, replicate_get]
    · simp only [Panel.reset, replicate_get]

/-- A part right after a reset holds the reset values. -/
theorem State.started_atReset (rate : BitVec 2) (cause : Byte) (pending : List Instr) :
    ({ State.started rate cause with pending := pending } : State).AtReset :=
  State.heldReset_atReset false rate [startedReport cause] pending

section
variable {s : State}

/-- While RESET_N is low no command but the pin's own has an effect. -/
theorem exec_low (h : s.resetLow = true) (c : Instr) (ha : c ≠ .resetPinAssert)
    (hr : ∀ straps, c ≠ .resetPinRelease straps) : exec c s = .next s := by
  cases c with
  | resetPinAssert => exact absurd rfl ha
  | resetPinRelease straps => exact absurd rfl (hr straps)
  | _ => exact congrArg Host.Outcome.next (if_pos h)

/-- Settles O3. -/
theorem resetPin : Obligations.ResetPin := by
  unfold Obligations.ResetPin
  refine fun s => ⟨?_, fun hlow straps => ?_, fun hhigh straps => ?_, exec_low⟩
  · exact ⟨_, rfl, rfl, rfl, State.heldReset_atReset true s.link.rate [] s.pending, rfl, rfl⟩
  · refine ⟨{ State.started straps 0 with pending := s.pending }, ?_, rfl, State.started_atReset .., rfl, rfl, rfl, rfl⟩
    rw [exec, execResetPinRelease, if_pos hlow]
  · rw [exec, execResetPinRelease, hhigh, if_neg Bool.false_ne_true]

/-! ## RESET FULL (02 R38) -/

/-- The rows that the dispatcher takes a frame for: the requests and UNKNOWN_CLASS. -/
def dispatchedRows : List Instr :=
  [.unknownClass, .stateGet, .modeSet, .mapCommit, .resetFull, .resetSessions, .loadOpen, .loadWrite, .loadRead,
    .segmentSet, .listingSet, .screenSet, .routeAsk, .directoryAsk, .fence, .cancel, .hotspotsSet, .panelSet,
    .panelInject, .baselineCapture, .reportMask, .unitPeek]

/-- A request row changes nothing while the dispatcher takes no frame. -/
theorem request_stopped (hd : s.dispatchHead = none) {cls : Byte} {row : List Byte → Bool}
    {owner : Byte → List Byte → State → State} :
    whileRunning s (fun s => s.dispatch cls row owner) = .next s := by
  have hdispatch : s.dispatch cls row owner = s := by rw [State.dispatch, hd]
  rw [whileRunning_eq, hdispatch, ite_self]

/-- While the dispatcher takes no frame no row of it changes anything (log entry 1). -/
theorem exec_dispatched_stopped (hd : s.dispatchHead = none) {c : Instr} (hc : c ∈ dispatchedRows) :
    exec c s = .next s := by
  have hunknown : execUnknownClass s = .next s := by rw [execUnknownClass, whileRunning_eq, hd, ite_self]
  fin_cases hc
  · exact hunknown
  all_goals exact request_stopped hd

/-- After a RESET FULL the dispatcher takes no frame (02 R38). -/
theorem State.dispatchHead_of_resetAsked (h : s.mod.resetAsked = true) : s.dispatchHead = none := by
  simp [State.dispatchHead, h]

/-- While a MODE_SET FROZEN waits for its reply the dispatcher takes no frame (02 R24). -/
theorem State.dispatchHead_of_freezing {tag : Byte} (h : s.mod.freezing = some tag) : s.dispatchHead = none := by
  simp [State.dispatchHead, h]

/-- Settles O5. -/
theorem resetFull : Obligations.ResetFull := by
  unfold Obligations.ResetFull
  refine ⟨fun s tag rest h => ?_, fun s _ hasked c hc => ?_, fun s x hhigh hsend hresets => ?_⟩
  · exact whileRunning_dispatch _ h rfl rfl (modeGate_open _ (by decide))
  · exact exec_dispatched_stopped (State.dispatchHead_of_resetAsked hasked) hc
  · refine ⟨{ State.started s.link.rate 1 with pending := s.pending }, ?_, rfl, State.started_atReset .., rfl, rfl, rfl⟩
    rw [exec, execTransmitComplete, whileRunning_high hhigh, hsend]
    exact congrArg _ (if_pos hresets)

/-! ## The laws right after reset -/

/-- The four places of a vector in order. -/
theorem toList_four {α : Type} (v : Vector α 4) : v.toList = [v[0], v[1], v[2], v[3]] := by
  refine List.ext_getElem (by simp) fun i h _ => ?_
  have hi : i < 4 := by simpa using h
  interval_cases i <;> rfl

/-- A screen context right after reset meets its laws and has nothing to release. -/
theorem Screen.reset_law : Screen.reset.Law ∧ Screen.reset.headWaits := by
  refine ⟨⟨by decide, by decide, nofun, by decide, by decide, by decide, fun _ => ⟨rfl, rfl, rfl, rfl, rfl⟩⟩, nofun⟩

/-- A panel right after reset meets its laws. -/
theorem Panel.reset_law : Panel.reset.Law := by
  have htrack (k : Fin 5) : Panel.reset.tracks[k.val] = Track.free := replicate_get _ k
  have hprimary (k : Fin 5) : Panel.reset.tracks[k.val].primary ≠ true := by rw [htrack]; exact Bool.false_ne_true
  exact ⟨by decide, fun _ => htrack, fun j _ hj => absurd hj (hprimary j), fun k hk => absurd hk (hprimary k), nofun,
    by decide, by decide⟩

/-- The sweep law and the coverage of closures ask nothing of an empty cache. -/
theorem State.closuresCovered_of_atRest (h : s.AtRest) (hsweep : s.rcc.sweep = []) (hscan : s.rcc.scan = none) :
    s.ClosuresCovered := by
  have hinvalid (e : Fin 512) : ¬ (s.rcc.at e).valid = true := by
    obtain ⟨-, -, hv, -⟩ := h
    rw [hv e]
    exact Bool.false_ne_true
  exact ⟨h.restsOutsideService, by simp [State.SweepLaw, hsweep, hscan], fun e he => absurd he (hinvalid e),
    fun e _ _ _ _ _ he => absurd he (hinvalid e)⟩

/-- Settles O4. -/
theorem lawsHoldAtReset : Obligations.LawsHoldAtReset := by
  have hrest : State.reset.AtRest := State.started_atRest 0 0 []
  have hinvalid (e : Fin 512) : ¬ (State.reset.rcc.at e).valid = true := by
    obtain ⟨-, -, hv, -⟩ := hrest
    rw [hv e]
    exact Bool.false_ne_true
  have hscreen (i : Fin 4) : State.reset.screens[i.val] = Screen.reset := replicate_get _ i
  have hpanel (p : Fin 4) : State.reset.panels[p.val] = Panel.reset := replicate_get _ p
  have hunit (u : Fin 2) : State.reset.search.units[u.val] = SearchUnit.idle := replicate_get _ u
  refine ⟨hrest.restsOutsideService, State.frozenHolds_of_not_frozen nofun rfl, State.started_countsRight 0 0 [],
    ⟨fun u => ?_, List.nodup_nil, nofun⟩, ⟨fun e _ he => absurd he (hinvalid e), fun e he => absurd he (hinvalid e)⟩,
    State.closuresCovered_of_atRest hrest rfl rfl, fun i => ?_, fun i => ?_, ?_, ?_, ?_⟩
  · rw [hunit u]
    exact ⟨List.Pairwise.nil, List.nodup_nil, nofun⟩
  · rw [hscreen i]
    exact Screen.reset_law.1
  · rw [hscreen i]
    exact Screen.reset_law.2
  · exact ⟨⟨[(.reports, startedReport 0)], rfl, rfl, List.pairwise_singleton ..⟩,
      fun a ha i n hn => by rw [List.mem_singleton.mp ha] at hn; cases hn⟩
  · exact ⟨rfl, by decide⟩
  · refine ⟨⟨nofun, nofun⟩, fun p => ?_, rfl, by decide, by decide⟩
    rw [hpanel p]
    exact Panel.reset_law

/-! ## STATE_GET (02 R36) -/

/-- The panel flags byte, bit 2p BAD_FRAME and bit 2p + 1 OVER_CONTACT of panel p. -/
theorem panelFlags_eq (ps : Vector Panel 4) : panelFlags ps =
    BitVec.ofNat 8 (ps[0].badFrame.toNat + 2 * ps[0].overContact.toNat + 4 * ps[1].badFrame.toNat
      + 8 * ps[1].overContact.toNat + 16 * ps[2].badFrame.toNat + 32 * ps[2].overContact.toNat
      + 64 * ps[3].badFrame.toNat + 128 * ps[3].overContact.toNat) := by
  rw [panelFlags, toList_four, flagsByte]
  congr 1
  simp only [List.flatMap_cons, List.flatMap_nil, List.append_nil, List.cons_append, List.nil_append, List.foldr_cons,
    List.foldr_nil]
  omega

/-- Settles O14. -/
theorem stateGet : Obligations.StateGet := by
  unfold Obligations.StateGet
  intro s tag rest h
  have hgate : modeGate s.mod.mode 0x01 = true := by cases s.mod.mode <;> rfl
  refine (whileRunning_dispatch _ h rfl rfl hgate).trans ?_
  have hreply : (s.taken rest).stateReply = [0x00, 0x40, 0x11, 0x01, s.mod.mode.code] ++ le 8 s.mod.label.toNat
      ++ le 2 s.map.waypoints.length ++ le 2 s.map.segments.length ++ le 2 s.dir.listings.length
      ++ le 2 s.map.closedCount ++ le 2 s.map.generation.toNat
      ++ le 2 (s.rcc.entries.toList.countP fun e => e.valid)
      ++ [BitVec.ofNat 8 s.link.overrun.toNat, panelFlags s.panels] := by
    simp [State.stateReply, le, ResultCode.code, linkFlags, flagsByte, State.taken, labelBytes, State.waypointCount,
      State.segmentCount, State.listingCount, CacheState.validCount]
    decide
  rw [hreply, panelFlags_eq]
  rfl

/-! ## The transmit arbiter (11 R187) -/

/-- A queue's head is blocked just where it is a released result behind an earlier one of its screen. -/
theorem blocked_eq_true_iff (h : OutItem) (other : List OutItem) : blocked h other = true ↔ h.BlockedBy other := by
  unfold blocked OutItem.BlockedBy
  cases hr : h.release with
  | none => simp
  | some place =>
    obtain ⟨i, n⟩ := place
    simp only [List.any_eq_true, Option.some.injEq, Prod.mk.injEq]
    constructor
    · rintro ⟨x, hx, hlt⟩
      cases hxr : x.release with
      | none => simp [hxr] at hlt
      | some place' =>
        obtain ⟨j, m⟩ := place'
        obtain ⟨rfl, hmn⟩ : j = i ∧ m < n := by simpa [hxr] using hlt
        exact ⟨j, n, ⟨rfl, rfl⟩, x, hx, m, hxr, hmn⟩
    · rintro ⟨j, k, ⟨rfl, rfl⟩, x, hx, m, hxr, hmn⟩
      exact ⟨x, hx, by simp [hxr, hmn]⟩

/-- A present head that is not blocked may be sent. -/
theorem sendable_of_not_blocked {queue other t : List OutItem} {h : OutItem} (hq : queue = h :: t)
    (hb : ¬ h.BlockedBy other) : sendable queue other = some (h, t) :=
  sendable_eq_some.mpr ⟨hq, by rwa [← Bool.not_eq_true, blocked_eq_true_iff]⟩

/-- An empty queue and one whose head is blocked have nothing that may be sent. -/
theorem sendable_of_blocked {queue other : List OutItem} (hb : ∀ o, queue.head? = some o → o.BlockedBy other) :
    sendable queue other = none := by
  cases queue with
  | nil => rfl
  | cons h t => rw [sendable, if_pos ((blocked_eq_true_iff h other).mpr (hb h rfl))]

/-- TRANSMIT_START is the arbiter's. -/
theorem exec_transmitStart (hhigh : s.resetLow = false) :
    exec .transmitStart s = .next { s with link := s.link.arbitrate } :=
  whileRunning_high hhigh fun s => s.onLink LinkState.arbitrate

/-- The end of a transmission that is no RESET FULL's reply frees the item's slot. -/
theorem exec_transmitComplete (hhigh : s.resetLow = false) {x : Sending} (hx : s.link.sending = some x)
    (hr : x.resets = false) : exec .transmitComplete s = .next { s with link := s.link.sent x } := by
  rw [exec, execTransmitComplete, whileRunning_high hhigh, hx]
  exact congrArg _ (if_neg (by rw [hr]; exact Bool.false_ne_true))

/-- Settles O11. -/
theorem transmission : Obligations.Transmission := by
  unfold Obligations.Transmission
  rintro s reply report h k q r hhigh rfl rfl
  rw [exec_transmitStart hhigh]
  unfold LinkState.arbitrate
  refine ⟨fun x hx => by rw [hx], fun hsend hreplies hreports => ?_, fun hsend hq hb ho => ?_,
    fun hsend hr hb ho => ?_, fun hsend hq hr hbq hbr => ?_, ?_, fun x hx hresets hqueue => ?_,
    fun x hx hresets hqueue => ?_⟩
  · rw [hsend, hreplies, hreports]
    rfl
  · rw [hsend, sendable_of_not_blocked hq hb, sendable_of_blocked ho]
    rfl
  · rw [hsend, sendable_of_not_blocked hr hb, sendable_of_blocked ho]
    rfl
  · rw [hsend, sendable_of_not_blocked hq hbq, sendable_of_not_blocked hr hbr]
    constructor
    · intro hcls
      have hstarted : k.isStarted = false := decide_eq_false hcls
      simp only [hstarted, and_true]
      split <;> rfl
    · intro hcls
      have hstarted : k.isStarted = true := decide_eq_true hcls
      simp only [hstarted, Bool.true_eq_false, and_false, if_false]
      rfl
  · simp [OutItem.bytes, rawFrame, frameCheck, checkedBytes]
  · rw [exec_transmitComplete hhigh hx hresets, LinkState.sent, hqueue]
  · rw [exec_transmitComplete hhigh hx hresets, LinkState.sent, hqueue]

end
end Sys2Proof.Machine
end

section
/-! PROOFS. MAP_COMMIT, the map check and its findings (02 R27 to R34). -/

namespace Sys2Proof.Machine

/-! ## MAP_COMMIT and the end of the check (02 R27, R33, R34) -/

/-- Settles O17. -/
theorem mapCommit : Obligations.MapCommit := by
  unfold Obligations.MapCommit
  refine ⟨fun s tag p rest h hlen hm => ?_, fun s c hhigh hm hc hnone => ?_, fun s c hhigh hm hc hsome => ?_⟩
  · have hlabel : field p 0 8 = ofLe p := by rw [field, List.drop_zero, List.take_of_length_le hlen.le]
    rw [← hlabel]
    exact whileRunning_dispatch _ h rfl (by rw [hlen]; rfl) (by rw [hm]; rfl)
  · have hend : s.endCheck = s.commitPasses c := by rw [State.endCheck, hm, hc, hnone]; rfl
    rw [exec, execMapCheckEnd, whileRunning_high hhigh, hend]
    rfl
  · have hend : s.endCheck = s.commitFails c s.allFindings := by
      rw [State.endCheck, hm, hc]
      exact if_neg fun he => hsome (List.isEmpty_iff.mp he)
    rw [exec, execMapCheckEnd, whileRunning_high hhigh, hend, Nat.min_comm, ← List.length_take]
    rfl

/-! ## The order of the findings (02 R32) -/

/-- The order of findings: by pass, then by index, then by test. -/
def Finding.Before (a b : Finding) : Prop :=
  a.kind.pass < b.kind.pass ∨ (a.kind.pass = b.kind.pass
    ∧ (a.index < b.index ∨ (a.index = b.index ∧ a.kind.code.toNat < b.kind.code.toNat)))

/-- A test that fails gives its one finding. -/
theorem mem_finding {x : Finding} {fails : Bool} {k : FindingKind} {i : Nat} :
    x ∈ finding fails k i ↔ fails = true ∧ x = { kind := k, index := i } := by
  cases fails <;> simp [finding]

/-- A test gives no two findings. -/
theorem pairwise_finding (fails : Bool) (k : FindingKind) (i : Nat) : (finding fails k i).Pairwise Finding.Before := by
  cases fails <;> simp [finding]

/-- The findings of one pass over things in increasing order are in order, where those of each thing are. -/
theorem pairwise_flatMap_pass {α : Type} {l : List α} {index : α → Nat} {f : α → List Finding} {pass : Nat}
    (hl : l.Pairwise fun a b => index a < index b) (hf : ∀ a, ∀ x ∈ f a, x.kind.pass = pass ∧ x.index = index a)
    (hp : ∀ a, (f a).Pairwise Finding.Before) : (l.flatMap f).Pairwise Finding.Before := by
  rw [List.pairwise_flatMap]
  refine ⟨fun a _ => hp a, hl.imp fun {a b} hab x hx y hy => ?_⟩
  obtain ⟨hxp, hxi⟩ := hf a x hx
  obtain ⟨hyp, hyi⟩ := hf b y hy
  exact .inr ⟨hxp.trans hyp.symm, .inl (by rw [hxi, hyi]; exact hab)⟩

section
variable (s : State)

/-- The findings of a segment record are of the second pass and carry its index. -/
theorem State.checkSegment_pass (i : Nat) : ∀ x ∈ s.checkSegment i, x.kind.pass = 2 ∧ x.index = i := by
  intro x hx
  simp only [State.checkSegment, List.mem_append, mem_finding] at hx
  obtain ((⟨-, rfl⟩ | ⟨-, rfl⟩) | ⟨-, rfl⟩) | ⟨-, rfl⟩ := hx <;> exact ⟨rfl, rfl⟩

/-- The findings of a listing record are of the third pass and carry its index. -/
theorem State.checkListing_pass (i : Nat) : ∀ x ∈ s.checkListing i, x.kind.pass = 3 ∧ x.index = i := by
  intro x hx
  simp only [State.checkListing, List.mem_append, mem_finding] at hx
  obtain (⟨-, rfl⟩ | ⟨-, rfl⟩) | ⟨-, rfl⟩ := hx <;> exact ⟨rfl, rfl⟩

/-- The finding of a screen is of the fourth pass and carries its number. -/
theorem State.checkScreen_pass (i : Fin 4) : ∀ x ∈ s.checkScreen i, x.kind.pass = 4 ∧ x.index = i.val := by
  intro x hx
  obtain ⟨-, rfl⟩ := mem_finding.mp hx
  exact ⟨rfl, rfl⟩

/-- Findings of the tests of one record, in the order of their kinds' codes. -/
theorem pairwise_append_finding {l : List Finding} {fails : Bool} {k : FindingKind} {i : Nat}
    (hl : l.Pairwise Finding.Before)
    (hk : ∀ x ∈ l, x.kind.pass = k.pass ∧ x.index = i ∧ x.kind.code.toNat < k.code.toNat) :
    (l ++ finding fails k i).Pairwise Finding.Before := by
  refine List.pairwise_append.mpr ⟨hl, pairwise_finding .., fun x hx y hy => ?_⟩
  obtain ⟨-, rfl⟩ := mem_finding.mp hy
  obtain ⟨hpass, hindex, hcode⟩ := hk x hx
  exact .inr ⟨hpass, .inr ⟨hindex, hcode⟩⟩

/-- The findings of a segment record are in order. -/
theorem State.checkSegment_pairwise (i : Nat) : (s.checkSegment i).Pairwise Finding.Before := by
  refine pairwise_append_finding (pairwise_append_finding (pairwise_append_finding (pairwise_finding ..) ?_) ?_) ?_ <;>
    intro x hx <;> simp only [List.mem_append, mem_finding] at hx
  · obtain ⟨-, rfl⟩ := hx
    exact ⟨rfl, rfl, by simp [FindingKind.code]⟩
  · obtain ⟨-, rfl⟩ | ⟨-, rfl⟩ := hx <;> exact ⟨rfl, rfl, by simp [FindingKind.code]⟩
  · obtain (⟨-, rfl⟩ | ⟨-, rfl⟩) | ⟨-, rfl⟩ := hx <;> exact ⟨rfl, rfl, by simp [FindingKind.code]⟩

/-- The findings of a listing record are in order. -/
theorem State.checkListing_pairwise (i : Nat) : (s.checkListing i).Pairwise Finding.Before := by
  refine pairwise_append_finding (pairwise_append_finding (pairwise_finding ..) ?_) ?_ <;>
    intro x hx <;> simp only [List.mem_append, mem_finding] at hx
  · obtain ⟨-, rfl⟩ := hx
    exact ⟨rfl, rfl, by simp [FindingKind.code]⟩
  · obtain ⟨-, rfl⟩ | ⟨-, rfl⟩ := hx <;> exact ⟨rfl, rfl, by simp [FindingKind.code]⟩

/-- The findings of all passes are in order. -/
theorem State.allFindings_pairwise : s.allFindings.Pairwise Finding.Before := by
  have hempty : ∀ x ∈ s.checkEmpty, x.kind.pass = 1 := by
    intro x hx
    obtain ⟨-, rfl⟩ := mem_finding.mp hx
    rfl
  have hpasses {l : List Finding} {α : Type} {t : List α} {f : α → List Finding} {pass : Nat}
      (hl : ∀ x ∈ l, x.kind.pass < pass) (hf : ∀ a, ∀ x ∈ f a, x.kind.pass = pass) :
      ∀ x ∈ l, ∀ y ∈ t.flatMap f, x.Before y := by
    intro x hx y hy
    obtain ⟨a, -, hya⟩ := List.mem_flatMap.mp hy
    exact .inl (by rw [hf a y hya]; exact hl x hx)
  have hbelow {l : List Finding} {α : Type} {t : List α} {f : α → List Finding} {pass : Nat}
      (hl : ∀ x ∈ l, x.kind.pass < pass) (hf : ∀ a, ∀ x ∈ f a, x.kind.pass = pass) :
      ∀ x ∈ l ++ t.flatMap f, x.kind.pass < pass + 1 := by
    intro x hx
    obtain hx | hx := List.mem_append.mp hx
    · exact (hl x hx).trans (Nat.lt_succ_self pass)
    · obtain ⟨a, -, hxa⟩ := List.mem_flatMap.mp hx
      exact (hf a x hxa).trans_lt (Nat.lt_succ_self pass)
  have hsegment := fun i x hx => (s.checkSegment_pass i x hx).1
  have hlisting := fun i x hx => (s.checkListing_pass i x hx).1
  have hscreen := fun i x hx => (s.checkScreen_pass i x hx).1
  have h2 : ∀ x ∈ s.checkEmpty, x.kind.pass < 2 := fun x hx => by rw [hempty x hx]; decide
  have h3 := hbelow (t := List.range s.segmentCount) h2 hsegment
  have h4 := hbelow (t := List.range s.listingCount) h3 hlisting
  unfold State.allFindings
  refine List.pairwise_append.mpr ⟨List.pairwise_append.mpr ⟨List.pairwise_append.mpr ⟨pairwise_finding .., ?_,
    hpasses h2 hsegment⟩, ?_, hpasses h3 hlisting⟩, ?_, hpasses h4 hscreen⟩
  · exact pairwise_flatMap_pass (index := id) List.pairwise_lt_range s.checkSegment_pass s.checkSegment_pairwise
  · exact pairwise_flatMap_pass (index := id) List.pairwise_lt_range s.checkListing_pass s.checkListing_pairwise
  · exact pairwise_flatMap_pass (index := Fin.val) (by decide) s.checkScreen_pass fun i => pairwise_finding ..

/-! ## The tests that fail (02 R28 to R31) -/

/-- A finding of the check is one of its four passes. -/
theorem State.mem_allFindings (x : Finding) : x ∈ s.allFindings ↔
    x ∈ s.checkEmpty ∨ (x.index < s.segmentCount ∧ x ∈ s.checkSegment x.index)
      ∨ (x.index < s.listingCount ∧ x ∈ s.checkListing x.index) ∨ ∃ c : Fin 4, x ∈ s.checkScreen c := by
  have hrange (n : Nat) {f : Nat → List Finding} (hf : ∀ i, ∀ y ∈ f i, y.index = i) :
      (∃ i ∈ List.range n, x ∈ f i) ↔ x.index < n ∧ x ∈ f x.index := by
    constructor
    · rintro ⟨i, hi, hx⟩
      rw [hf i x hx]
      exact ⟨List.mem_range.mp hi, hx⟩
    · exact fun ⟨hi, hx⟩ => ⟨_, List.mem_range.mpr hi, hx⟩
  have hfour : (∃ c ∈ four, x ∈ s.checkScreen c) ↔ ∃ c, x ∈ s.checkScreen c := by
    refine exists_congr fun c => and_iff_right ?_
    fin_cases c <;> decide
  simp only [State.allFindings, List.mem_append, List.mem_flatMap, hfour,
    hrange _ fun i y hy => (s.checkSegment_pass i y hy).2, hrange _ fun i y hy => (s.checkListing_pass i y hy).2,
    or_assoc]

/-- A key in which every 0 is followed by zeros alone has no gap (02 R30). -/
theorem gapInKey_eq_false {l : List Byte} : gapInKey l = false ↔ l.Pairwise fun a b => a = 0 → b = 0 := by
  induction l with
  | nil => simp [gapInKey]
  | cons b bs ih =>
    rw [gapInKey, List.pairwise_cons]
    by_cases hb : b = 0
    · rw [if_pos hb, List.any_eq_false]
      have hzero : (∀ c ∈ bs, ¬ decide (c ≠ 0) = true) ↔ ∀ c ∈ bs, c = 0 := by simp
      rw [hzero]
      exact ⟨fun h => ⟨fun c hc _ => h c hc, List.pairwise_iff_forall_sublist.mpr fun {x y} hxy _ =>
        h y (hxy.subset (by simp))⟩, fun h c hc => h.1 c hc hb⟩
    · rw [if_neg hb, ih]
      exact ⟨fun h => ⟨fun _ _ h0 => absurd h0 hb, h⟩, fun h => h.2⟩

/-- A gap of a key, by its places (02 R30). -/
theorem gapInKey_toList (k : Vector Byte 16) :
    gapInKey k.toList = true ↔ ∃ m n : Fin 16, m < n ∧ k[m.val] = 0 ∧ k[n.val] ≠ 0 := by
  rw [← Bool.not_eq_false, gapInKey_eq_false, List.pairwise_iff_getElem]
  constructor
  · intro h
    by_contra hnone
    refine h fun i j hi hj hij h0 => ?_
    have hi : i < 16 := by simpa using hi
    have hj : j < 16 := by simpa using hj
    by_contra hne
    exact hnone ⟨⟨i, hi⟩, ⟨j, hj⟩, hij, by simpa using h0, by simpa using hne⟩
  · rintro ⟨m, n, hmn, h0, hne⟩ h
    refine hne ?_
    have := h m.val n.val (by simp) (by simp) hmn (by simpa using h0)
    simpa using this

/-- The KEY_SYMBOL test fails by its three cases (02 R30). -/
theorem badKey_eq_true (k : Vector Byte 16) : badKey k = true ↔
    k[0] = 0 ∨ (∃ b ∈ k.toList, 40 < b.toNat) ∨ ∃ m n : Fin 16, m < n ∧ k[m.val] = 0 ∧ k[n.val] ≠ 0 := by
  simp only [← gapInKey_toList, badKey, Bool.or_eq_true, decide_eq_true_eq, List.any_eq_true, or_assoc]

/-- An endpoint is bad just where one lies at or beyond the waypoint count (02 R29). -/
theorem State.badEndpoint_eq_true (g : Segment) :
    s.badEndpoint g = true ↔ s.waypointCount ≤ g.src.toNat ∨ s.waypointCount ≤ g.dst.toNat := by
  simp [State.badEndpoint]

/-- The kinds that stay on a level and those that change it (02 R29). -/
theorem badKindLevel_eq_true (g : Segment) : badKindLevel g = true ↔
    (g.kind ∈ [SegKind.walk, .door, .travelator, .outdoor] ∧ g.delta ≠ 0)
      ∨ (g.kind ∈ [SegKind.escalator, .stairs, .lift] ∧ g.delta = 0) := by
  unfold badKindLevel
  cases g.kind <;> simp

/-- The entrances test fails by its three cases (02 R30). -/
theorem State.badEntrances_eq_true (l : Listing) : s.badEntrances l = true ↔
    l.entranceCount.toNat = 0 ∨ 4 < l.entranceCount.toNat
      ∨ ∃ e ∈ l.entrances.toList.take l.entranceCount.toNat, s.waypointCount ≤ e.toNat := by
  simp [State.badEntrances, Listing.usedEntrances, or_assoc]

/-- An endpoint is good just where both lie below the waypoint count (02 R29). -/
theorem State.badEndpoint_eq_false (g : Segment) :
    s.badEndpoint g = false ↔ g.src.toNat < s.waypointCount ∧ g.dst.toNat < s.waypointCount := by
  simp [State.badEndpoint]

/-- The difference of two levels is that of their codes (01 R2). -/
theorem Waypoint.level_sub (a b : Waypoint) : a.level - b.level = (a.levelCode.toNat : Int) - b.levelCode.toNat := by
  simp [Waypoint.level]

/-- The finding of the first pass. -/
theorem State.mem_checkEmpty (x : Finding) :
    x ∈ s.checkEmpty ↔ s.waypointCount = 0 ∧ x = { kind := .emptyMap, index := 0 } := by
  simp [State.checkEmpty, mem_finding]

/-- The findings of a segment record. -/
theorem State.mem_checkSegment (x : Finding) (i : Nat) : x ∈ s.checkSegment i ↔
    (s.badEndpoint (s.segment i) = true ∧ x = { kind := .segmentEndpoint, index := i })
      ∨ ((0 < i ∧ (s.segment i).src.toNat < (s.segment (i - 1)).src.toNat) ∧ x = { kind := .segmentOrder, index := i })
      ∨ ((s.badEndpoint (s.segment i) = false
          ∧ (s.waypoint (s.segment i).dst.toNat).level - (s.waypoint (s.segment i).src.toNat).level
            ≠ (s.segment i).delta.toInt) ∧ x = { kind := .levelMismatch, index := i })
      ∨ (badKindLevel (s.segment i) = true ∧ x = { kind := .kindLevel, index := i }) := by
  simp [State.checkSegment, mem_finding]

/-- The findings of a listing record. -/
theorem State.mem_checkListing (x : Finding) (i : Nat) : x ∈ s.checkListing i ↔
    (s.badEntrances (s.listing i) = true ∧ x = { kind := .entranceInvalid, index := i })
      ∨ (badKey (s.listing i).key = true ∧ x = { kind := .keySymbol, index := i })
      ∨ ((0 < i ∧ badKey (s.listing i).key = false ∧ badKey (s.listing (i - 1)).key = false
          ∧ sortsBefore (keySymbols (s.listing i).key) (keySymbols (s.listing (i - 1)).key) = true)
        ∧ x = { kind := .keyOrder, index := i }) := by
  simp [State.checkListing, mem_finding, and_assoc]

/-- The finding of a screen. -/
theorem State.mem_checkScreen (x : Finding) (c : Fin 4) : x ∈ s.checkScreen c ↔
    (s.screens[c.val].enabled = true ∧ s.waypointCount ≤ s.screens[c.val].origin.toNat)
      ∧ x = { kind := .originInvalid, index := c.val } := by
  simp [State.checkScreen, mem_finding]

/-- Each kind of finding by its own test. -/
theorem State.mem_allFindings_iff (k : FindingKind) (i : Nat) : { kind := k, index := i } ∈ s.allFindings ↔
    match k with
    | .emptyMap => s.waypointCount = 0 ∧ i = 0
    | .segmentEndpoint => i < s.segmentCount ∧ s.badEndpoint (s.segment i) = true
    | .segmentOrder => i < s.segmentCount ∧ 0 < i ∧ (s.segment i).src.toNat < (s.segment (i - 1)).src.toNat
    | .levelMismatch => i < s.segmentCount ∧ s.badEndpoint (s.segment i) = false
        ∧ (s.waypoint (s.segment i).dst.toNat).level - (s.waypoint (s.segment i).src.toNat).level
          ≠ (s.segment i).delta.toInt
    | .kindLevel => i < s.segmentCount ∧ badKindLevel (s.segment i) = true
    | .entranceInvalid => i < s.listingCount ∧ s.badEntrances (s.listing i) = true
    | .keySymbol => i < s.listingCount ∧ badKey (s.listing i).key = true
    | .keyOrder => i < s.listingCount ∧ 0 < i ∧ badKey (s.listing i).key = false
        ∧ badKey (s.listing (i - 1)).key = false
        ∧ sortsBefore (keySymbols (s.listing i).key) (keySymbols (s.listing (i - 1)).key) = true
    | .originInvalid => ∃ c : Fin 4, (s.screens[c.val].enabled = true
        ∧ s.waypointCount ≤ s.screens[c.val].origin.toNat) ∧ i = c.val := by
  rw [State.mem_allFindings]
  simp only [State.mem_checkEmpty, State.mem_checkSegment, State.mem_checkListing, State.mem_checkScreen,
    Finding.mk.injEq]
  cases k <;> simp

end

/-- Settles O18: the order by the passes, and each finding by the test that gives it. -/
theorem findingsAreTheFailedTests : Obligations.FindingsAreTheFailedTests := by
  unfold Obligations.FindingsAreTheFailedTests
  refine fun s => ⟨s.allFindings_pairwise, fun k i => ?_⟩
  cases k with
  | emptyMap => rw [State.mem_allFindings_iff, and_comm]
  | segmentEndpoint => rw [State.mem_allFindings_iff, State.badEndpoint_eq_true]
  | segmentOrder => rw [State.mem_allFindings_iff]
  | levelMismatch =>
    rw [State.mem_allFindings_iff, State.badEndpoint_eq_false, Waypoint.level_sub, and_assoc]
  | kindLevel => rw [State.mem_allFindings_iff, badKindLevel_eq_true]
  | entranceInvalid => rw [State.mem_allFindings_iff, State.badEntrances_eq_true]
  | keySymbol => rw [State.mem_allFindings_iff, badKey_eq_true]
  | keyOrder =>
    simp only [State.mem_allFindings_iff]
    refine and_congr_right fun hi => and_congr_right fun _ => ?_
    have hbefore : i - 1 < s.listingCount := by omega
    simp only [hi, hbefore, true_and, Bool.not_eq_true]
  | originInvalid =>
    rw [State.mem_allFindings_iff]
    exact exists_congr fun c => and_comm

end Sys2Proof.Machine
end

section
/-! PROOFS. MODE_SET: what changes no mode, the entry to FROZEN, and the return to SERVICE (02 R23, R24, 04 R56). -/

namespace Sys2Proof.Machine

/-! ## What the engines complete -/

section
variable {s : State}

/-- What the composer completes stands behind the replies that wait. -/
theorem State.takePlaces_replies (l : List (Fin 2)) : s.link.replies <+: (s.takePlaces l).link.replies := by
  induction l generalizing s with
  | nil => exact List.prefix_rfl
  | cons v vs ih =>
    obtain h | ⟨w, h, -, -, hreplies⟩ := s.takePlaces_cons_cases v vs <;> rw [h]
    exact hreplies.trans ih

/-- What the directory completes stands behind the replies that wait. -/
theorem State.takeQueries_replies (l : List Query) : s.link.replies <+: (s.takeQueries l).link.replies := by
  induction l generalizing s with
  | nil => exact List.prefix_rfl
  | cons q qs ih =>
    unfold State.takeQueries
    split
    · exact List.prefix_rfl
    · simp only
      split
      · exact ih (s := { s with dir := { s.dir with scan := some (scanOf q s.dir.listings) } })
      · exact (State.complete_replies ..).trans ih

/-- What the engines complete stands behind the replies that wait. -/
theorem State.serve_replies : s.link.replies <+: s.serve.link.replies := by
  have hunits : s.serveComposer.giveUnits.link.replies = s.serveComposer.link.replies := by simp
  exact (State.takePlaces_replies s.rco.queue).trans (hunits ▸ State.takeQueries_replies _)

/-! ## MODE_SET (02 R23) -/

/-- Outside CHECKING a MODE_SET answers what its operation gives once the frame has left the queue. -/
theorem exec_modeSet {tag target : Byte} {rest : List InFrame} (h : s.headIs 0x02 tag [target] rest)
    (hm : s.mod.mode ≠ .checking) : exec .modeSet s = .next ((s.taken rest).modeSet tag target.toNat) := by
  have hgate : modeGate s.mod.mode 0x02 = true := by
    revert hm
    cases s.mod.mode <;> decide
  rw [← field_cons_zero target []]
  exact whileRunning_dispatch _ h rfl rfl hgate

/-- The MODE_SETs that change no mode, with their results (02 R23). -/
def unchangedModeSets : List (Mode × Nat × ResultCode) :=
  [(.loading, 0, .ok), (.loading, 2, .wrongMode), (.loading, 3, .wrongMode), (.service, 2, .ok), (.frozen, 3, .ok)]

/-- A MODE_SET that changes no mode is answered with its result. -/
theorem State.modeSet_unchanged (tag : Byte) {n : Nat} {r : ResultCode} (h : (s.mod.mode, n, r) ∈ unchangedModeSets) :
    s.modeSet tag n = s.modeReply tag r := by
  simp only [unchangedModeSets, List.mem_cons, Prod.mk.injEq, List.not_mem_nil, or_false] at h
  obtain ⟨hm, rfl, rfl⟩ | ⟨hm, rfl, rfl⟩ | ⟨hm, rfl, rfl⟩ | ⟨hm, rfl, rfl⟩ | ⟨hm, rfl, rfl⟩ := h <;>
    simp only [State.modeSet, hm]

/-- A MODE_SET of CHECKING or of no mode is refused (02 R23). -/
theorem State.modeSet_badArgument (tag : Byte) {n : Nat} (h : n = 1 ∨ 3 < n) :
    s.modeSet tag n = s.modeReply tag .badArgument := by
  unfold State.modeSet
  split
  case h_10 => rfl
  all_goals omega

/-! ## The entry to FROZEN (02 R24) -/

/-- Some unit is RUNNING. -/
theorem State.anyRunning_eq_true : s.anyRunning = true ↔ ∃ u : Fin 2, s.search.units[u.val].state = .running := by
  simp only [State.anyRunning, List.any_eq_true, decide_eq_true_eq]
  constructor
  · rintro ⟨v, hv, hrun⟩
    obtain ⟨i, hi, rfl⟩ := Vector.mem_iff_getElem.mp (Vector.mem_toList_iff.mp hv)
    exact ⟨⟨i, hi⟩, hrun⟩
  · exact fun ⟨u, hu⟩ => ⟨_, Vector.mem_toList_iff.mpr (Vector.getElem_mem u.isLt), hu⟩

/-- The MODE_SET FROZEN that waits goes on waiting while a unit is RUNNING. -/
theorem State.answerFreezing_waits (h : ∃ u : Fin 2, s.search.units[u.val].state = .running) :
    s.answerFreezing = s := by
  unfold State.answerFreezing
  split
  · rfl
  · exact if_pos (State.anyRunning_eq_true.mpr h)

/-- The MODE_SET FROZEN that waits is answered once no unit is RUNNING. -/
theorem State.answerFreezing_answers {tag : Byte} (hf : s.mod.freezing = some tag)
    (h : ∀ u : Fin 2, s.search.units[u.val].state ≠ .running) :
    s.answerFreezing = ({ s with mod := { s.mod with freezing := none } } : State).reply 0x02 tag
      [ResultCode.ok.code, s.mod.mode.code] := by
  have hnone : ¬ s.anyRunning = true := fun hrun => by
    obtain ⟨u, hu⟩ := State.anyRunning_eq_true.mp hrun
    exact h u hu
  rw [State.answerFreezing, hf]
  exact if_neg hnone

/-- The settle step of a unit in FROZEN takes it out of RUNNING (04 R58, R74, R75). -/
theorem State.endSettle_frozen (hm : s.mod.mode = .frozen) (u : Fin 2) (v : SearchUnit) :
    (s.endSettle u v).search.units[u.val].state ≠ .running := by
  unfold State.endSettle
  split
  · simp [SearchUnit.idle]
  · split
    · simp
    · simp

/-- The settle step of a unit leaves the other unit. -/
theorem State.endSettle_startsNone {u v : Fin 2} (huv : u ≠ v) (hv : s.search.units[v.val].state ≠ .running)
    (x : SearchUnit) : (s.endSettle u x).search.units[v.val].state ≠ .running := by
  have hother (w : State) (y : SearchUnit) (hw : w.search.units = s.search.units) :
      (w.onUnit u fun _ => y).search.units[v.val].state ≠ .running := by
    rw [State.onUnit_get, if_neg (Ne.symm huv), hw]
    exact hv
  unfold State.endSettle
  split
  · exact hother s _ rfl
  · split
    · exact hother _ _ rfl
    · split <;> exact hother s _ rfl

/-! ## Grants (04 R56) -/

/-- Where no entry waits none is taken. -/
theorem takeOldest_of_noneWaits {u : Fin 2} {queue : List SearchEntry} (h : NoneWaits queue) :
    takeOldest u queue = none := by
  induction queue with
  | nil => rfl
  | cons e es ih =>
    cases hu : e.unit with
    | none => exact absurd hu (h e (List.mem_cons_self ..))
    | some v => simp only [takeOldest, hu, ih fun x hx => h x (List.mem_cons_of_mem _ hx), Option.map_none]

/-- A grant takes the oldest WAITING entry. -/
theorem takeOldest_of_granted {u : Fin 2} {queue after : List SearchEntry} {e : SearchEntry}
    (h : Granted u queue e after) : takeOldest u queue = some (e.key, after) := by
  obtain ⟨older, younger, rfl, holder, hunit, rfl⟩ := h
  induction older with
  | nil => simp only [List.nil_append, takeOldest, hunit]
  | cons x xs ih =>
    cases hu : x.unit with
    | none => exact absurd hu (holder x (List.mem_cons_self ..))
    | some v =>
      simp only [List.cons_append, takeOldest, hu, ih fun y hy => holder y (List.mem_cons_of_mem _ hy), Option.map_some]

/-- A unit that is not IDLE takes nothing. -/
theorem State.giveUnit_of_busy {u : Fin 2} (h : s.search.units[u.val].state ≠ .idle) : s.giveUnit u = s :=
  if_neg fun hboth => h hboth.2

/-- A unit takes nothing where no entry waits. -/
theorem State.giveUnit_of_noneWaits (u : Fin 2) (h : NoneWaits s.search.queue) : s.giveUnit u = s := by
  rw [State.giveUnit, takeOldest_of_noneWaits h, ite_self]

/-- A unit that is IDLE in SERVICE takes the oldest WAITING entry and begins its search. -/
theorem State.giveUnit_of_granted {u : Fin 2} {e : SearchEntry} {after : List SearchEntry}
    (hm : s.mod.mode = .service) (hu : s.search.units[u.val].state = .idle) (h : Granted u s.search.queue e after) :
    s.giveUnit u =
      { s with search := { queue := after, units := s.search.units.set u.val (s.begun e.key) } } := by
  rw [State.giveUnit, if_pos ⟨hm, hu⟩, takeOldest_of_granted h]
  rfl

/-- What the two units take of a queue in SERVICE, RSU0 first: the queue and the units after it. -/
theorem State.giveUnits_of_grants {queue : List SearchEntry} {units : Vector SearchUnit 2} (hm : s.mod.mode = .service)
    (h : ((NoneWaits s.search.queue ∨ ∀ u : Fin 2, s.search.units[u.val].state ≠ .idle)
        ∧ queue = s.search.queue ∧ units = s.search.units)
      ∨ (∃ (u : Fin 2) (e : SearchEntry), s.search.units[u.val].state = .idle
        ∧ (∀ v : Fin 2, v ≠ u → s.search.units[v.val].state ≠ .idle) ∧ Granted u s.search.queue e queue
        ∧ units = s.search.units.set u.val (s.begun e.key))
      ∨ ((∀ u : Fin 2, s.search.units[u.val].state = .idle) ∧ ∃ e, Granted 0 s.search.queue e queue ∧ NoneWaits queue
        ∧ units = s.search.units.set 0 (s.begun e.key))
      ∨ ((∀ u : Fin 2, s.search.units[u.val].state = .idle) ∧ ∃ e f between, Granted 0 s.search.queue e between
        ∧ Granted 1 between f queue ∧ units = (s.search.units.set 0 (s.begun e.key)).set 1 (s.begun f.key))) :
    s.giveUnits = { s with search := { queue := queue, units := units } } := by
  unfold State.giveUnits
  obtain ⟨hnone | hbusy, rfl, rfl⟩ | ⟨u, e, hidle, hbusy, hgrant, rfl⟩ | ⟨hidle, e, hgrant, hnone, rfl⟩
    | ⟨hidle, e, f, between, hgrant, hgrant', rfl⟩ := h
  · rw [State.giveUnit_of_noneWaits 0 hnone, State.giveUnit_of_noneWaits 1 hnone]
  · rw [State.giveUnit_of_busy (hbusy 0), State.giveUnit_of_busy (hbusy 1)]
  · obtain rfl | rfl : u = 0 ∨ u = 1 := by omega
    · rw [State.giveUnit_of_granted hm hidle hgrant]
      exact State.giveUnit_of_busy (by simpa using hbusy 1 (by decide))
    · rw [State.giveUnit_of_busy (hbusy 0 (by decide)), State.giveUnit_of_granted hm hidle hgrant]
  · rw [State.giveUnit_of_granted hm (hidle 0) hgrant]
    exact State.giveUnit_of_noneWaits 1 hnone
  · rw [State.giveUnit_of_granted hm (hidle 0) hgrant]
    exact State.giveUnit_of_granted hm (by simpa using hidle 1) hgrant'

/-- A return to SERVICE leaves each IDLE unit IDLE, and makes none IDLE (04 R75). -/
theorem SearchUnit.unfreeze_idle (v : SearchUnit) : v.unfreeze.state = .idle ↔ v.state = .idle := by
  unfold SearchUnit.unfreeze
  split <;> simp_all

/-- The settle step that takes the last unit out of RUNNING in FROZEN answers the MODE_SET that waits, behind what the
composer completes in it (02 R24, log entry 33). -/
theorem exec_settleStep_answers {tag : Byte} {u v : Fin 2} (hhigh : s.resetLow = false) (hm : s.mod.mode = .frozen)
    (hf : s.mod.freezing = some tag) (huv : u ≠ v) (hu : s.search.units[u.val].state = .running)
    (hv : s.search.units[v.val].state ≠ .running) :
    Answers (exec (.settleStep u) s) fun t => t.mod.freezing = none ∧ t.mod.mode = .frozen
      ∧ t.search.units[u.val].state ≠ .running
      ∧ ∃ xs, t.link.replies = s.link.replies ++ xs
          ++ [{ cls := 0x82, tag := tag, payload := [0, 3], release := none, resets := false }] := by
  obtain ⟨w, hw⟩ : ∃ w, w = s.endSettle u (s.settle s.search.units[u.val]) := ⟨_, rfl⟩
  have hwm : w.mod = s.mod := by rw [hw]; simp
  have hquiet (x : Fin 2) : w.serve.search.units[x.val].state ≠ .running := by
    refine State.serve_settles.startsNone (by rw [hwm, hm]; nofun) x ?_
    obtain rfl | rfl : x = u ∨ x = v := by omega
    · rw [hw]
      exact State.endSettle_frozen hm x _
    · rw [hw]
      exact State.endSettle_startsNone huv hv _
  have hreplies : s.link.replies <+: w.serve.link.replies := by
    have hlink : w.link = s.link := by rw [hw]; simp
    exact hlink ▸ State.serve_replies
  have hexec : exec (.settleStep u) s = .next w.serve.answerFreezing := by
    rw [exec, execSettleStep, whileRunning_high hhigh, if_pos hu, hw]
  have hfw : w.serve.mod.freezing = some tag := by simpa [hwm] using hf
  rw [State.answerFreezing_answers hfw hquiet] at hexec
  obtain ⟨xs, hxs⟩ := hreplies
  refine ⟨_, hexec, rfl, by simpa [hwm] using hm, by simpa using hquiet u, xs, ?_⟩
  have hcode : w.serve.mod.mode.code = 3 := by simp [hwm, hm, Mode.code]
  rw [State.reply_link, hxs, hcode]
  rfl

end

/-- Settles O16. -/
theorem modeSetFreezeAndReturn : Obligations.ModeSetFreezeAndReturn := by
  unfold Obligations.ModeSetFreezeAndReturn
  refine ⟨fun s tag target rest h hm => ⟨fun row hrow hmode htarget => ?_, fun htarget => ?_⟩,
    fun s tag rest h hm => ⟨fun hquiet => ?_, fun hrun => ?_⟩, fun s tag _ hf c hc => ?_,
    fun s tag u v hhigh hm hf huv hu hv => ?_, fun s tag rest running queue units h hm hrunning hcases => ?_⟩
  · obtain ⟨r, hcode, hmem⟩ : ∃ r : ResultCode, r.code = row.2.2 ∧ (s.mod.mode, target.toNat, r) ∈ unchangedModeSets := by
      rw [hmode, htarget]
      fin_cases hrow
      exacts [⟨.ok, rfl, by decide⟩, ⟨.wrongMode, rfl, by decide⟩, ⟨.wrongMode, rfl, by decide⟩, ⟨.ok, rfl, by decide⟩,
        ⟨.ok, rfl, by decide⟩]
    rw [exec_modeSet h hm, State.modeSet_unchanged (s := s.taken rest) tag hmem, ← hcode]
    rfl
  · rw [exec_modeSet h hm, State.modeSet_badArgument]
    · rfl
    · exact htarget.imp_left fun ht => by rw [ht]; rfl
  · have hset : (s.taken rest).modeSet tag (3 : Byte).toNat = (s.taken rest).enterFrozen tag := by
      simp only [State.modeSet, State.taken_fields, hm]
      rfl
    obtain ⟨-, -, hfreezing, -⟩ := id h
    have hmod : ({ s.mod with mode := .frozen, freezing := none } : ModState) = { s.mod with mode := .frozen } := by
      rw [← hfreezing]
    rw [exec_modeSet h (by rw [hm]; nofun), hset, State.enterFrozen,
      State.answerFreezing_answers (s := { s.taken rest with mod := _ }) (tag := tag) rfl hquiet, ← hmod]
    rfl
  · have hset : (s.taken rest).modeSet tag (3 : Byte).toNat = (s.taken rest).enterFrozen tag := by
      simp only [State.modeSet, State.taken_fields, hm]
      rfl
    rw [exec_modeSet h (by rw [hm]; nofun), hset, State.enterFrozen, State.answerFreezing_waits (s := { s.taken rest with mod := _ }) hrun]
    rfl
  · exact exec_dispatched_stopped (State.dispatchHead_of_freezing hf) hc
  · exact exec_settleStep_answers hhigh hm hf huv hu hv
  · have hset : (s.taken rest).modeSet tag (2 : Byte).toNat = (s.taken rest).returnToService.modeReply tag .ok := by
      simp only [State.modeSet, State.taken_fields, hm]
      rfl
    have hidle (u : Fin 2) : running[u.val].state = .idle ↔ s.search.units[u.val].state = .idle := by
      rw [hrunning, Vector.getElem_map]
      exact SearchUnit.unfreeze_idle _
    simp only [ne_eq, ← hidle] at hcases
    rw [exec_modeSet h (by rw [hm]; nofun), hset, State.returnToService]
    subst hrunning
    rw [State.giveUnits_of_grants (queue := queue) (units := units) (s := { s.taken rest with mod := _, search := _ }) rfl hcases]
    rfl

end Sys2Proof.Machine
end

section
/-! PROOFS. The results that are due, and what releases and aborts make of them (09 R151, 11 R186, R189, 02 R25, R39). -/

namespace Sys2Proof.Machine

/-! ## What an entry leaves with -/

/-- What marks an entry ABORTED, or leaves it. -/
def MarksAborted (g : Entry → Entry) : Prop := ∀ e, g e = e ∨ g e = e.finish (.bare .aborted)

/-- An ABORTED mark changes neither who asked nor what was asked. -/
theorem Entry.finish_keeps (e : Entry) (r : EntryResult) :
    (e.finish r).id = e.id ∧ (e.finish r).asker = e.asker ∧ (e.finish r).ask = e.ask
      ∧ (e.finish r).ofPanel = e.ofPanel := by
  unfold Entry.finish
  split <;> exact ⟨rfl, rfl, rfl, rfl⟩

/-- An entry marked ABORTED leaves with what it would leave with unmarked, once all work has ended with ABORTED. -/
theorem Entry.leavesWith_finish (i : Fin 4) (e : Entry) :
    (e.finish (.bare .aborted)).leavesWith i 10 = e.leavesWith i 10 := by
  obtain ⟨id, asker, ask, result⟩ := e
  cases result with
  | some r => rfl
  | none => cases ask <;> simp [Entry.finish, Entry.done, Entry.leavesWith, Entry.bytes, routeHeadBytes, emptyMatchBytes,
      ResultCode.code, le]

/-- An entry marked ABORTED leaves as it would leave unmarked. -/
theorem Entry.leavesAt_finish (i : Fin 4) (n : Nat) (e : Entry) :
    (e.finish (.bare .aborted)).leavesAt i 10 n = e.leavesAt i 10 n := by
  obtain ⟨-, hasker, hask, -⟩ := e.finish_keeps (.bare .aborted)
  rw [Entry.leavesAt, hasker, hask, e.leavesWith_finish, Entry.leavesAt]

/-- The report mask takes no notice of a mark. -/
theorem LinkState.discards_finish (l : LinkState) (e : Entry) (r : EntryResult) :
    l.discards (e.finish r) = l.discards e := by
  obtain ⟨-, -, hask, hpanel⟩ := e.finish_keeps r
  rw [LinkState.discards, hask, hpanel, LinkState.discards]

/-- What the entries of a list leave as, the first of them at a place of their screen's release order. -/
def leavingFrom (l : LinkState) (i : Fin 4) (code : Byte) : Nat → List Entry → List (OutQueue × OutItem)
  | _, [] => []
  | n, e :: es => if l.discards e then leavingFrom l i code n es else e.leavesAt i code n :: leavingFrom l i code (n + 1) es

/-- State.leaving, entry by entry. -/
theorem State.leaving_eq (s : State) (i : Fin 4) (code : Byte) (es : List Entry) :
    s.leaving i code es = leavingFrom s.link i code s.screens[i.val].released es := by
  have hfrom (n k : Nat) : ((es.filter fun e => !s.link.discards e).zipIdx k).map
      (fun x => x.1.leavesAt i code (n + x.2)) = leavingFrom s.link i code (n + k) es := by
    induction es generalizing k with
    | nil => rfl
    | cons e es ih =>
      rw [leavingFrom]
      cases hd : s.link.discards e with
      | true => simp [hd, ih]
      | false => simp [hd, ih, Nat.add_assoc]
  exact hfrom _ 0

/-- ABORTED marks change nothing of what leaves. -/
theorem leavingFrom_map (l : LinkState) (i : Fin 4) {g : Entry → Entry} (hg : MarksAborted g) (n : Nat) (es : List Entry) :
    leavingFrom l i 10 n (es.map g) = leavingFrom l i 10 n es := by
  induction es generalizing n with
  | nil => rfl
  | cons e es ih =>
    have hd : l.discards (g e) = l.discards e := by
      obtain h | h := hg e <;> rw [h]
      exact l.discards_finish e _
    have ha : (g e).leavesAt i 10 n = e.leavesAt i 10 n := by
      obtain h | h := hg e <;> rw [h]
      exact e.leavesAt_finish i n
    rw [List.map_cons, leavingFrom, leavingFrom, hd, ha, ih, ih]

/-! ## The results that are due -/

/-- What the outstanding entries of a screen leave as, once all work has ended with ABORTED. -/
def State.due (s : State) (i : Fin 4) : List (OutQueue × OutItem) := s.leaving i 10 s.screens[i.val].outstanding

/-- The items that stand in one outbound queue. -/
def itemsOf (q : OutQueue) (l : List (OutQueue × OutItem)) : List OutItem :=
  (l.filter fun x => decide (x.1 = q)).map (·.2)

/-- The items that are one screen's results. -/
def resultsOf (i : Fin 4) (l : List OutItem) : List OutItem :=
  l.filter fun x => decide (x.release.map (·.1) = some i)

/-- Some outstanding entry's report is discarded under the mask of a kind (11 R189). -/
def State.dueFlag (s : State) (k : MaskKind) : Bool :=
  ([0, 1, 2, 3] : List (Fin 4)).any fun i => s.screens[i.val].outstanding.any fun e =>
    s.link.discards e && decide (e.ask.leavesAs.1 = k)

/-- The pending flags that discarded reports will set. -/
def State.dueFlags (s : State) : BitVec 6 :=
  (if s.dueFlag .route then 0b000100 else 0) ||| (if s.dueFlag .matchList then 0b001000 else 0)

/-- The panel-originated entries of the four screens. -/
def State.panelEntries (s : State) : Nat := (s.screens.toList.map Screen.panelEntries).sum

/-- From one state to another results have left, `xs` as replies and `rs` as reports, and those that are still due are
the rest of those that were. Nothing else of the link and of the sessions has changed. -/
structure State.Releases (t s : State) (xs rs : List OutItem) : Prop where
  link : t.link = { s.link with
    replies := s.link.replies ++ xs, reports := s.link.reports ++ rs, reserved := t.link.reserved
    suppressed := t.link.suppressed }
  screens : ∀ i : Fin 4, t.screens[i.val] = { s.screens[i.val] with
    outstanding := t.screens[i.val].outstanding, released := t.screens[i.val].released }
  results : ∀ x ∈ xs ++ rs, x.release ≠ none
  replies : ∀ i, resultsOf i xs ++ itemsOf .replies (t.due i) = itemsOf .replies (s.due i)
  reports : ∀ i, resultsOf i rs ++ itemsOf .reports (t.due i) = itemsOf .reports (s.due i)
  places : ∀ i : Fin 4, t.screens[i.val].released + (t.due i).length = s.screens[i.val].released + (s.due i).length
  reserved : t.link.reserved - t.panelEntries = s.link.reserved - s.panelEntries
  suppressed : t.link.suppressed ||| t.dueFlags = s.link.suppressed ||| s.dueFlags

section
variable {s t r : State} {xs rs xs' rs' : List OutItem}

/-- Nothing has left. -/
theorem State.Releases.refl (s : State) : s.Releases s [] [] :=
  ⟨by simp, fun _ => rfl, nofun, fun _ => rfl, fun _ => rfl, fun _ => rfl, rfl, rfl⟩

/-- Results of two screens, and of both runs. -/
theorem resultsOf_append (i : Fin 4) (as bs : List OutItem) :
    resultsOf i (as ++ bs) = resultsOf i as ++ resultsOf i bs := List.filter_append ..

/-- Results have left in two runs. -/
theorem State.Releases.trans (h : t.Releases s xs rs) (k : r.Releases t xs' rs') :
    r.Releases s (xs ++ xs') (rs ++ rs') where
  link := by rw [k.link, h.link]; simp
  screens i := by rw [k.screens i, h.screens i]
  results x hx := by
    have hmem : x ∈ xs ++ rs ∨ x ∈ xs' ++ rs' := by
      simp only [List.mem_append] at hx ⊢
      tauto
    exact hmem.elim (h.results x) (k.results x)
  replies i := by rw [resultsOf_append, List.append_assoc, k.replies, h.replies]
  reports i := by rw [resultsOf_append, List.append_assoc, k.reports, h.reports]
  places i := (k.places i).trans (h.places i)
  reserved := k.reserved.trans h.reserved
  suppressed := k.suppressed.trans h.suppressed

/-- Some results have left. -/
def State.Releasing (t s : State) : Prop := ∃ xs rs, t.Releases s xs rs

/-- Nothing has left. -/
theorem State.Releasing.refl (s : State) : s.Releasing s := ⟨_, _, .refl s⟩

/-- Results have left in two runs. -/
theorem State.Releasing.trans (h : t.Releasing s) (k : r.Releasing t) : r.Releasing s := by
  obtain ⟨xs, rs, h⟩ := h
  obtain ⟨xs', rs', k⟩ := k
  exact ⟨_, _, h.trans k⟩

/-- With the same link and the same screens nothing has left. -/
theorem State.Releasing.of_same (hl : t.link = s.link) (hs : t.screens = s.screens) : t.Releasing s := by
  have hdue (i : Fin 4) : t.due i = s.due i := by
    rw [State.due, State.due, State.leaving_eq, State.leaving_eq, hl, hs]
  have hflag (k : MaskKind) : t.dueFlag k = s.dueFlag k := by rw [State.dueFlag, State.dueFlag, hl, hs]
  refine ⟨[], [], by simp [hl], fun i => by rw [hs], nofun, fun i => by rw [hdue]; rfl, fun i => by rw [hdue]; rfl,
    fun i => by rw [hdue, hs], ?_, ?_⟩
  · rw [State.panelEntries, hl, hs, State.panelEntries]
  · rw [State.dueFlags, State.dueFlags, hflag, hflag, hl]

/-! ## One screen's list -/

/-- The state with one screen's outstanding list replaced. -/
def State.withList (s : State) (i : Fin 4) (es : List Entry) : State :=
  s.onScreen i fun c => { c with outstanding := es }

/-- A screen whose list is replaced by its own is unchanged. -/
theorem State.withList_self (i : Fin 4) : s.withList i s.screens[i.val].outstanding = s := by
  have hself : s.screens.set i.val s.screens[i.val] = s.screens := Vector.set_getElem_self i.isLt
  exact congrArg (fun v => ({ s with screens := v } : State)) hself

/-- The entries of panels, screen by screen. -/
theorem State.panelEntries_eq (s : State) : s.panelEntries =
    s.screens[0].panelEntries + s.screens[1].panelEntries + s.screens[2].panelEntries + s.screens[3].panelEntries := by
  simp [State.panelEntries, toList_four, Nat.add_assoc]

/-- The mask alone tells whose reports are discarded. -/
theorem LinkState.discards_of_mask {l l' : LinkState} (h : l'.mask = l.mask) : l'.discards = l.discards := by
  funext e
  simp only [LinkState.discards, LinkState.masked, h]

/-- The mask alone tells what leaves. -/
theorem leavingFrom_of_mask {l l' : LinkState} (h : l'.mask = l.mask) (i : Fin 4) (code : Byte) (n : Nat)
    (es : List Entry) : leavingFrom l' i code n es = leavingFrom l i code n es := by
  induction es generalizing n with
  | nil => rfl
  | cons e es ih => rw [leavingFrom, leavingFrom, LinkState.discards_of_mask h, ih, ih]

/-- Under the same mask a screen with the same list and release place has the same results due. -/
theorem State.due_congr {i : Fin 4} (hm : t.link.mask = s.link.mask) (hs : t.screens[i.val] = s.screens[i.val]) :
    t.due i = s.due i := by
  rw [State.due, State.due, State.leaving_eq, State.leaving_eq, leavingFrom_of_mask hm, hs]

/-- What one screen's list loses of panel entries the four lists lose together. -/
theorem State.panelEntries_add {i : Fin 4} {k : Nat} (hi : t.screens[i.val].panelEntries + k = s.screens[i.val].panelEntries)
    (ho : ∀ j : Fin 4, j ≠ i → t.screens[j.val] = s.screens[j.val]) : t.panelEntries + k = s.panelEntries := by
  have hall (j : Fin 4) : t.screens[j.val].panelEntries + (if j = i then k else 0) = s.screens[j.val].panelEntries := by
    split
    · subst j
      exact hi
    · rw [ho j ‹_›, Nat.add_zero]
  have hsum : (if (0 : Fin 4) = i then k else 0) + (if (1 : Fin 4) = i then k else 0) + (if (2 : Fin 4) = i then k else 0)
      + (if (3 : Fin 4) = i then k else 0) = k := by
    fin_cases i <;> simp
  have h0 := hall 0
  have h1 := hall 1
  have h2 := hall 2
  have h3 := hall 3
  rw [State.panelEntries_eq, State.panelEntries_eq]
  simp only [Fin.val_zero, Fin.val_one, Fin.val_two] at h0 h1 h2 h3
  have e3 : ((3 : Fin 4) : Nat) = 3 := rfl
  simp only [e3] at h3
  omega

/-- A kind's flag is due where an entry of one screen sets it, or where the other entries do. -/
theorem State.dueFlag_cons {i : Fin 4} {e : Entry} {es : List Entry} (k : MaskKind) (hm : t.link.mask = s.link.mask)
    (hs : s.screens[i.val].outstanding = e :: es) (ht : t.screens[i.val].outstanding = es)
    (ho : ∀ j : Fin 4, j ≠ i → t.screens[j.val] = s.screens[j.val]) :
    s.dueFlag k = ((s.link.discards e && decide (e.ask.leavesAs.1 = k)) || t.dueFlag k) := by
  have hmem (j : Fin 4) : j ∈ ([0, 1, 2, 3] : List (Fin 4)) := by fin_cases j <;> decide
  rw [Bool.eq_iff_iff]
  simp only [State.dueFlag, LinkState.discards_of_mask hm, Bool.or_eq_true, List.any_eq_true, hmem, true_and]
  constructor
  · rintro ⟨j, x, hx, hk⟩
    by_cases hj : j = i
    · subst j
      rw [hs] at hx
      obtain rfl | hx := List.mem_cons.mp hx
      · exact .inl hk
      · exact .inr ⟨i, x, ht ▸ hx, hk⟩
    · exact .inr ⟨j, x, ho j hj ▸ hx, hk⟩
  · rintro (hk | ⟨j, x, hx, hk⟩)
    · exact ⟨i, e, hs ▸ List.mem_cons_self .., hk⟩
    · by_cases hj : j = i
      · subst j
        exact ⟨i, x, hs ▸ List.mem_cons_of_mem _ (ht ▸ hx), hk⟩
      · exact ⟨j, x, ho j hj ▸ hx, hk⟩

/-! ## One result leaves -/

section
variable {i : Fin 4} {e : Entry} {es : List Entry}

/-- The head of a list leaves as its item: it takes its place in the release order and joins its queue. -/
theorem State.releases_of_leaves (hs : s.screens[i.val].outstanding = e :: es)
    (ht : t.screens[i.val] = { s.screens[i.val] with
      outstanding := es, released := s.screens[i.val].released + 1 })
    (ho : ∀ j : Fin 4, j ≠ i → t.screens[j.val] = s.screens[j.val]) (hd : s.link.discards e = false)
    {x : OutQueue × OutItem} (hx : e.leavesAt i 10 s.screens[i.val].released = x)
    (hlink : t.link = { s.link with
      replies := s.link.replies ++ itemsOf .replies [x], reports := s.link.reports ++ itemsOf .reports [x]
      reserved := s.link.reserved - e.ofPanel.toNat }) :
    t.Releases s (itemsOf .replies [x]) (itemsOf .reports [x]) := by
  have hm : t.link.mask = s.link.mask := by rw [hlink]
  have hplace : x.2.release = some (i, s.screens[i.val].released) := by
    rw [← hx, Entry.leavesAt]
    split <;> rfl
  have hdue : s.due i = x :: t.due i := by
    rw [State.due, State.due, State.leaving_eq, State.leaving_eq, hs, leavingFrom, hd, hx, leavingFrom_of_mask hm, ht]
    rfl
  have hitems (q : OutQueue) (j : Fin 4) : resultsOf j (itemsOf q [x]) ++ itemsOf q (t.due j) = itemsOf q (s.due j) := by
    have hresult : ∀ y ∈ itemsOf q [x], y.release.map (·.1) = some i := by
      intro y hy
      obtain ⟨z, hz, rfl⟩ := List.mem_map.mp hy
      rw [List.mem_singleton.mp (List.mem_of_mem_filter hz), hplace]
      rfl
    by_cases hj : j = i
    · subst j
      have hall : resultsOf i (itemsOf q [x]) = itemsOf q [x] :=
        List.filter_eq_self.mpr fun y hy => decide_eq_true (hresult y hy)
      rw [hall, hdue, itemsOf, itemsOf, itemsOf, ← List.map_append, ← List.filter_append]
      rfl
    · have hnone : resultsOf j (itemsOf q [x]) = [] :=
        List.filter_eq_nil_iff.mpr fun y hy => by simp [hresult y hy, Ne.symm hj]
      rw [hnone, State.due_congr hm (ho j hj)]
      rfl
  refine ⟨by rw [hlink], fun j => ?_, fun y hy => ?_, hitems .replies, hitems .reports, fun j => ?_, ?_, ?_⟩
  · by_cases hj : j = i
    · subst j
      rw [ht]
    · rw [ho j hj]
  · obtain ⟨q, hq⟩ : ∃ q, y ∈ itemsOf q [x] := (List.mem_append.mp hy).elim (⟨_, ·⟩) (⟨_, ·⟩)
    obtain ⟨z, hz, rfl⟩ := List.mem_map.mp hq
    rw [List.mem_singleton.mp (List.mem_of_mem_filter hz), hplace]
    exact nofun
  · by_cases hj : j = i
    · subst j
      rw [hdue, ht, List.length_cons]
      simp only
      omega
    · rw [ho j hj, State.due_congr hm (ho j hj)]
  · have hpanel : t.panelEntries + e.ofPanel.toNat = s.panelEntries := by
      refine State.panelEntries_add (i := i) ?_ ho
      rw [ht, Screen.panelEntries, Screen.panelEntries, hs, List.countP_cons]
      cases e.ofPanel <;> rfl
    rw [hlink, ← hpanel]
    simp only
    omega
  · have hflag (k : MaskKind) : s.dueFlag k = t.dueFlag k := by
      rw [State.dueFlag_cons k hm hs (by rw [ht]) ho, hd]
      rfl
    rw [hlink, State.dueFlags, State.dueFlags, hflag, hflag]

/-- The head of a list is discarded under the mask: its slot is returned and its kind's pending flag set (11 R189). -/
theorem State.releases_of_discards (hs : s.screens[i.val].outstanding = e :: es)
    (ht : t.screens[i.val] = { s.screens[i.val] with outstanding := es })
    (ho : ∀ j : Fin 4, j ≠ i → t.screens[j.val] = s.screens[j.val]) (hd : s.link.discards e = true)
    (hlink : t.link = { s.link with
      reserved := s.link.reserved - 1
      suppressed := s.link.suppressed ||| (if e.ask.leavesAs.1 = .route then 0b000100 else 0b001000) }) :
    t.Releases s [] [] := by
  have hm : t.link.mask = s.link.mask := by rw [hlink]
  have hdue (j : Fin 4) : t.due j = s.due j := by
    by_cases hj : j = i
    · subst j
      rw [State.due, State.due, State.leaving_eq, State.leaving_eq, hs, leavingFrom, hd, leavingFrom_of_mask hm, ht]
      rfl
    · exact State.due_congr hm (ho j hj)
  have hpanel : e.ofPanel = true := by
    rw [LinkState.discards, Bool.and_eq_true] at hd
    exact hd.1
  refine ⟨by rw [hlink]; simp, fun j => ?_, nofun, fun j => by rw [hdue]; rfl, fun j => by rw [hdue]; rfl, fun j => ?_, ?_, ?_⟩
  · by_cases hj : j = i
    · subst j
      rw [ht]
    · rw [ho j hj]
  · rw [hdue]
    by_cases hj : j = i
    · subst j
      rw [ht]
    · rw [ho j hj]
  · have hcount : t.panelEntries + 1 = s.panelEntries := by
      refine State.panelEntries_add (i := i) ?_ ho
      rw [ht, Screen.panelEntries, Screen.panelEntries, hs, List.countP_cons, hpanel]
      rfl
    rw [hlink, ← hcount]
    simp only
    omega
  · have hflag (k : MaskKind) : s.dueFlag k = (decide (e.ask.leavesAs.1 = k) || t.dueFlag k) := by
      rw [State.dueFlag_cons k hm hs (by rw [ht]) ho, hd, Bool.true_and]
    rw [hlink, State.dueFlags, State.dueFlags, hflag, hflag]
    have hkinds : e.ask.leavesAs.1 = .route ∨ e.ask.leavesAs.1 = .matchList := by cases e.ask <;> simp [Ask.leavesAs]
    rw [BitVec.or_assoc]
    congr 1
    obtain hk | hk := hkinds <;> rw [hk] <;> cases t.dueFlag .route <;> cases t.dueFlag .matchList <;> rfl

end

/-! ## Releases and marks -/

/-- The mask kind and the classes of what was asked, together. -/
theorem Ask.leavesAs_eq (a : Ask) : a.leavesAs = (a.maskKind, replyClass a.requestClass, a.reportClass) := by
  cases a <;> rfl

/-- A DONE entry leaves with its result. -/
theorem Entry.leavesWith_of_done {e : Entry} {r : EntryResult} (h : e.result = some r) (i : Fin 4) (code : Byte) :
    e.leavesWith i code = e.bytes i r := by
  rw [Entry.leavesWith, h]

/-- The pending flag that a discarded result sets (11 R189). -/
theorem setKind_maskKind (m : BitVec 6) (a : Ask) :
    setKind m a.maskKind true = m ||| (if a.leavesAs.1 = .route then 0b000100 else 0b001000) := by
  cases a <;> rfl

/-- A screen whose list has been replaced, and the other screens. -/
theorem State.withList_screens (u : State) (i j : Fin 4) (l : List Entry) : (u.withList i l).screens[j.val] =
    if j = i then { u.screens[i.val] with outstanding := l } else u.screens[j.val] :=
  u.onScreen_get i j _

/-- The DONE head of a list leaves when it is placed (09 R151, 11 R186, R189). -/
theorem State.placeResult_releasing (i : Fin 4) (e : Entry) (es : List Entry) (r : EntryResult) (hr : e.result = some r) :
    ((s.placeResult i e r).withList i es).Releasing (s.withList i (e :: es)) := by
  have hlist : (s.withList i (e :: es)).screens[i.val].outstanding = e :: es := by rw [State.withList_screens, if_pos rfl]
  unfold State.placeResult
  split
  · rename_i tag hasker
    have hpanel : e.ofPanel = false := by rw [Entry.ofPanel, hasker]
    refine ⟨_, _, State.releases_of_leaves hlist ?_ (fun j hj => ?_) ?_ rfl ?_⟩
    · simp [State.withList]
    · simp [State.withList, hj]
    · rw [LinkState.discards, hpanel, Bool.false_and]
    · simp [State.withList, Entry.leavesAt, hasker, hpanel, itemsOf, Ask.leavesAs_eq, Entry.leavesWith_of_done hr]
  · rename_i seq hasker
    have hpanel : e.ofPanel = true := by rw [Entry.ofPanel, hasker]
    have hdiscards : (s.withList i (e :: es)).link.discards e = s.link.masked e.ask.maskKind := by
      rw [LinkState.discards, hpanel, Bool.true_and, Ask.leavesAs_eq]
      rfl
    split
    · rename_i hmasked
      refine ⟨_, _, State.releases_of_discards hlist ?_ (fun j hj => ?_) (hdiscards.trans hmasked) ?_⟩
      · simp [State.withList]
      · simp [State.withList, hj]
      · simp [State.withList, setKind_maskKind]
    · rename_i hmasked
      refine ⟨_, _, State.releases_of_leaves hlist ?_ (fun j hj => ?_) (hdiscards.trans (by simpa using hmasked)) rfl ?_⟩
      · simp [State.withList]
      · simp [State.withList, hj]
      · simp [State.withList, Entry.leavesAt, hasker, hpanel, itemsOf, Ask.leavesAs_eq, Entry.leavesWith_of_done hr]

/-- A release lets the DONE entries at the head of a list leave. -/
theorem State.releaseList_releasing (i : Fin 4) (l : List Entry) : (s.releaseList i l).Releasing (s.withList i l) := by
  induction l generalizing s with
  | nil => exact .refl _
  | cons e es ih =>
    cases h : e.result with
    | none =>
      rw [State.releaseList_stop _ _ _ _ h]
      exact .refl _
    | some r =>
      rw [State.releaseList_go _ _ _ _ r h]
      exact (State.placeResult_releasing i e es r h).trans ih

/-- A screen's release lets results leave. -/
theorem State.release_releasing (i : Fin 4) : (s.release i).Releasing s := by
  have h := State.releaseList_releasing (s := s) i s.screens[i.val].outstanding
  rwa [State.withList_self] at h

/-- Entries marked ABORTED are due as they were. -/
theorem State.mark_releases {i : Fin 4} {g : Entry → Entry} (hg : MarksAborted g) :
    (s.withList i (s.screens[i.val].outstanding.map g)).Releases s [] [] := by
  have hpanel (e : Entry) : (g e).ofPanel = e.ofPanel := by
    obtain h | h := hg e <;> rw [h]
    exact (e.finish_keeps _).2.2.2
  have hask (e : Entry) : (g e).ask = e.ask := by
    obtain h | h := hg e <;> rw [h]
    exact (e.finish_keeps _).2.2.1
  have hdiscards (e : Entry) : s.link.discards (g e) = s.link.discards e := by
    rw [LinkState.discards, hpanel, hask, LinkState.discards]
  have hscreen (j : Fin 4) : (s.withList i (s.screens[i.val].outstanding.map g)).screens[j.val] =
      { s.screens[j.val] with outstanding := s.screens[j.val].outstanding.map (if j = i then g else id) } := by
    rw [State.withList_screens]
    split
    · subst j
      rfl
    · rw [List.map_id]
  have hid : MarksAborted id := fun e => .inl rfl
  have hdue (j : Fin 4) : (s.withList i (s.screens[i.val].outstanding.map g)).due j = s.due j := by
    rw [State.due, State.due, State.leaving_eq, State.leaving_eq, hscreen]
    refine leavingFrom_map _ j ?_ _ _
    split
    · exact hg
    · exact hid
  have hentries (j : Fin 4) : (s.withList i (s.screens[i.val].outstanding.map g)).screens[j.val].panelEntries =
      s.screens[j.val].panelEntries := by
    rw [hscreen, Screen.panelEntries, Screen.panelEntries, List.countP_map]
    refine List.countP_congr fun e _ => ?_
    split <;> simp [hpanel]
  have hflag (k : MaskKind) : (s.withList i (s.screens[i.val].outstanding.map g)).dueFlag k = s.dueFlag k := by
    rw [State.dueFlag, State.dueFlag]
    congr 1
    funext j
    rw [hscreen, List.any_map]
    congr 1
    funext e
    split <;> simp [State.withList, hdiscards, hask]
  refine ⟨by simp [State.withList], fun j => ?_, nofun, fun j => ?_, fun j => ?_, fun j => ?_, ?_, ?_⟩
  · rw [hscreen]
  · rw [hdue]
    rfl
  · rw [hdue]
    rfl
  · rw [hdue, hscreen]
  · have hcount := State.panelEntries_add (t := s.withList i (s.screens[i.val].outstanding.map g)) (s := s) (i := i) (k := 0)
      (hentries i) fun j hj => by rw [State.withList_screens, if_neg hj]
    rw [← hcount]
    rfl
  · rw [State.dueFlags, State.dueFlags, hflag, hflag]
    rfl

/-- A completion with ABORTED lets results leave. -/
theorem State.complete_releasing (ref : Ref) : (s.complete ref (.bare .aborted)).Releasing s := by
  have hmark : (s.mark ref (.bare .aborted)).Releasing s :=
    ⟨_, _, State.mark_releases (g := fun e => if e.id = ref.id then e.finish (.bare .aborted) else e) fun e => by
      by_cases h : e.id = ref.id <;> simp [h]⟩
  exact hmark.trans (State.release_releasing _)

/-- Completions with ABORTED let results leave. -/
theorem State.completeAll_releasing (refs : List Ref) : (s.completeAll refs .aborted).Releasing s := by
  induction refs generalizing s with
  | nil => exact .refl s
  | cons a l ih => exact (State.complete_releasing a).trans ih

/-- The requesters of the composer's job (05 R80). -/
def State.jobRefs (s : State) : List Ref := match s.rco.job with | none => [] | some j => j.requesters

/-- The requesters of the scan in hand, where it has one left, and of the queries that wait (08 R131). -/
def State.directoryRefs (s : State) : List Ref :=
  (match s.dir.scan with | none => [] | some c => if c.detached then [] else [c.query.ref]) ++ s.dir.queue.map (·.ref)

/-- The requesters that some work holds, block by block. -/
theorem State.heldRefs_eq (s : State) :
    s.heldRefs = s.search.queue.flatMap (·.requesters) ++ (s.jobRefs ++ s.directoryRefs) := by
  simp only [State.heldRefs, State.jobRefs, State.directoryRefs, List.append_assoc] <;> rfl

/-- The abort of the searches completes their requesters. -/
theorem State.abortSearch_completes (s : State) : ∃ u : State, u.link = s.link ∧ u.screens = s.screens
    ∧ s.abortSearch = u.completeAll (s.search.queue.flatMap (·.requesters)) .aborted :=
  ⟨{ s with search := { queue := [], units := .replicate 2 .idle }, rco := { s.rco with queue := [] } }, rfl, rfl, rfl⟩

/-- The abort of the job completes its requesters. -/
theorem State.abortJob_completes (s : State) : ∃ u : State, u.link = s.link ∧ u.screens = s.screens
    ∧ s.abortJob = u.completeAll s.jobRefs .aborted := by
  unfold State.abortJob State.jobRefs
  cases s.rco.job with
  | none => exact ⟨s, rfl, rfl, rfl⟩
  | some j => exact ⟨s.withJob none, rfl, rfl, rfl⟩

/-- The abort of the directory's work completes its requesters. -/
theorem State.abortDirectory_completes (s : State) : ∃ u : State, u.link = s.link ∧ u.screens = s.screens
    ∧ s.abortDirectory = u.completeAll s.directoryRefs .aborted := by
  refine ⟨{ s with dir := { s.dir with queue := [], scan := none } }, rfl, rfl, ?_⟩
  unfold State.abortDirectory State.directoryRefs
  cases s.dir.scan <;> rfl

/-- All work ends by the completion of its requesters, block by block: whatever completions and the passing on of the
link and the screens keep, the end of all work keeps (02 R25). -/
theorem State.abortWork_completes (s : State) : ∃ u v w : State, u.link = s.link ∧ u.screens = s.screens
    ∧ v.link = (u.completeAll (s.search.queue.flatMap (·.requesters)) .aborted).link
    ∧ v.screens = (u.completeAll (s.search.queue.flatMap (·.requesters)) .aborted).screens
    ∧ w.link = (v.completeAll s.jobRefs .aborted).link ∧ w.screens = (v.completeAll s.jobRefs .aborted).screens
    ∧ s.abortWork = w.completeAll s.directoryRefs .aborted := by
  obtain ⟨u, hul, hus, hu⟩ := s.abortSearch_completes
  obtain ⟨v, hvl, hvs, hv⟩ := s.abortSearch.abortJob_completes
  obtain ⟨w, hwl, hws, hw⟩ := s.abortSearch.abortJob.flushCache.abortDirectory_completes
  have hjob : s.abortSearch.jobRefs = s.jobRefs := by simp [State.jobRefs]
  have hdirectory : s.abortSearch.abortJob.flushCache.directoryRefs = s.directoryRefs := by simp [State.directoryRefs]
  rw [hu] at hvl hvs
  rw [hjob] at hv
  rw [hv] at hwl hws
  rw [hdirectory] at hw
  exact ⟨u, v, w, hul, hus, hvl, hvs, hwl, hws, hw⟩

/-- The end of all work lets results leave, and changes nothing else of the link and the sessions (02 R25). -/
theorem State.abortWork_releasing : s.abortWork.Releasing s := by
  obtain ⟨u, v, w, hul, hus, hvl, hvs, hwl, hws, hw⟩ := s.abortWork_completes
  rw [hw]
  exact (((State.Releasing.of_same hul hus).trans (State.completeAll_releasing _)).trans
    ((State.Releasing.of_same hvl hvs).trans (State.completeAll_releasing _))).trans
      ((State.Releasing.of_same hwl hws).trans (State.completeAll_releasing _))

/-! ## Everything has left -/

/-- Every entry that is not DONE is among these, and no DONE one stands at the head of its list. -/
def State.WaitsFor (s : State) (refs : List Ref) : Prop :=
  s.HeadsWait ∧ ∀ i : Fin 4, ∀ e ∈ s.screens[i.val].outstanding, e.result = none → { screen := i, id := e.id } ∈ refs

/-- What a release leaves of a list is part of it, with an entry at its head that is not DONE. -/
theorem undone_head (l : List Entry) : undone l <:+ l ∧ ∀ e, (undone l).head? = some e → e.result = none := by
  induction l with
  | nil => exact ⟨List.suffix_rfl, nofun⟩
  | cons e es ih =>
    rw [undone]
    split
    · exact ⟨ih.1.trans (List.suffix_cons e es), ih.2⟩
    · rename_i hd
      refine ⟨List.suffix_rfl, fun x hx => ?_⟩
      obtain rfl : e = x := Option.some.inj hx
      simpa [Entry.done] using hd

/-- A completion takes its entry off the list of those that are waited for. -/
theorem State.WaitsFor.complete {ref : Ref} {refs : List Ref} (h : s.WaitsFor (ref :: refs)) (r : EntryResult) :
    (s.complete ref r).WaitsFor refs := by
  obtain ⟨hheads, hwaits⟩ := h
  have hscreen (j : Fin 4) : (s.complete ref r).screens[j.val].outstanding =
      if j = ref.screen then
        undone (s.screens[j.val].outstanding.map fun e => if e.id = ref.id then e.finish r else e)
      else s.screens[j.val].outstanding := by
    rw [State.complete, State.release_outstanding]
    split
    · subst j
      simp [State.mark]
    · simp [State.mark, *]
  refine ⟨fun j e he => ?_, fun j e he hnone => ?_⟩
  · rw [hscreen] at he
    split at he
    · exact (undone_head _).2 e he
    · exact hheads j e he
  · rw [hscreen] at he
    split at he
    · rename_i hj
      obtain ⟨x, hx, hxe⟩ := List.mem_map.mp ((undone_head _).1.subset he)
      split at hxe
      · have hdone : (x.finish r).result ≠ none := by
          unfold Entry.finish Entry.done
          split
          · exact Option.isSome_iff_ne_none.mp ‹_›
          · exact nofun
        exact absurd hnone (hxe ▸ hdone)
      · rename_i hid
        subst hxe
        obtain hhere | hrest := List.mem_cons.mp (hwaits j x hx hnone)
        · exact absurd (congrArg Ref.id hhere) hid
        · exact hrest
    · rename_i hj
      obtain hhere | hrest := List.mem_cons.mp (hwaits j e he hnone)
      · exact absurd (congrArg Ref.screen hhere) hj
      · exact hrest

/-- Completions take their entries off the list of those that are waited for. -/
theorem State.WaitsFor.completeAll {refs rest : List Ref} (h : s.WaitsFor (refs ++ rest)) (c : ResultCode) :
    (s.completeAll refs c).WaitsFor rest := by
  induction refs generalizing s with
  | nil => exact h
  | cons a l ih => exact ih (State.WaitsFor.complete h (.bare c))

/-- Where nothing is waited for, every list is empty. -/
theorem State.WaitsFor.lists_empty (h : s.WaitsFor []) (i : Fin 4) : s.screens[i.val].outstanding = [] := by
  obtain ⟨hheads, hwaits⟩ := h
  cases hl : s.screens[i.val].outstanding with
  | nil => rfl
  | cons e es =>
    have hnone := hheads i e (by rw [hl]; rfl)
    exact absurd (hwaits i e (by rw [hl]; exact List.mem_cons_self ..) hnone) List.not_mem_nil

/-- What is waited for is read off the screens alone. -/
theorem State.WaitsFor.of_screens {refs : List Ref} (h : s.WaitsFor refs) (hs : t.screens = s.screens) :
    t.WaitsFor refs := by
  obtain ⟨hheads, hwaits⟩ := h
  rw [State.WaitsFor, State.HeadsWait, hs]
  exact ⟨hheads, hwaits⟩

/-- Where every entry that is not DONE is held by some work, the end of all work empties every list (09 R150). -/
theorem State.abortWork_lists_empty (hheld : s.EveryEntryHeld) (hheads : s.HeadsWait) (i : Fin 4) :
    s.abortWork.screens[i.val].outstanding = [] := by
  obtain ⟨u, v, w, -, hus, -, hvs, -, hws, hw⟩ := s.abortWork_completes
  have hstart : s.WaitsFor s.heldRefs := ⟨hheads, hheld⟩
  rw [State.heldRefs_eq] at hstart
  have hsearch := (hstart.of_screens hus).completeAll .aborted
  have hjob := (hsearch.of_screens hvs).completeAll .aborted
  rw [← List.append_nil s.directoryRefs] at hjob
  rw [hw]
  exact ((hjob.of_screens hws).completeAll .aborted).lists_empty i

end
end Sys2Proof.Machine
end

section
/-! PROOFS. The entry to LOADING (02 R25). -/

namespace Sys2Proof.Machine

section
variable {s t : State} {xs rs : List OutItem}

/-! ## Everything that was due has left -/

/-- Where every list is empty nothing is due, no report slot is reserved for an entry, and no flag will be set. -/
theorem State.nothing_due (h : ∀ i : Fin 4, s.screens[i.val].outstanding = []) :
    (∀ i, s.due i = []) ∧ s.panelEntries = 0 ∧ s.dueFlags = 0 := by
  refine ⟨fun i => by rw [State.due, h i]; rfl, ?_, ?_⟩
  · have hentries (i : Fin 4) : s.screens[i.val].panelEntries = 0 := by rw [Screen.panelEntries, h i]; rfl
    rw [State.panelEntries, toList_four]
    refine List.sum_eq_zero (List.forall_mem_map.mpr fun c hc => ?_)
    fin_cases hc
    exacts [hentries 0, hentries 1, hentries 2, hentries 3]
  · have hflag (k : MaskKind) : s.dueFlag k = false := by simp [State.dueFlag, h]
    rw [State.dueFlags, hflag, hflag]
    rfl

/-- Where every list has emptied, everything that was due has left. -/
theorem State.Releases.all_left (h : t.Releases s xs rs) (he : ∀ i : Fin 4, t.screens[i.val].outstanding = []) :
    (∀ i : Fin 4, t.screens[i.val].released = s.screens[i.val].released + (s.due i).length
        ∧ resultsOf i xs = itemsOf .replies (s.due i) ∧ resultsOf i rs = itemsOf .reports (s.due i))
      ∧ t.link.reserved = s.link.reserved - s.panelEntries
      ∧ t.link.suppressed = s.link.suppressed ||| s.dueFlags := by
  obtain ⟨hdue, hentries, hflags⟩ := State.nothing_due he
  refine ⟨fun i => ⟨?_, ?_, ?_⟩, ?_, ?_⟩
  · rw [← h.places i, hdue]
    rfl
  · rw [← h.replies i, hdue]
    exact (List.append_nil _).symm
  · rw [← h.reports i, hdue]
    exact (List.append_nil _).symm
  · rw [← h.reserved, hentries, Nat.sub_zero]
  · rw [← h.suppressed, hflags]
    exact BitVec.or_zero.symm

/-- No work of any block is in hand, and the cache is as after a flush. -/
def State.Stopped (s : State) : Prop :=
  (s.search.queue = [] ∧ (∀ u : Fin 2, s.search.units[u.val] = SearchUnit.idle) ∧ s.rco.queue = [] ∧ s.rco.job = none
      ∧ s.dir.queue = [] ∧ s.dir.scan = none)
    ∧ ((∀ e : Fin 512, (s.rcc.at e).valid = false) ∧ (∀ g : Fin 64, s.rcc.hands[g.val] = 0) ∧ s.rcc.sweep = []
      ∧ s.rcc.scan = none)

/-- The end of all work leaves nothing in hand (02 R25). -/
theorem State.abortWork_stopped : s.abortWork.Stopped := by
  obtain ⟨hsearch, hrco, hrcc, hdir⟩ := s.abortWork_empties
  rw [State.Stopped, hsearch, hrco, hrcc, hdir]
  exact ⟨⟨rfl, fun u => by simp, rfl, rfl, rfl, rfl⟩, fun e => (s.rcc.flush_at e).1, fun g => by simp [CacheState.flush], rfl,
    rfl⟩

/-! ## The entry to LOADING (02 R25) -/

/-- A MODE_SET LOADING in SERVICE and FROZEN enters LOADING. -/
theorem State.modeSet_loading (hm : s.mod.mode.serving = true) (tag : Byte) :
    s.modeSet tag 0 = s.enterLoading.modeReply tag .ok := by
  cases hmode : s.mod.mode with
  | loading | checking => rw [hmode] at hm; cases hm
  | service | frozen => simp only [State.modeSet, hmode]

/-- The part in LOADING with all else as it was: what the end of all work begins from. -/
def State.unloaded (s : State) : State :=
  { s with mod := { s.mod with mode := .loading, label := 0, findings := [], findingCount := 0 } }

/-- An entry to LOADING is the end of all work, after which the start index is void. -/
theorem State.enterLoading_eq (s : State) :
    s.enterLoading = { s.unloaded.abortWork with map := { s.map with startIndex := none } } := by
  have hmap : s.unloaded.abortWork.map = s.map := by simp [State.unloaded]
  rw [← hmap]
  rfl

/-- The end of all work where one host's route request, alone on its screen's list, is the only work (09 R151). -/
theorem State.abortWork_single {i : Fin 4} {id : Nat} {asked : Byte} {k : Key} {x : Bool} {e : SearchEntry}
    (hqueue : s.search.queue = [e]) (hrefs : e.requesters = [{ screen := i, id := id }]) (hjob : s.rco.job = none)
    (hqueries : s.dir.queue = []) (hscan : s.dir.scan = none)
    (hlist : s.screens[i.val].outstanding = [{ id := id, asker := .host asked, ask := .route k x, result := none }]) :
    s.abortWork.screens[i.val].outstanding = []
      ∧ s.abortWork.link.replies = s.link.replies ++
          [{ cls := 0x8B, tag := asked, resets := false, release := some (i, s.screens[i.val].released)
             payload := routeHeadBytes .aborted k }] := by
  obtain ⟨u, v, w, hul, hus, hvl, hvs, hwl, hws, hw⟩ := s.abortWork_completes
  have hnojob : s.jobRefs = [] := by rw [State.jobRefs, hjob]
  have hnodirectory : s.directoryRefs = [] := by rw [State.directoryRefs, hscan, hqueries]; rfl
  rw [hqueue, List.flatMap_singleton, hrefs] at hvl hvs
  rw [hnojob] at hwl hws
  rw [hnodirectory] at hw
  have hlink : s.abortWork.link = (u.complete { screen := i, id := id } (.bare .aborted)).link :=
    (congrArg State.link hw).trans (hwl.trans hvl)
  have hscreens : s.abortWork.screens = (u.complete { screen := i, id := id } (.bare .aborted)).screens :=
    (congrArg State.screens hw).trans (hws.trans hvs)
  have hmarked : (u.mark { screen := i, id := id } (.bare .aborted)).screens[i.val].outstanding =
      [{ id := id, asker := .host asked, ask := .route k x, result := some (.bare .aborted) }] := by
    simp [State.mark, hus, hlist, Entry.finish, Entry.done]
  rw [hlink, hscreens, State.complete, State.release, hmarked, State.releaseList_go _ _ _ _ _ rfl]
  constructor
  · simp [State.releaseList]
  · simp [State.releaseList, State.placeResult, State.mark, hul, hus, Entry.bytes, Ask.requestClass, replyClass]

end

/-- Settles O15: the end of all work lets results leave, and where every entry is held all that is due leaves. -/
theorem entryToLoading : Obligations.EntryToLoading := by
  unfold Obligations.EntryToLoading
  intro s tag rest h hm
  have hexec : exec .modeSet s = .next ((s.taken rest).enterLoading.modeReply tag .ok) := by
    rw [exec_modeSet h fun hc => by rw [hc] at hm; cases hm]
    exact congrArg _ (State.modeSet_loading (s := s.taken rest) hm tag)
  rw [State.enterLoading_eq] at hexec
  obtain ⟨v, hv⟩ : ∃ v, v = (s.taken rest).unloaded := ⟨_, rfl⟩
  rw [← hv] at hexec
  have hvlink : v.link = { s.link with inbound := rest } := by rw [hv]; rfl
  have hvscreens : v.screens = s.screens := by rw [hv]; rfl
  have hvmode : v.mod.mode = .loading := by rw [hv]; rfl
  obtain ⟨xs, rs, hrel⟩ := State.abortWork_releasing (s := v)
  obtain ⟨reserved, suppressed, hlink⟩ : ∃ n m, v.abortWork.link = { v.link with
      replies := v.link.replies ++ xs, reports := v.link.reports ++ rs, reserved := n, suppressed := m } :=
    ⟨_, _, hrel.link⟩
  obtain ⟨hqueues, hcache⟩ := State.abortWork_stopped (s := v)
  obtain ⟨hlow, hmod, -, hprofiles, hpanels, hpending, hlistings⟩ := State.abortWork_keeps (s := v)
  subst hv
  refine ⟨_, xs, hexec, ?_, ⟨?_, hlow, hpending⟩, hmod, rfl, hprofiles, hlistings, hpanels, hqueues, hcache,
    ?_, ?_, ?_⟩
  · simp [State.modeReply, hlink, hvlink, hvmode, plainReply, replyClass, ResultCode.code, Mode.code]
  · simp [State.modeReply, hlink, hvlink]
  · intro i
    obtain ⟨es, n, hscreen⟩ : ∃ es n, (s.taken rest).unloaded.abortWork.screens[i.val] =
        { s.screens[i.val] with outstanding := es, released := n } := ⟨_, _, hvscreens ▸ hrel.screens i⟩
    simp [hscreen]
  · intro hheld hheads
    have hempty (i : Fin 4) : (s.taken rest).unloaded.abortWork.screens[i.val].outstanding = [] :=
      State.abortWork_lists_empty (s := (s.taken rest).unloaded) hheld hheads i
    obtain ⟨hall, hreserved, hsuppressed⟩ := hrel.all_left hempty
    refine ⟨rs, ?_, hrel.results, fun i => ?_, ?_, ?_⟩
    · simp [State.modeReply, hlink, hvlink]
    · obtain ⟨hplaces, hreplies, hreports⟩ := hall i
      exact ⟨by simpa using hempty i, hplaces, hreplies, hreports⟩
    · exact hreserved
    · rw [BitVec.or_assoc]
      exact hsuppressed
  · intro i id asked k x e hqueue hrefs hjob hqueries hscan hlist
    obtain ⟨hempty, hleft⟩ :=
      State.abortWork_single (s := (s.taken rest).unloaded) hqueue hrefs hjob hqueries hscan hlist
    refine ⟨by simpa using hempty, ?_⟩
    rw [hlink] at hleft
    rw [List.append_cancel_left hleft]
    simp [routeHeadBytes, le, ResultCode.code, hvscreens]

end Sys2Proof.Machine
end

section
/-! PROOFS. RESET SESSIONS (02 R39). -/

namespace Sys2Proof.Machine

section
variable {s t : State}

/-! ## The screens' lists -/

/-- A release of a list whose entries are all DONE leaves nothing of it. -/
theorem undone_of_done {l : List Entry} (h : ∀ e ∈ l, e.done = true) : undone l = [] := by
  induction l with
  | nil => rfl
  | cons e es ih =>
    rw [undone, if_pos (h e (List.mem_cons_self ..))]
    exact ih fun x hx => h x (List.mem_cons_of_mem _ hx)

/-- A marked entry is DONE. -/
theorem Entry.finish_done (e : Entry) (r : EntryResult) : (e.finish r).done = true := by
  unfold Entry.finish
  split
  · assumption
  · rfl

/-- The abort of a screen's entries lets results leave. -/
theorem State.abortScreen_releasing (i : Fin 4) : (s.abortScreen i).Releasing s := by
  have hmark : (s.withList i (s.screens[i.val].outstanding.map fun e => e.finish (.bare .aborted))).Releasing s :=
    ⟨_, _, State.mark_releases fun _ => .inr rfl⟩
  exact hmark.trans (State.release_releasing i)

/-- The abort of a screen's entries empties its list and leaves the others. -/
theorem State.abortScreen_outstanding (i j : Fin 4) :
    (s.abortScreen i).screens[j.val].outstanding = if j = i then [] else s.screens[j.val].outstanding := by
  rw [State.abortScreen, State.release_outstanding]
  split
  · refine undone_of_done fun e he => ?_
    rw [State.onScreen_get, if_pos rfl] at he
    obtain ⟨x, -, rfl⟩ := List.mem_map.mp he
    exact x.finish_done _
  · simp [*]

/-- The aborts of screens let results leave. -/
theorem State.abortScreens_releasing (is : List (Fin 4)) : (is.foldl State.abortScreen s).Releasing s := by
  induction is generalizing s with
  | nil => exact .refl s
  | cons i is ih => exact (State.abortScreen_releasing i).trans ih

/-- The aborts of screens empty their lists and leave the others. -/
theorem State.abortScreens_outstanding (is : List (Fin 4)) (j : Fin 4) :
    (is.foldl State.abortScreen s).screens[j.val].outstanding = if j ∈ is then [] else s.screens[j.val].outstanding := by
  induction is generalizing s with
  | nil => rfl
  | cons i is ih =>
    rw [List.foldl_cons, ih, State.abortScreen_outstanding]
    by_cases hi : j = i <;> simp [hi]

/-- Every screen is among the four. -/
theorem mem_four (i : Fin 4) : i ∈ four := by
  fin_cases i <;> decide

/-! ## The map check -/

/-- The reply of an abandoned map check (02 R35). -/
def State.checkReplies (s : State) : List OutItem :=
  match s.mod.commit with
  | none => []
  | some c => [{ cls := 0x83, tag := c.tag, payload := [10], release := none, resets := false }]

/-- An abandoned map check answers its MAP_COMMIT (02 R35). -/
theorem State.abandonCheck_link :
    s.abandonCheck.link = { s.link with replies := s.link.replies ++ s.checkReplies } := by
  unfold State.abandonCheck State.checkReplies
  cases s.mod.commit with
  | none => simp
  | some c => rfl

/-- A map check is abandoned to LOADING, and where none is in hand the mode stays (02 R35). -/
theorem State.abandonCheck_mod (h : s.CheckInHand) :
    s.abandonCheck.mod.mode = (if s.mod.mode = .checking then .loading else s.mod.mode) ∧ s.abandonCheck.mod.commit = none
      ∧ s.abandonCheck.mod.label = s.mod.label ∧ s.abandonCheck.mod.resetAsked = s.mod.resetAsked := by
  rw [State.CheckInHand] at h
  unfold State.abandonCheck
  split
  · rename_i hc
    have hmode : s.mod.mode ≠ .checking := fun e => by simp [hc] at h; exact h e
    exact ⟨(if_neg hmode).symm, hc, rfl, rfl⟩
  · rename_i c hc
    exact ⟨(if_pos (h.mp (by rw [hc]; rfl))).symm, rfl, rfl, rfl⟩

/-! ## The panels -/

/-- A panel after RESET SESSIONS (10 R179, R180). -/
def Panel.sessionsReset (q : Panel) : Panel :=
  { q with
    state := if q.state = .capturing then .running else q.state
    tracks := .replicate 5 .free, drift := 0, capture := none
    timer := if q.state = .capturing then (if q.config.source = .sensor then some 0 else none) else q.timer
    processing := if q.capture = none then q.processing else q.processing.map fun f => { f with role := .stale } }

/-- The reply of a panel's abandoned capture (10 R179). -/
def State.captureReply (s : State) (p : Fin 4) : Option OutItem :=
  s.panels[p.val].capture.map fun c =>
    { cls := 0x92, tag := c.tag, payload := [10, BitVec.ofNat 8 p.val], release := none, resets := false }

/-- RESET SESSIONS answers a panel's capture ABORTED (10 R179). -/
theorem State.resetPanel_link (p : Fin 4) :
    (s.resetPanel p).link = { s.link with replies := s.link.replies ++ (s.captureReply p).toList } := by
  have habandon : (s.abandonCapture p).link = { s.link with replies := s.link.replies ++ (s.captureReply p).toList } := by
    unfold State.abandonCapture State.captureReply
    cases s.panels[p.val].capture with
    | none => simp
    | some c => rfl
  rw [← habandon, State.resetPanel]
  simp only
  split <;> rfl

/-- RESET SESSIONS resets a panel and leaves the others (10 R179, R180). -/
theorem State.resetPanel_panels (p q : Fin 4) :
    (s.resetPanel p).panels[q.val] = if q = p then s.panels[p.val].sessionsReset else s.panels[q.val] := by
  have habandon (r : Fin 4) : (s.abandonCapture p).panels[r.val] =
      if r = p then { s.panels[p.val] with
        capture := none, processing := s.panels[p.val].sessionsReset.processing } else s.panels[r.val] := by
    unfold State.abandonCapture Panel.sessionsReset
    cases hc : s.panels[p.val].capture with
    | none =>
      by_cases hr : r = p
      · subst r
        simp [← hc]
      · simp [hr]
    | some c => simp [Panel.staleFrame]
  by_cases hq : q = p
  · subst q
    by_cases hstate : s.panels[p.val].state = .capturing <;>
      simp [State.resetPanel, habandon, hstate, Panel.freeTracks, Panel.startTimer, Panel.sessionsReset]
  · by_cases hstate : s.panels[p.val].state = .capturing <;> simp [State.resetPanel, habandon, hstate, hq]

/-- RESET SESSIONS resets panels one by one and answers their captures in this order. -/
theorem State.resetPanels {ps : List (Fin 4)} (hps : ps.Nodup) :
    (ps.foldl State.resetPanel s).link = { s.link with replies := s.link.replies ++ ps.filterMap s.captureReply }
      ∧ ∀ q : Fin 4, (ps.foldl State.resetPanel s).panels[q.val] =
        if q ∈ ps then s.panels[q.val].sessionsReset else s.panels[q.val] := by
  induction ps generalizing s with
  | nil => simp
  | cons p ps ih =>
    obtain ⟨hp, hnodup⟩ := List.nodup_cons.mp hps
    obtain ⟨hlink, hpanels⟩ := ih (s := s.resetPanel p) hnodup
    have hrest : ps.filterMap (s.resetPanel p).captureReply = ps.filterMap s.captureReply := by
      refine List.filterMap_congr fun q hq => ?_
      rw [State.captureReply, State.resetPanel_panels, if_neg (fun e : q = p => hp (e ▸ hq)), State.captureReply]
    constructor
    · rw [List.foldl_cons, hlink, State.resetPanel_link, hrest, List.append_assoc]
      cases hc : s.captureReply p <;> simp [hc]
    · intro q
      rw [List.foldl_cons, hpanels, State.resetPanel_panels]
      by_cases hq : q = p
      · subst q
        simp [hp]
      · simp [hq]

/-! ## RESET SESSIONS -/

/-- What RESET SESSIONS does once the entries have left: it abandons the map check and the captures, resets the panels and
ends the sessions (02 R39). -/
def State.sessionsEnded (s : State) : State :=
  let u := four.foldl State.resetPanel s.abandonCheck
  { u with screens := u.screens.map Screen.endSession }

/-- RESET SESSIONS ends all work and aborts what is left on the lists, so that all that was due leaves (02 R39). -/
theorem State.resetSessions_releases (s : State) : ∃ (t : State) (xs rs : List OutItem),
    s.resetSessions = t.sessionsEnded ∧ t.Releases s xs rs ∧ (∀ i : Fin 4, t.screens[i.val].outstanding = [])
      ∧ t.Stopped ∧ t.mod = s.mod ∧ t.panels = s.panels := by
  obtain ⟨xs, rs, h⟩ := (State.abortWork_releasing (s := s)).trans (State.abortScreens_releasing four)
  refine ⟨_, xs, rs, rfl, h, fun i => ?_, ?_, by simp [four], by simp [four]⟩
  · rw [State.abortScreens_outstanding, if_pos (mem_four i)]
  · simpa [State.Stopped, four] using State.abortWork_stopped (s := s)

/-- The map check and the captures are answered in this order (02 R39, log entry 11). -/
theorem State.sessionsEnded_link : s.sessionsEnded.link = { s.link with
    replies := s.link.replies ++ s.checkReplies ++ four.filterMap s.captureReply } := by
  have hnodup : four.Nodup := by decide
  have hcaptures : s.abandonCheck.captureReply = s.captureReply := by
    funext p
    simp [State.captureReply]
  rw [State.sessionsEnded, (State.resetPanels hnodup).1, State.abandonCheck_link, hcaptures]

/-- Every panel is reset (10 R179, R180). -/
theorem State.sessionsEnded_panels (p : Fin 4) : s.sessionsEnded.panels[p.val] = s.panels[p.val].sessionsReset := by
  have hnodup : four.Nodup := by decide
  have hkept : s.abandonCheck.panels = s.panels := by simp
  have hsame : s.sessionsEnded.panels = (four.foldl State.resetPanel s.abandonCheck).panels := by rw [State.sessionsEnded]
  simp only [hsame, (State.resetPanels (s := s.abandonCheck) hnodup).2 p, mem_four, hkept, if_true]

/-- Every session ends (02 R39). -/
theorem State.sessionsEnded_screens (i : Fin 4) : s.sessionsEnded.screens[i.val] = s.screens[i.val].endSession := by
  simp [State.sessionsEnded, four]

/-- Of mode control the map check alone is abandoned (02 R35). -/
theorem State.sessionsEnded_mod : s.sessionsEnded.mod = s.abandonCheck.mod := by
  rw [State.sessionsEnded]
  simp [four]

/-- No work comes into hand. -/
theorem State.sessionsEnded_stopped (h : s.Stopped) : s.sessionsEnded.Stopped := by
  simpa [State.Stopped, State.sessionsEnded, four] using h

end

/-- Settles O6: the end of all work and the aborts of the screens let all that is due leave, and the ABORTED replies of the
check and the captures stand behind it. -/
theorem resetSessions : Obligations.ResetSessions := by
  unfold Obligations.ResetSessions
  intro s tag rest hcheck h
  have hexec : exec .resetSessions s = .next ((s.taken rest).resetSessions.reply 0x04 tag [ResultCode.ok.code]) := by
    refine (whileRunning_dispatch _ h rfl rfl (modeGate_open _ (by decide))).trans ?_
    exact congrArg _ (if_pos (field_cons_zero 0 []))
  obtain ⟨-, hmap, hprofiles, -, hlistings⟩ := State.resetSessions_keeps (s := s.taken rest)
  obtain ⟨t, xs, rs, ht, hrel, hempty, hstopped, hmod, hpanels⟩ := (s.taken rest).resetSessions_releases
  rw [ht] at hexec hmap hprofiles hlistings
  obtain ⟨hall, hreserved, hsuppressed⟩ := hrel.all_left hempty
  obtain ⟨hqueues, hcache⟩ := State.sessionsEnded_stopped hstopped
  have hhand : t.CheckInHand := by
    rw [State.CheckInHand, hmod]
    exact hcheck
  have hendmod := State.abandonCheck_mod hhand
  rw [← State.sessionsEnded_mod, hmod] at hendmod
  have hlink := State.sessionsEnded_link (s := t)
  have hchecks : t.checkReplies = s.checkReplies := by
    rw [State.checkReplies, hmod, State.checkReplies]
    rfl
  have hcaptures : t.captureReply = s.captureReply := by
    funext p
    rw [State.captureReply, hpanels]
    rfl
  rw [hchecks, hcaptures, hrel.link] at hlink
  have hscreens (i : Fin 4) := State.sessionsEnded_screens (s := t) i
  have hpanel (p : Fin 4) := State.sessionsEnded_panels (s := t) p
  rw [hpanels] at hpanel
  generalize t.sessionsEnded = w at *
  refine ⟨_, xs, rs, hexec, ?_, ?_, hrel.results, fun i => ?_, ?_, hendmod, hmap, hprofiles, hlistings, hqueues, hcache,
    fun i => ?_, hpanel⟩
  · exact congrArg (fun l => l.replies ++ [plainReply 0x04 tag [ResultCode.ok.code]]) hlink
  · exact congrArg LinkState.reports hlink
  · obtain ⟨-, hreplies, hreports⟩ := hall i
    exact ⟨hreplies, hreports⟩
  · rw [State.reply_link, hlink, hreserved, hsuppressed, BitVec.or_assoc]
    exact ⟨rfl, rfl, rfl, rfl, rfl, rfl, rfl, rfl, rfl, rfl, rfl⟩
  · obtain ⟨hplaces, -⟩ := hall i
    simp only [State.reply_keeps]
    rw [hscreens, Screen.endSession, hrel.screens i, hempty, hplaces]
    rfl

end Sys2Proof.Machine
end

section
/-! PROOFS. The cost of a segment (03 R45 to R49). -/

namespace Sys2Proof.Machine

/-! ## The weighted length (03 R46) -/

/-- The weighted length is the product over 16, rounded up. -/
theorem weightedLength_roundsUp (l w : Nat) :
    l * w ≤ 16 * weightedLength l w ∧ 16 * weightedLength l w < l * w + 16 := by
  unfold weightedLength
  omega

/-- A length of 13 bits under a weight of 8 bits weighs at most 130545. -/
theorem weightedLength_le {l w : Nat} (hl : l ≤ 8191) (hw : w ≤ 255) : weightedLength l w ≤ 130545 := by
  have hproduct : l * w ≤ 8191 * 255 := Nat.mul_le_mul hl hw
  have hup := (weightedLength_roundsUp l w).2
  omega

/-- A length and a weight that are not 0 weigh at least 1. -/
theorem weightedLength_pos {l w : Nat} (hl : l ≠ 0) (hw : w ≠ 0) : 1 ≤ weightedLength l w := by
  have hproduct : 0 < l * w := Nat.mul_pos (Nat.pos_of_ne_zero hl) (Nat.pos_of_ne_zero hw)
  have hdown := (weightedLength_roundsUp l w).1
  omega

/-! ## The level penalty (03 R47) -/

/-- A stored level delta is in -15..15 unless it is the one code that no record holds. -/
theorem natAbs_delta_le {d : BitVec 5} (h : d ≠ 0b10000) : d.toInt.natAbs ≤ 15 := by
  have hlow : -16 ≤ d.toInt := d.le_toInt
  have hhigh : d.toInt < 16 := d.toInt_lt
  have hne : d.toInt ≠ -16 := fun he => h (BitVec.eq_of_toInt_eq he)
  omega

/-- A level penalty is at most 15 levels at the largest penalty. -/
theorem levelPenalty_le {d : BitVec 5} (h : d ≠ 0b10000) (penalty : BitVec 16) :
    d.toInt.natAbs * penalty.toNat ≤ 983025 :=
  Nat.mul_le_mul (natAbs_delta_le h) (Nat.le_pred_of_lt penalty.isLt)

/-! ## The lift wait (03 R48) -/

/-- A lift wait at a stored walking speed is at most 255 seconds at 25 dm/s, and 0 for every other kind. -/
theorem liftWait_le (k : SegKind) (wait : Byte) {speed : Nat} (h : speed ≤ 25) :
    (if k = .lift then wait.toNat * speed else 0) ≤ 6375 := by
  split
  · exact Nat.mul_le_mul (Nat.le_pred_of_lt wait.isLt) h
  · exact Nat.zero_le _

/-! ## The sum (03 R45, R49) -/

section
variable {p : Profile} {g : Segment}

/-- A kind of weight 0 is forbidden and has no cost (03 R45). -/
theorem segmentCost_forbidden (h : p.weights[g.kind.code.val].toNat = 0) : segmentCost p g = none := if_pos h

/-- The cost of an allowed segment is the sum of its three parts (03 R49). -/
theorem segmentCost_allowed (h : p.weights[g.kind.code.val].toNat ≠ 0) :
    segmentCost p g = some (weightedLength g.length.toNat p.weights[g.kind.code.val].toNat
      + g.delta.toInt.natAbs * p.penalty.toNat
      + if g.kind = .lift then p.liftWait.toNat * p.speed.toNat else 0) := if_neg h

end

/-- Settles O36: an allowed segment costs its three parts, and the bounds of the sum are the sums of their bounds. -/
theorem segmentCost_parts_and_bounds : Obligations.SegmentCost := by
  unfold Obligations.SegmentCost
  rintro p g w rfl
  refine ⟨segmentCost_forbidden, fun hw => ?_⟩
  obtain ⟨hdown, hup⟩ := weightedLength_roundsUp g.length.toNat p.weights[g.kind.code.val].toNat
  have hlength : weightedLength g.length.toNat p.weights[g.kind.code.val].toNat ≤ 130545 :=
    weightedLength_le (Nat.le_pred_of_lt g.length.isLt) (Nat.le_pred_of_lt (BitVec.isLt _))
  refine ⟨_, _, _, segmentCost_allowed hw, hdown, hup, rfl, rfl, hlength,
    fun hd => levelPenalty_le hd _, fun hs => liftWait_le _ _ hs, fun hl hd hs => ?_⟩
  have hleast := weightedLength_pos (fun h => hl (BitVec.eq_of_toNat_eq h)) hw
  have hpenalty := levelPenalty_le hd p.penalty
  have hwait := liftWait_le g.kind p.liftWait hs
  omega

end Sys2Proof.Machine
end

section
/-! PROOFS. UNIT_PEEK (04 R77). -/

namespace Sys2Proof.Machine

/-- A unit number as it stands in a request names its unit, and a number above 1 names none. -/
theorem finOf_two_byte (b : Byte) :
    (∀ u : Fin 2, b.toNat = u.val → finOf 2 b.toNat = some u) ∧ (1 < b.toNat → finOf 2 b.toNat = none) := by
  refine ⟨fun u hu => ?_, fun hb => dif_neg (by omega)⟩
  rw [hu]
  exact dif_pos u.isLt

/-- UNIT_PEEK passes the mode gate in every mode (02 R22). -/
theorem modeGate_unitPeek (m : Mode) : modeGate m 0x14 = true := by cases m <;> rfl

/-- A UNIT_PEEK is answered by what its unit number names. -/
theorem exec_unitPeek {s : State} {tag b : Byte} {rest : List InFrame} (h : s.headIs 0x14 tag [b] rest) :
    exec .unitPeek s = .next (match finOf 2 b.toNat with
      | none => s.answered rest 0x94 tag [5]
      | some u => s.answered rest 0x94 tag (peekReply u s.search.units[u.val])) := by
  have hexec := whileRunning_dispatch (fun tag p s => match finOf 2 (field p 0 1) with
    | none => s.refuse 0x14 tag .badArgument
    | some n => s.reply 0x14 tag (peekReply n s.search.units[n.val])) h (row := anyPayload) rfl rfl (modeGate_unitPeek _)
  rw [field_cons_zero] at hexec
  refine hexec.trans (congrArg _ ?_)
  cases finOf 2 b.toNat <;> rfl

/-- Settles O19: the reply is read off the unit that the number names. -/
theorem unitPeek : Obligations.UnitPeek := by
  unfold Obligations.UnitPeek
  intro s tag b rest h
  obtain ⟨hunit, hnone⟩ := finOf_two_byte b
  refine ⟨fun hb => by rw [exec_unitPeek h, hnone hb], fun u v hb hv => ?_⟩
  have hcode : BitVec.ofNat 8 u.val = b := by rw [← hb, BitVec.ofNat_toNat, BitVec.setWidth_eq]
  have hpeek : exec .unitPeek s = .next (s.answered rest 0x94 tag (peekReply u v)) := by
    rw [exec_unitPeek h, hunit u hb, hv]
  rw [hpeek, peekReply, hcode]
  refine ⟨rfl, fun hidle => ?_⟩
  rw [hidle]
  rfl

end Sys2Proof.Machine
end

section
/-! PROOFS. The laws of the search queue and the units, kept by every step (04 R54, R55, R60). -/

namespace Sys2Proof.Machine

/-! ## The frontier (04 R60) -/

/-- An insertion is a rearrangement of the pair put in front. -/
theorem frontierInsert_perm (x : Nat × BitVec 12) (f : List (Nat × BitVec 12)) : (frontierInsert x f).Perm (x :: f) := by
  induction f with
  | nil => exact .refl _
  | cons y ys ih =>
    rw [frontierInsert]
    split
    · exact .refl _
    · exact (ih.cons y).trans (.swap x y ys)

/-- One pair stands before another in the frontier: it is cheaper, or as cheap and of a lower number. -/
def FrontierBefore (a b : Nat × BitVec 12) : Prop := a.1 < b.1 ∨ (a.1 = b.1 ∧ a.2.toNat < b.2.toNat)

/-- An insertion keeps the frontier in order where the waypoint does not stand in it. -/
theorem frontierInsert_pairwise {x : Nat × BitVec 12} {f : List (Nat × BitVec 12)} (hf : f.Pairwise FrontierBefore)
    (hx : ∀ y ∈ f, y.2 ≠ x.2) : (frontierInsert x f).Pairwise FrontierBefore := by
  induction f with
  | nil => exact List.pairwise_singleton ..
  | cons y ys ih =>
    obtain ⟨hy, hys⟩ := List.pairwise_cons.mp hf
    have hne : y.2.toNat ≠ x.2.toNat := fun e => hx y (List.mem_cons_self ..) (BitVec.eq_of_toNat_eq e)
    rw [frontierInsert]
    split
    · rename_i hbefore
      have hxy : FrontierBefore x y := by
        simp only [pairBefore, Bool.or_eq_true, Bool.and_eq_true, decide_eq_true_eq, beq_iff_eq] at hbefore
        unfold FrontierBefore
        omega
      refine List.pairwise_cons.mpr ⟨List.forall_mem_cons.mpr ⟨hxy, fun z hz => ?_⟩, hf⟩
      have hyz := hy z hz
      unfold FrontierBefore at *
      omega
    · rename_i hbefore
      have hyx : FrontierBefore y x := by
        simp only [pairBefore, Bool.or_eq_true, Bool.and_eq_true, decide_eq_true_eq, beq_iff_eq] at hbefore
        unfold FrontierBefore
        omega
      refine List.pairwise_cons.mpr ⟨fun z hz => ?_, ih hys fun z hz => hx z (List.mem_cons_of_mem _ hz)⟩
      obtain rfl | hz := (mem_frontierInsert x z ys).mp hz
      · exact hyx
      · exact hy z hz

section
variable {s t r : State} {u : SearchUnit}

/-- An offer to an unsettled waypoint keeps the frontier's law (04 R60, R63). -/
theorem SearchUnit.FrontierLaw.offer (h : u.FrontierLaw) (g : Nat) {w : BitVec 12} (hw : place u.settled w = false)
    (c : Nat) : (u.offer g w c).FrontierLaw := by
  obtain ⟨hord, hnodup, hcost⟩ := h
  unfold SearchUnit.offer
  split
  · rename_i hc
    have hleft : ∀ y ∈ u.frontier.filter (fun y => decide (y.2 ≠ w)), y ∈ u.frontier ∧ y.2 ≠ w := fun y hy =>
      ⟨List.mem_of_mem_filter hy, of_decide_eq_true (List.mem_filter.mp hy).2⟩
    refine ⟨frontierInsert_pairwise (hord.sublist List.filter_sublist) fun y hy => (hleft y hy).2, ?_, fun x hx => ?_⟩
    · refine (((frontierInsert_perm _ _).map _).nodup_iff).mpr (List.nodup_cons.mpr ⟨fun hm => ?_, ?_⟩)
      · obtain ⟨y, hy, hyw⟩ := List.mem_map.mp hm
        exact (hleft y hy).2 hyw
      · exact hnodup.sublist (List.filter_sublist.map _)
    · obtain rfl | hx := (mem_frontierInsert _ x _).mp hx
      · exact ⟨by simp, hw, hc.1⟩
      · obtain ⟨hmem, hne⟩ := hleft x hx
        obtain ⟨hx1, hx2, hx3⟩ := hcost x hmem
        exact ⟨by simpa [hne] using hx1, hx2, hx3⟩
  · exact ⟨hord, hnodup, hcost⟩

/-- Relaxing a segment keeps the frontier's law (04 R62). -/
theorem SearchUnit.FrontierLaw.relaxOne (h : u.FrontierLaw) (s : State) (w : BitVec 12) (g : Nat) :
    (s.relaxOne w u g).FrontierLaw := by
  obtain ⟨-, -, heq⟩ | ⟨-, -, heq⟩ | ⟨k, ⟨-, hopen, -⟩, -, heq⟩ := s.relaxOne_cases w u g <;> rw [heq]
  · exact h
  · exact h
  · exact h.offer g hopen _

/-- Relaxing a run of segments keeps the frontier's law. -/
theorem SearchUnit.FrontierLaw.foldl_relaxOne (h : u.FrontierLaw) (s : State) (w : BitVec 12) (run : List Nat) :
    (run.foldl (s.relaxOne w) u).FrontierLaw := by
  induction run generalizing u with
  | nil => exact h
  | cons g run ih => exact ih (h.relaxOne s w g)

/-- Settling the head leaves the rest of the frontier, which holds the settled waypoint no more (04 R61). -/
theorem SearchUnit.FrontierLaw.settleHead (h : u.FrontierLaw) {c : Nat} {w : BitVec 12} {rest : List (Nat × BitVec 12)}
    (hf : u.frontier = (c, w) :: rest) : (u.settleHead w rest).FrontierLaw := by
  obtain ⟨hord, hnodup, hcost⟩ := h
  rw [hf] at hord hnodup hcost
  obtain ⟨hw, hrest⟩ := List.nodup_cons.mp hnodup
  refine ⟨(List.pairwise_cons.mp hord).2, hrest, fun x hx => ?_⟩
  obtain ⟨hx1, hx2, hx3⟩ := hcost x (List.mem_cons_of_mem _ hx)
  have hne : x.2 ≠ w := fun e => hw (List.mem_map.mpr ⟨x, hx, e⟩)
  exact ⟨hx1, by simpa [SearchUnit.settleHead, hne] using hx2, hx3⟩

/-- An empty frontier is lawful. -/
theorem SearchUnit.frontierLaw_of_nil (h : u.frontier = []) : u.FrontierLaw := by
  simp [SearchUnit.FrontierLaw, h]

/-- An IDLE unit's frontier is empty (04 R57). -/
theorem SearchUnit.idle_frontierLaw : SearchUnit.idle.FrontierLaw := SearchUnit.frontierLaw_of_nil rfl

/-- A working table in which every place holds the same. -/
@[simp] theorem place_replicate {α : Type} (x : α) (w : BitVec 12) : place (.replicate 4096 x) w = x :=
  Vector.getElem_replicate w.isLt

/-- An attempt begins with the origin alone, at cost 0 (04 R59, R66). -/
theorem SearchUnit.freshAttempt_frontierLaw (u : SearchUnit) : u.freshAttempt.FrontierLaw := by
  simp [SearchUnit.FrontierLaw, SearchUnit.freshAttempt]

/-- The completion check keeps the frontier, or begins an attempt (04 R65, R66). -/
theorem SearchUnit.FrontierLaw.completionCheck (h : u.FrontierLaw) (s : State) (found : Option (BitVec 12)) :
    (s.completionCheck u found).FrontierLaw := by
  unfold State.completionCheck
  split
  · exact h
  · split
    · exact h
    · simp only [State.checkPath]
      split
      · split
        · exact SearchUnit.freshAttempt_frontierLaw _
        · exact h
      · exact h

/-- A settle step keeps the frontier's law (04 R60, R61). -/
theorem SearchUnit.FrontierLaw.settle (h : u.FrontierLaw) (s : State) : (s.settle u).FrontierLaw := by
  unfold State.settle
  split
  · exact h.completionCheck s none
  · rename_i c w rest hf
    split
    · exact (h.settleHead hf).completionCheck s _
    · exact (h.settleHead hf).foldl_relaxOne s w _

/-! ## What keeps the law -/

/-- From one state to another the law of the search block is kept. -/
structure State.KeepsSearch (t s : State) : Prop where
  law : s.SearchLaw → t.SearchLaw

/-- The law is kept where the search block is. -/
theorem State.KeepsSearch.of_search (h : t.search = s.search) : t.KeepsSearch s :=
  ⟨fun hs => by rwa [State.SearchLaw, State.FrontierLaw, State.QueueLaw, h]⟩

/-- The law is kept where nothing happens. -/
theorem State.KeepsSearch.refl (s : State) : s.KeepsSearch s := ⟨id⟩

/-- One event after another. -/
theorem State.KeepsSearch.trans (h : t.KeepsSearch s) (k : r.KeepsSearch t) : r.KeepsSearch s :=
  ⟨k.law ∘ h.law⟩

/-- An event that is repeated for the members of a list. -/
theorem State.KeepsSearch.foldl {α : Type} {f : State → α → State} (hf : ∀ s a, (f s a).KeepsSearch s) (l : List α)
    (s : State) : (l.foldl f s).KeepsSearch s := by
  induction l generalizing s with
  | nil => exact .refl s
  | cons a l ih => exact (hf s a).trans (ih _)

/-- A lawful unit in a place. -/
theorem State.KeepsSearch.onUnit (u : Fin 2) {f : SearchUnit → SearchUnit}
    (hf : s.search.units[u.val].FrontierLaw → (f s.search.units[u.val]).FrontierLaw) :
    (s.onUnit u f).KeepsSearch s := by
  refine ⟨fun ⟨hunits, hqueue⟩ => ⟨fun v => ?_, hqueue⟩⟩
  rw [State.onUnit_get]
  split
  · exact hf (hunits u)
  · exact hunits v

/-- A change of both units that keeps the frontiers lawful. -/
theorem State.KeepsSearch.mapUnits {f : SearchUnit → SearchUnit} (hf : ∀ u : SearchUnit, u.FrontierLaw → (f u).FrontierLaw)
    (ht : t.search = { s.search with units := s.search.units.map f }) : t.KeepsSearch s := by
  refine ⟨fun ⟨hunits, hqueue⟩ => ?_⟩
  rw [State.SearchLaw, State.FrontierLaw, State.QueueLaw, ht]
  exact ⟨fun u => by simpa using hf _ (hunits u), hqueue⟩

/-- A change of the queue that brings no key twice and leaves no entry without a requester. -/
theorem State.KeepsSearch.of_queue {q : List SearchEntry}
    (hq : s.QueueLaw → (q.map (·.key)).Nodup ∧ ∀ e ∈ q, e.requesters ≠ []) (hs : t.search = { s.search with queue := q }) :
    t.KeepsSearch s := by
  refine ⟨fun ⟨hunits, hqueue⟩ => ?_⟩
  rw [State.SearchLaw, State.FrontierLaw, State.QueueLaw, hs]
  exact ⟨hunits, hq hqueue⟩

/-! ## The search queue and the units (04 R54 to R56) -/

/-- A grant brings no key twice and takes no requester (04 R56). -/
theorem State.giveUnit_keepsSearch (u : Fin 2) : (s.giveUnit u).KeepsSearch s := by
  unfold State.giveUnit
  split
  · split
    · exact .refl s
    · rename_i k q hq
      obtain ⟨hkeys, hrequesters, -⟩ := takeOldest_keys hq
      have hqueue : ({ s with search := { s.search with queue := q } } : State).KeepsSearch s :=
        .of_queue (fun ⟨hnodup, hheld⟩ => ⟨hkeys ▸ hnodup, fun e he hnil => by
          have hmem : ([] : List Ref) ∈ s.search.queue.map (·.requesters) :=
            hrequesters ▸ hnil ▸ List.mem_map_of_mem he
          obtain ⟨x, hx, hxnil⟩ := List.mem_map.mp hmem
          exact hheld x hx hxnil⟩) rfl
      exact hqueue.trans (.onUnit u fun _ => SearchUnit.freshAttempt_frontierLaw _)
  · exact .refl s

/-- The grants to both units keep the law. -/
theorem State.giveUnits_keepsSearch : s.giveUnits.KeepsSearch s :=
  (State.giveUnit_keepsSearch 0).trans (State.giveUnit_keepsSearch 1)

/-- A join finds the entry of its key, or adds the only one (04 R55). -/
theorem joinQueue_law {k : Key} {ref : Ref} {q : List SearchEntry} (hnodup : (q.map (·.key)).Nodup)
    (hheld : ∀ e ∈ q, e.requesters ≠ []) :
    ((joinQueue k ref q).map (·.key)).Nodup ∧ ∀ e ∈ joinQueue k ref q, e.requesters ≠ [] := by
  constructor
  · rw [joinQueue_keys]
    split
    · exact hnodup
    · rename_i hk
      exact List.nodup_append.mpr ⟨hnodup, List.nodup_singleton k, fun a ha b hb hab =>
        hk (List.mem_singleton.mp hb ▸ hab ▸ ha)⟩
  · clear hnodup
    induction q with
    | nil => simp [joinQueue]
    | cons e es ih =>
      obtain ⟨he, hes⟩ := List.forall_mem_cons.mp hheld
      rw [joinQueue]
      split
      · exact List.forall_mem_cons.mpr ⟨by simp, hes⟩
      · exact List.forall_mem_cons.mpr ⟨he, ih hes⟩

/-- A join of the search queue keeps the law. -/
theorem State.joinSearch_keepsSearch (k : Key) (ref : Ref) : (s.joinSearch k ref).KeepsSearch s :=
  .of_queue (fun ⟨hnodup, hheld⟩ => joinQueue_law hnodup hheld) rfl

/-- Entries that leave the queue leave the law. -/
theorem State.KeepsSearch.filter (p : SearchEntry → Bool) (ht : t.search = { s.search with queue := s.search.queue.filter p }) :
    t.KeepsSearch s :=
  .of_queue (fun ⟨hnodup, hheld⟩ =>
    ⟨hnodup.sublist (List.filter_sublist.map _), fun e he => hheld e (List.mem_of_mem_filter he)⟩) ht

/-- A freed unit keeps the law (04 R69). -/
theorem State.freeUnit_keepsSearch (u : Fin 2) : (s.freeUnit u).KeepsSearch s :=
  ((State.KeepsSearch.filter _ rfl).trans (.onUnit u fun _ => SearchUnit.idle_frontierLaw)).trans
    (State.giveUnit_keepsSearch u)

/-- What the composer takes keeps the law (05 R81, R82). -/
theorem State.takePlaces_keepsSearch (l : List (Fin 2)) : (s.takePlaces l).KeepsSearch s := by
  induction l generalizing s with
  | nil => exact .of_search rfl
  | cons u us ih =>
    obtain h | ⟨w, h, -, hsearch, -⟩ := s.takePlaces_cons_cases u us <;> rw [h]
    · exact .of_search rfl
    · exact ((State.freeUnit_keepsSearch u).trans (.of_search hsearch)).trans ih

/-- What the engines take keeps the law. -/
theorem State.serve_keepsSearch : s.serve.KeepsSearch s := by
  have hdirectory (u : State) : u.serveDirectory.KeepsSearch u := .of_search (by simp)
  exact ((State.takePlaces_keepsSearch s.rco.queue).trans State.giveUnits_keepsSearch).trans (hdirectory _)

/-- The end of a settle step puts a lawful unit in place (04 R58). -/
theorem State.endSettle_keepsSearch (u : Fin 2) {v : SearchUnit} (hv : s.search.units[u.val].FrontierLaw → v.FrontierLaw) :
    (s.endSettle u v).KeepsSearch s := by
  unfold State.endSettle
  split
  · exact .onUnit u fun _ => SearchUnit.idle_frontierLaw
  · split
    · have hqueue : ({ s with rco := { s.rco with queue := s.rco.queue ++ [u] } } : State).KeepsSearch s := .of_search rfl
      exact hqueue.trans (.onUnit u hv)
    · split
      · exact .onUnit u hv
      · exact .onUnit u hv

/-- A finalisation keeps the law. -/
theorem State.finaliseNext_keepsSearch : s.finaliseNext.KeepsSearch s := by
  have hserve (w : State) (hw : w.search = s.search) : w.serve.KeepsSearch s :=
    (State.KeepsSearch.of_search hw).trans State.serve_keepsSearch
  unfold State.finaliseNext
  split
  · exact .refl s
  · split
    · exact .refl s
    · split
      · exact hserve _ rfl
      · simp only
        split
        · exact hserve _ (by simp)
        · exact .of_search (by simp)

/-! ## Detachment (04 R73, R74) -/

/-- A unit whose search is dropped becomes IDLE, or runs on (04 R74). -/
theorem State.dropUnit_keepsSearch (u : Fin 2) : (s.dropUnit u).KeepsSearch s := by
  unfold State.dropUnit
  split
  · exact .onUnit u fun _ => SearchUnit.idle_frontierLaw
  · have hqueue : ({ s with rco := { s.rco with queue := s.rco.queue.filter fun v => decide (v ≠ u) } } :
        State).KeepsSearch s := .of_search rfl
    exact hqueue.trans (.onUnit u fun _ => SearchUnit.idle_frontierLaw)
  · exact .refl s
  · exact .refl s

/-- A detachment removes the entries that it empties (04 R73). -/
theorem State.detachSearch_keepsSearch (refs : List Ref) : (s.detachSearch refs).KeepsSearch s := by
  have hqueue : ({ s with search := { s.search with
      queue := (s.search.queue.map (SearchEntry.without refs)).filter fun e => !e.requesters.isEmpty } } :
      State).KeepsSearch s :=
    .of_queue (fun ⟨hnodup, _⟩ => by
      constructor
      · refine List.Nodup.sublist (List.filter_sublist.map _) ?_
        rwa [List.map_map]
      · intro e he
        simpa using (List.mem_filter.mp he).2) rfl
  exact hqueue.trans (.foldl (fun _ u => State.dropUnit_keepsSearch u) _ _)

/-- A cancellation keeps the law. -/
theorem State.cancelEntries_keepsSearch (i : Fin 4) (b : Bool) : (s.cancelEntries i b).KeepsSearch s := by
  have hmark (f : Screen → Screen) : (s.onScreen i f).KeepsSearch s := .of_search rfl
  have hrest (u : State) (refs : List Ref) : (((u.detachJob refs).detachQueries refs).release i).KeepsSearch u :=
    .of_search (by simp)
  exact ((hmark _).trans (State.detachSearch_keepsSearch _)).trans (hrest _ _)

/-! ## The screen sessions -/

/-- An expiry keeps the law. -/
theorem State.expire_keepsSearch (i : Fin 4) : (s.expire i).KeepsSearch s := by
  have hend : (s.onScreen i Screen.endSession).KeepsSearch s := .of_search rfl
  have hreport (u : State) (k : MaskKind) (cls : Byte) (p : List Byte) : (u.offerReport k cls p).KeepsSearch u :=
    .of_search (by simp)
  exact ((hend.trans (State.cancelEntries_keepsSearch i true)).trans State.serve_keepsSearch).trans (hreport ..)

/-- A SCREEN_SET keeps the law. -/
theorem State.configureScreen_keepsSearch (i : Fin 4) (p : List Byte) : (s.configureScreen i p).KeepsSearch s := by
  have hset : (s.onScreen i fun c => c.configure p).KeepsSearch s := .of_search rfl
  unfold State.configureScreen
  simp only
  split
  · exact .of_search rfl
  · split
    · exact hset.trans (State.expire_keepsSearch i)
    · exact hset

/-- A screen-bound request keeps the law where its body does. -/
theorem State.screenBound_keepsSearch {cls tag : Byte} {p : List Byte} {body : State → Fin 4 → State}
    (hbody : ∀ (u : State) i, (body u i).KeepsSearch u) : (s.screenBound cls tag p body).KeepsSearch s := by
  unfold State.screenBound
  split
  · exact .of_search (by simp)
  · rename_i i _
    have htouch : (s.touchSession i).KeepsSearch s := .of_search rfl
    exact htouch.trans (hbody _ _)

/-- The dispatch of a route request keeps the law. -/
theorem State.dispatchRoute_keepsSearch (ref : Ref) (k : Key) (x : Bool) : (s.dispatchRoute ref k x).KeepsSearch s := by
  unfold State.dispatchRoute
  split
  · exact .of_search (by simp)
  · simp only
    split
    · exact .of_search (by simp)
    · have hcache (c : CacheState) : ({ s with rcc := c } : State).KeepsSearch s := .of_search rfl
      exact (hcache _).trans (State.joinSearch_keepsSearch k ref)

/-- A ROUTE_ASK keeps the law. -/
theorem State.askRoute_keepsSearch (i : Fin 4) (tag : Byte) (p : List Byte) : (s.askRoute i tag p).KeepsSearch s := by
  have hrefuse (r : ResultCode) : (s.refuse 0x0B tag r).KeepsSearch s := .of_search (by simp)
  have hjoin (k : Key) (x : Bool) : (s.joinRoute i tag k x).KeepsSearch s := by
    have hlist : (s.join i (.host tag) (.route k x) none).KeepsSearch s := .of_search (by simp)
    have hrelease (u : State) : (u.release i).KeepsSearch u := .of_search (by simp)
    exact ((hlist.trans (State.dispatchRoute_keepsSearch _ k x)).trans (hrelease _)).trans State.serve_keepsSearch
  unfold State.askRoute
  simp only
  split
  · exact hrefuse _
  · split
    · exact hrefuse _
    · split
      · exact hrefuse _
      · split
        · exact hrefuse _
        · split
          · exact hrefuse _
          · exact hjoin _ _

/-- A DIRECTORY_ASK keeps the law. -/
theorem State.askDirectory_keepsSearch (i : Fin 4) (tag : Byte) (p : List Byte) :
    (s.askDirectory i tag p).KeepsSearch s := by
  have hrefuse (r : ResultCode) : (s.refuse 0x0C tag r).KeepsSearch s := .of_search (by simp)
  have hserve (u : State) (hu : u.search = s.search) : u.serve.KeepsSearch s :=
    (State.KeepsSearch.of_search hu).trans State.serve_keepsSearch
  unfold State.askDirectory
  simp only
  split
  · exact hrefuse _
  · split
    · exact hrefuse _
    · split
      · exact hrefuse _
      · split
        · exact hrefuse _
        · exact hserve _ (by simp)

/-! ## Hotspot actions -/

/-- A panel's request keeps the law where its dispatch does. -/
theorem State.panelRequest_keepsSearch (i : Fin 4) (ask : Ask) {dispatch : State → Ref → State}
    (hd : ∀ (u : State) ref, (dispatch u ref).KeepsSearch u) : (s.panelRequest i ask dispatch).state.KeepsSearch s := by
  have hcreate : (s.createPanelEntry i ask).KeepsSearch s := .of_search (by simp)
  unfold State.panelRequest
  split
  · exact .refl s
  · split
    · exact .refl s
    · exact hcreate.trans (hd _ _)

/-- A route action keeps the law. -/
theorem State.panelRoute_keepsSearch (i : Fin 4) (kind : DestKind) (n : BitVec 16) :
    (s.panelRoute i kind n).state.KeepsSearch s := by
  refine State.panelRequest_keepsSearch i _ fun u ref => ?_
  split
  · exact State.dispatchRoute_keepsSearch ..
  · exact .of_search (by simp)

/-- The query of an edit keeps the law. -/
theorem State.panelQuery_keepsSearch (i : Fin 4) : (s.panelQuery i).state.KeepsSearch s :=
  State.panelRequest_keepsSearch i _ fun _ _ => .of_search (by simp)

/-- A text edit keeps the law. -/
theorem State.editText_keepsSearch (i : Fin 4) (text : List Byte) : (s.editText i text).state.KeepsSearch s := by
  have hedit : (s.onScreen i fun c => { c with text := text }).KeepsSearch s := .of_search rfl
  exact hedit.trans (State.panelQuery_keepsSearch i)

/-- A term edit keeps the law. -/
theorem State.editTerm_keepsSearch (i : Fin 4) (slot : Byte) (term : Option Term) :
    (s.editTerm i slot term).state.KeepsSearch s := by
  have hedit (f : Screen → Screen) : (s.onScreen i f).KeepsSearch s := .of_search rfl
  unfold State.editTerm
  split
  · exact .refl s
  · split
    · exact .refl s
    · exact (hedit _).trans (State.panelQuery_keepsSearch i)

/-- An action keeps the law. -/
theorem State.doAction_keepsSearch (i : Fin 4) (a : Action) : (s.doAction i a).state.KeepsSearch s := by
  cases a with
  | plain => exact .refl s
  | listing n => exact State.panelRoute_keepsSearch i .listing n
  | waypoint n => exact State.panelRoute_keepsSearch i .waypoint n
  | key b =>
    simp only [State.doAction]
    split
    · exact .refl s
    · split
      · exact State.editText_keepsSearch i _
      · exact .refl s
  | backspace =>
    simp only [State.doAction]
    split
    · exact .refl s
    · exact State.editText_keepsSearch i _
  | clearText =>
    simp only [State.doAction]
    split
    · exact .refl s
    · exact State.editText_keepsSearch i _
  | filter slot term => exact State.editTerm_keepsSearch i slot term
  | unfilter slot => exact State.editTerm_keepsSearch i slot none
  | cancel => exact State.cancelEntries_keepsSearch i true

/-- A selection keeps the law. -/
theorem State.select_keepsSearch (i : Fin 4) (h : Nat) (n : Byte) (a : Action) : (s.select i h n a).KeepsSearch s := by
  have htouch : (s.touchSession i).KeepsSearch s := .of_search rfl
  have hcarry : (s.carryOut i a).state.KeepsSearch s := by
    unfold State.carryOut
    split
    · exact htouch.trans (State.doAction_keepsSearch i a)
    · exact .refl s
  exact (hcarry.trans (.of_search (by simp))).trans State.serve_keepsSearch

/-! ## The touch panels -/

/-- The UP of a track keeps the law. -/
theorem State.goUp_keepsSearch (p : Fin 4) (i : Fin 5) (f : Processing) : (s.goUp p i f).KeepsSearch s := by
  have hreport : (s.reportContact p i.val .up false (s.track p i).position).KeepsSearch s := .of_search (by simp)
  have htrack (u : State) : (u.onTrack p i fun _ => .free).KeepsSearch u := .of_search (by simp)
  unfold State.goUp
  simp only
  split
  · exact hreport.trans (htrack _)
  · exact (hreport.trans (State.select_keepsSearch ..)).trans (htrack _)

/-- A track brought forward keeps the law. -/
theorem State.advanceTrack_keepsSearch (p : Fin 4) (f : Processing) (i : Fin 5) (c : Claim) :
    (s.advanceTrack p f i c).KeepsSearch s := by
  unfold State.advanceTrack
  split
  case h_7 =>
    split
    · exact .of_search (by simp)
    · exact State.goUp_keepsSearch p i f
  all_goals exact .of_search (by simp)

/-- The end of a frame keeps the law. -/
theorem State.finishFrame_keepsSearch (p : Fin 4) : (s.finishFrame p).KeepsSearch s := by
  have hpanel (u : State) (g : Panel → Panel) : (u.onPanel p g).KeepsSearch u := .of_search rfl
  have hdetect (f : Processing) : (s.detect p f).KeepsSearch s := by
    have htracks (u : State) (cs : List Claim) : (u.advanceTracks p f cs).KeepsSearch u :=
      .foldl (α := Fin 5 × Claim) (fun _ x => State.advanceTrack_keepsSearch p f x.1 x.2) _ u
    exact ((hpanel s _).trans (htracks _ _)).trans (hpanel _ fun q => q.drifted f)
  have hend (t : State) (f : Processing) :
      ((t.onPanel p fun q => { q with processing := none }).answerInject p f.frame.inject .ok).KeepsSearch t :=
    .of_search (by simp)
  unfold State.finishFrame
  split
  · exact .refl s
  · rename_i f _
    simp only
    split
    · exact (hdetect f).trans (hend _ f)
    · exact .of_search (by simp)
    · exact hend _ f

/-! ## The modes and the map -/

/-- A SEGMENT_SET keeps the law: at the wrap the units lose their captured generations alone (04 R72). -/
theorem State.segmentSet_keepsSearch (g n : Nat) : (s.segmentSet g n).1.KeepsSearch s := by
  have hvoid (u : SearchUnit) (hu : u.FrontierLaw) : u.void.FrontierLaw := by
    unfold SearchUnit.void
    split <;> exact hu
  have hreopen : (s.reopenSegment g).KeepsSearch s := by
    simp only [State.reopenSegment]
    split
    · exact .mapUnits hvoid rfl
    · exact .of_search rfl
  unfold State.segmentSet
  repeat' split
  case isFalse.isFalse.isFalse.isFalse.isFalse.isFalse => exact hreopen
  all_goals exact .of_search rfl

/-- A return to SERVICE keeps the law: a HELD unit runs on (04 R75). -/
theorem State.returnToService_keepsSearch : s.returnToService.KeepsSearch s := by
  have hunfreeze (u : SearchUnit) (hu : u.FrontierLaw) : u.unfreeze.FrontierLaw := by
    unfold SearchUnit.unfreeze
    split <;> exact hu
  have hrun : ({ s with mod := { s.mod with mode := .service }
                        search := { s.search with units := s.search.units.map SearchUnit.unfreeze } } :
      State).KeepsSearch s := .mapUnits hunfreeze rfl
  exact hrun.trans State.giveUnits_keepsSearch

/-- With an empty queue and IDLE units the law holds. -/
theorem State.searchLaw_of_empty (h : s.search = { queue := [], units := .replicate 2 .idle }) : s.SearchLaw := by
  rw [State.SearchLaw, State.FrontierLaw, State.QueueLaw, h]
  exact ⟨fun u => by simpa using SearchUnit.idle_frontierLaw, List.nodup_nil, nofun⟩

/-- A part after reset meets the law (04 R57). -/
theorem State.started_searchLaw (rate : BitVec 2) (cause : Byte) (pending : List Instr) :
    ({ State.started rate cause with pending := pending } : State).SearchLaw := State.searchLaw_of_empty rfl

/-- An entry to LOADING ends every search (02 R25, 04 R76). -/
theorem State.enterLoading_searchLaw : s.enterLoading.SearchLaw :=
  State.searchLaw_of_empty (State.abortWork_empties ({ s with mod := _ } : State)).1

/-- RESET SESSIONS ends every search (02 R39, 04 R76). -/
theorem State.resetSessions_searchLaw : s.resetSessions.SearchLaw :=
  State.searchLaw_of_empty (by simpa [State.resetSessions, four] using s.abortWork_empties.1)

/-- A MODE_SET keeps the law (02 R23 to R25). -/
theorem State.modeSet_keepsSearch (tag : Byte) (n : Nat) : (s.modeSet tag n).KeepsSearch s := by
  have hreply (u : State) (r : ResultCode) : (u.modeReply tag r).KeepsSearch u := .of_search (by simp)
  unfold State.modeSet
  split
  case h_4 | h_5 => exact ⟨fun _ => (hreply _ _).law State.enterLoading_searchLaw⟩
  case h_7 => exact .of_search (by simp)
  case h_8 => exact State.returnToService_keepsSearch.trans (hreply _ _)
  all_goals exact hreply s _

/-! ## Every command and every step -/

/-- What the pin gates keeps the law where its operation does. -/
theorem answers_keepsSearch {f : State → State} (hf : (f s).KeepsSearch s) :
    Answers (whileRunning s f) fun t => t.KeepsSearch s :=
  answers_whileRunning (law := fun t => t.KeepsSearch s) (.refl s) hf

/-- A request keeps the law where its owner does. -/
theorem request_keepsSearch {cls : Byte} {row : List Byte → Bool} {owner : Byte → List Byte → State → State}
    (howner : ∀ tag p u, (owner tag p u).KeepsSearch u) :
    Answers (whileRunning s fun s => s.dispatch cls row owner) fun t => t.KeepsSearch s :=
  answers_keepsSearch (State.dispatch_law (law := fun t => t.KeepsSearch s) (fun _ _ hu => hu.trans (.of_search rfl))
    (.refl s) fun tag p u hu => hu.trans (howner tag p u))

/-- Every command keeps the law of the search block. -/
theorem exec_keepsSearch (c : Instr) : Answers (exec c s) fun t => t.KeepsSearch s := by
  have hreply (u : State) (cls tag : Byte) (p : List Byte) : (u.reply cls tag p).KeepsSearch u := .of_search (by simp)
  cases c with
  | frameReceived | receiveGapTimeout | linkByteReceived | transmitStart | sweepExamination | compositionEnd
  | directoryExamination | frameProcessingStart | mapCheckEnd =>
    simp only [exec, execFrameReceived, execReceiveGapTimeout, execLinkByteReceived, execTransmitStart,
      execSweepExamination, execCompositionEnd, execDirectoryExamination, execFrameProcessingStart, execMapCheckEnd]
    exact answers_keepsSearch (.of_search (by simp))
  | routeFinalisation => exact answers_keepsSearch State.finaliseNext_keepsSearch
  | frameProcessed p => exact answers_keepsSearch (f := fun s => s.finishFrame p) (State.finishFrame_keepsSearch p)
  | settleStep u =>
    refine answers_keepsSearch ?_
    split
    · exact ((State.endSettle_keepsSearch u fun h => h.settle s).trans State.serve_keepsSearch).trans
        (.of_search (by simp))
    · exact .refl s
  | sessionExpiry i =>
    refine answers_keepsSearch ?_
    split
    · exact State.expire_keepsSearch i
    · exact .refl s
  | frameTimerExpiry p =>
    refine answers_keepsSearch ?_
    split
    · exact .of_search (by simp)
    · exact .refl s
  | panelFrameReceived p samples =>
    simp only [exec, execPanelFrameReceived]
    refine answers_keepsSearch (.of_search ?_)
    split
    · rfl
    · split <;> simp
  | unknownClass =>
    simp only [exec, execUnknownClass]
    refine answers_keepsSearch (.of_search ?_)
    split
    · rfl
    · rename_i f t hd
      split
      · rfl
      · simp only [State.dispatchHead] at hd
        split at hd
        · cases hd
        · split at hd <;> cases hd
          rfl
  | transmitComplete =>
    rw [exec, execTransmitComplete]
    refine answers_keepsSearch ?_
    split
    · exact .refl s
    · split
      · exact ⟨fun _ => State.started_searchLaw ..⟩
      · exact .of_search rfl
  | resetPinAssert => exact ⟨_, rfl, ⟨fun _ => State.searchLaw_of_empty rfl⟩⟩
  | resetPinRelease straps =>
    refine ⟨_, rfl, ?_⟩
    split
    · exact ⟨fun _ => State.started_searchLaw ..⟩
    · exact .refl s
  | stateGet | reportMask | loadOpen | loadWrite | loadRead | listingSet | mapCommit =>
    simp only [exec, execStateGet, execReportMask, execLoadOpen, execLoadWrite, execLoadRead, execListingSet,
      execMapCommit]
    exact request_keepsSearch fun tag p u => .of_search (by simp [MaskKind.all])
  | resetFull | hotspotsSet | unitPeek =>
    simp only [exec, execResetFull, execHotspotsSet, execUnitPeek]
    exact request_keepsSearch fun tag p u => .of_search (by split <;> simp)
  | panelSet | panelInject =>
    simp only [exec, execPanelSet, execPanelInject]
    refine request_keepsSearch fun tag p u => .of_search ?_
    split
    · simp
    · split
      · simp
      · split <;> simp
  | baselineCapture =>
    simp only [exec, execBaselineCapture]
    refine request_keepsSearch fun tag p u => .of_search ?_
    split
    · simp
    · split <;> simp
  | modeSet => exact request_keepsSearch fun tag p u => State.modeSet_keepsSearch tag _
  | resetSessions =>
    refine request_keepsSearch fun tag p u => ?_
    split
    · exact ⟨fun _ => (hreply ..).law State.resetSessions_searchLaw⟩
    · exact hreply ..
  | segmentSet => exact request_keepsSearch fun tag p u => (State.segmentSet_keepsSearch _ _).trans (hreply ..)
  | screenSet =>
    refine request_keepsSearch fun tag p u => ?_
    split
    · exact hreply ..
    · split
      · exact hreply ..
      · exact (State.configureScreen_keepsSearch _ _).trans (hreply ..)
  | routeAsk => exact request_keepsSearch fun tag p u => State.screenBound_keepsSearch fun v i =>
      State.askRoute_keepsSearch i tag p
  | directoryAsk => exact request_keepsSearch fun tag p u => State.screenBound_keepsSearch fun v i =>
      State.askDirectory_keepsSearch i tag p
  | fence =>
    exact request_keepsSearch fun tag p u => State.screenBound_keepsSearch fun v i => .of_search (by split <;> simp)
  | cancel =>
    exact request_keepsSearch fun tag p u => State.screenBound_keepsSearch fun v i =>
      ((State.cancelEntries_keepsSearch i false).trans State.serve_keepsSearch).trans (hreply ..)

/-- A millisecond keeps the law of the search block. -/
theorem State.tick_keepsSearch : s.tick.KeepsSearch s := by
  have hscreen (u : State) (i : Fin 4) : (u.tickScreen i).KeepsSearch u := by
    have hidle (f : Screen → Screen) : (u.onScreen i f).KeepsSearch u := .of_search rfl
    unfold State.tickScreen
    simp only
    split
    · exact (hidle _).trans (State.expire_keepsSearch i)
    · exact hidle _
  have hpanel (u : State) (p : Fin 4) : (u.tickPanel p).KeepsSearch u := .of_search (by simp)
  have hgap : (s.onLink LinkState.tickGap).KeepsSearch s := .of_search rfl
  unfold State.tick
  split
  · exact .refl s
  · exact (hgap.trans (.foldl hpanel _ _)).trans (.foldl hscreen _ _)

end

/-- Settles O55: every event keeps the law, from the offer to a waypoint up to the command. -/
theorem searchLawKept : Obligations.SearchLawKept :=
  keptByEveryStep_of_exec (fun _ _ hu => hu)
    (fun c u hu => by
      obtain ⟨t, ht, hkeeps⟩ := exec_keepsSearch (s := u) c
      exact ⟨t, ht, hkeeps.law hu⟩)
    (fun _ hu => State.tick_keepsSearch.law hu)

end Sys2Proof.Machine
end

section
/-! PROOFS. How a search ends (04 R56, R64 to R69, 05 R81, R82). -/

namespace Sys2Proof.Machine

/-! ## What the settle step finds -/

section
variable {s : State} {u old v : SearchUnit} {c : Nat} {w : BitVec 12} {rest : List (Nat × BitVec 12)} {path : List Nat}

/-- A settle step whose head is a target settles it and makes the completion check (04 R61, R64). -/
theorem State.settle_target (hf : old.frontier = (c, w) :: rest) (hw : w ∈ old.targets) :
    s.settle old = s.completionCheck (old.settleHead w rest) (some w) := by
  simp only [State.settle, hf, List.contains_eq_mem, hw, decide_true, if_true]

/-- The completion check of a listing that is HIDDEN (04 R65). -/
theorem State.completionCheck_hidden (h : s.seeksHidden u.key) (found : Option (BitVec 12)) :
    s.completionCheck u found = u.endWith .notFound := if_pos h

/-- The completion check of a target found for any other key looks at its path (04 R66). -/
theorem State.completionCheck_found (h : ¬ s.seeksHidden u.key) (w : BitVec 12) :
    s.completionCheck u (some w) = s.checkPath u w := if_neg h

/-- A path is closed where one of its segments is. -/
theorem State.pathClosed_iff (s : State) (path : List Nat) :
    (path.any fun g => (s.segment g).closed) = true ↔ ∃ g ∈ path, (s.segment g).closed = true := List.any_eq_true

/-- A closed path begins a fresh attempt (04 R66). -/
theorem State.checkPath_restarts (h : ∃ g ∈ s.pathTo u w, (s.segment g).closed = true) (hr : u.restarts < 2) :
    s.checkPath u w = ({ u with restarts := u.restarts + 1, detour := true } : SearchUnit).freshAttempt := by
  rw [State.checkPath, if_pos ((s.pathClosed_iff _).mpr h)]
  exact if_pos (Nat.add_lt_add_right hr 1)

/-- The third closed path ends the search in NO_STABLE_ROUTE (04 R67). -/
theorem State.checkPath_unstable (h : ∃ g ∈ s.pathTo u w, (s.segment g).closed = true) (hr : 2 ≤ u.restarts) :
    s.checkPath u w = ({ u with restarts := u.restarts + 1, detour := true } : SearchUnit).endWith .noStableRoute := by
  rw [State.checkPath, if_pos ((s.pathClosed_iff _).mpr h)]
  exact if_neg (Nat.not_lt.mpr (Nat.add_le_add_right hr 1))

/-- An open path is the result, with its cacheable mark (04 R68). -/
theorem State.checkPath_open (h : ∀ g ∈ s.pathTo u w, (s.segment g).closed = false) :
    s.checkPath u w = { u with
      result := some
        { code := .ok, path := s.pathTo u w, entrance := w, detour := u.detour
          cacheable := cacheableMark (s.pathTo u w) u.captured s.map.generation } } := by
  have hopen : ¬ ((s.pathTo u w).any fun g => (s.segment g).closed) = true := fun hclosed => by
    obtain ⟨g, hg, hc⟩ := (s.pathClosed_iff _).mp hclosed
    exact absurd (h g hg) (by rw [hc]; exact nofun)
  exact if_neg hopen

/-- A settle step whose head is a target of no HIDDEN listing looks at the path to it (04 R64 to R66). -/
theorem State.settle_checksPath (hf : old.frontier = (c, w) :: rest) (hw : w ∈ old.targets)
    (hhid : ¬ s.seeksHidden old.key) : s.settle old = s.checkPath (old.settleHead w rest) w :=
  (State.settle_target hf hw).trans (State.completionCheck_found (u := old.settleHead w rest) hhid w)

/-- The mark of a path of 1 to 128 segments that was searched in the current generation (04 R68). -/
theorem cacheableMark_eq (path : List Nat) (captured : Option (BitVec 16)) (generation : BitVec 16) :
    cacheableMark path captured generation =
      decide (1 ≤ path.length ∧ path.length ≤ 128 ∧ captured = some generation) := by
  simp [cacheableMark, Config.maxCachedSegments, Bool.and_assoc]

/-- A settle step that ends its search without a route leaves its code as the unit's result (04 R64 to R67). -/
theorem State.EndsWithout.settle {code : ResultCode} (h : s.EndsWithout old v code) :
    s.settle old = v.endWith code ∧ code ≠ .ok := by
  obtain ⟨hf, rfl, ⟨rfl, hhid⟩ | ⟨rfl, hhid⟩⟩ | ⟨c, w, rest, head, hf, hw, hhead, hends⟩ := h
  · simp only [State.settle, hf]
    exact ⟨State.completionCheck_hidden hhid none, nofun⟩
  · simp only [State.settle, hf]
    exact ⟨if_neg hhid, nofun⟩
  · obtain rfl : head = old.settleHead w rest := hhead
    rw [State.settle_target hf hw]
    obtain ⟨rfl, hhid, rfl⟩ | ⟨rfl, hhid, htwo, hclosed, rfl⟩ := hends
    · exact ⟨State.completionCheck_hidden (u := old.settleHead w rest) hhid _, nofun⟩
    · rw [State.completionCheck_found (u := old.settleHead w rest) hhid]
      exact ⟨State.checkPath_unstable hclosed htwo, nofun⟩

end

/-! ## One entry alone on its list -/

/-- The completion of a host's entry that stands alone on its list leaves as its reply (09 R151). -/
theorem State.complete_alone {s : State} {ref : Ref} {tag : Byte} {a : Ask} (r : EntryResult)
    (h : s.screens[ref.screen.val].outstanding = [{ id := ref.id, asker := .host tag, ask := a, result := none }]) :
    s.complete ref r = { s with
      link := { s.link with replies := s.link.replies ++
        [{ cls := replyClass a.requestClass, tag := tag, resets := false
           payload := Entry.bytes ref.screen { id := ref.id, asker := .host tag, ask := a, result := some r } r
           release := some (ref.screen, s.screens[ref.screen.val].released) }] }
      screens := s.screens.set ref.screen.val { s.screens[ref.screen.val] with
        outstanding := [], released := s.screens[ref.screen.val].released + 1 } } := by
  simp [State.complete, State.mark, State.release, State.onScreen, h, Entry.finish, Entry.done, State.releaseList,
    State.placeResult, State.queueReply, State.onLink]

/-- The reply that a host's route request leaves as with a result other than OK, where it stands alone on its screen's list
(05 R82, 11 R191). -/
def State.RefusedAs (s : State) (code : ResultCode) (ref : Ref) (item : OutItem) : Prop :=
  ∃ tag k x,
    s.screens[ref.screen.val].outstanding = [{ id := ref.id, asker := .host tag, ask := .route k x, result := none }]
    ∧ item = { cls := 0x8B, tag := tag, resets := false
               release := some (ref.screen, s.screens[ref.screen.val].released)
               payload := [code.code, 0] ++ le 2 k.origin.toNat ++ [k.kind.code] ++ le 2 k.number.toNat ++ [0, 0]
                ++ [BitVec.ofNat 8 k.profile.val] ++ List.replicate 14 0 }

/-- The screens after the one entry that each of these screens holds has left. -/
def State.emptied (s : State) (is : List (Fin 4)) : Vector Screen 4 :=
  .ofFn fun i => if i ∈ is then { s.screens[i.val] with outstanding := [], released := s.screens[i.val].released + 1 }
    else s.screens[i.val]

/-- Requesters of different screens are completed one after another, each entry alone on its list (05 R82). -/
theorem State.completeAll_alone {s : State} {code : ResultCode} {refs : List Ref} {items : List OutItem}
    (hnodup : (refs.map (·.screen)).Nodup) (h : List.Forall₂ (s.RefusedAs code) refs items) :
    s.completeAll refs code = { s with
      link := { s.link with replies := s.link.replies ++ items }
      screens := s.emptied (refs.map (·.screen)) } := by
  induction refs generalizing s items with
  | nil =>
    have hsame : s.emptied [] = s.screens := by
      ext i hi : 1
      simp [State.emptied]
    cases h
    simp [State.completeAll, hsame]
  | cons ref refs ih =>
    obtain ⟨hnotin, hnodup⟩ := List.nodup_cons.mp hnodup
    obtain ⟨item, items, ⟨tag, k, x, hlist, hitem⟩, htail, rfl⟩ := List.forall₂_cons_left_iff.mp h
    have hother (a : Ref) (ha : a ∈ refs) : ¬ ref.screen.val = a.screen.val := fun e =>
      hnotin (List.mem_map.mpr ⟨a, ha, Fin.ext e.symm⟩)
    obtain ⟨t, ht⟩ : ∃ t, t = s.complete ref (.bare code) := ⟨_, rfl⟩
    have hscreens : t.screens = s.screens.set ref.screen.val { s.screens[ref.screen.val] with
        outstanding := [], released := s.screens[ref.screen.val].released + 1 } := by
      rw [ht, State.complete_alone _ hlist]
    have hrest : List.Forall₂ (t.RefusedAs code) refs items := by
      refine ((List.forall₂_and_left _ _).mpr ⟨hother, htail⟩).imp fun a b hab => ?_
      obtain ⟨hne, hrefused⟩ := hab
      have hsame : t.screens[a.screen.val] = s.screens[a.screen.val] := by
        simp only [hscreens]
        exact Vector.getElem_set_ne _ _ hne
      rwa [State.RefusedAs, hsame]
    have hall : s.completeAll (ref :: refs) code = t.completeAll refs code := by rw [ht]; rfl
    have hunion : t.emptied (refs.map (·.screen)) = s.emptied ((ref :: refs).map (·.screen)) := by
      ext i hi : 1
      simp only [State.emptied, Vector.getElem_ofFn, hscreens, List.map_cons, List.mem_cons]
      by_cases href : ref.screen.val = i
      · subst href
        simp [hnotin]
      · have hne : ¬ (⟨i, hi⟩ : Fin 4) = ref.screen := fun e => href (congrArg Fin.val e).symm
        rw [Vector.getElem_set_ne _ _ href]
        simp only [hne, false_or]
    rw [hall, ih hnodup hrest, hunion, ht, State.complete_alone _ hlist, List.append_cons _ item, hitem]
    rfl

/-! ## What the engines find after the step -/

section
variable {s : State} {u : Fin 2} {v n : SearchUnit} {queue : List SearchEntry} {r : SearchResult}

/-- Where no entry waits, or no unit is IDLE, no unit takes an entry (04 R56). -/
theorem State.giveUnits_rest (hm : s.mod.mode = .service)
    (h : NoneWaits s.search.queue ∨ ∀ w : Fin 2, s.search.units[w.val].state ≠ .idle) : s.giveUnits = s :=
  State.giveUnits_of_grants hm (.inl ⟨h, rfl, rfl⟩)

/-- Where no place waits the composer takes none (05 R81). -/
theorem State.serveComposer_rest (h : s.rco.queue = []) : s.serveComposer = s := by
  rw [State.serveComposer, h, State.takePlaces, ← h]

/-- Where no query waits the directory takes none (08 R137). -/
theorem State.serveDirectory_rest (h : s.dir.queue = []) : s.serveDirectory = s := by
  rw [State.serveDirectory, h, State.takeQueries, ← h]

/-- Where no MODE_SET FROZEN waits none is answered. -/
theorem State.answerFreezing_none (h : s.mod.freezing = none) : s.answerFreezing = s := by
  rw [State.answerFreezing, h]

/-- A freed unit has taken the oldest WAITING entry of those left, or is IDLE (04 R56, R69). -/
theorem State.Freed.freeUnit (hm : s.mod.mode = .service) (h : s.Freed u queue n) :
    s.freeUnit u = { s with search := { queue := queue, units := s.search.units.set u.val n } } := by
  obtain ⟨left, rfl, ⟨hnone, rfl, rfl⟩ | ⟨e, hgrant, rfl⟩⟩ := h
  · exact State.giveUnit_of_noneWaits u hnone
  · have hidle : ((({ s with search := { s.search with
        queue := s.search.queue.filter fun e => decide (e.unit ≠ some u) } } : State).onUnit u
          fun _ => .idle).search.units[u.val]).state = .idle := by simp [SearchUnit.idle]
    refine (State.giveUnit_of_granted ?_ hidle hgrant).trans ?_
    · exact hm
    simp only [State.onUnit, Vector.set_set]
    rfl

/-- After that no unit takes another entry, where before the other unit could take none. -/
theorem State.Freed.rests (h : s.Freed u queue n)
    (hw : NoneWaits s.search.queue ∨ ∀ w : Fin 2, w ≠ u → s.search.units[w.val].state ≠ .idle) :
    NoneWaits queue ∨ ∀ w : Fin 2, (s.search.units.set u.val n)[w.val].state ≠ .idle := by
  obtain ⟨left, rfl, ⟨hnone, rfl, rfl⟩ | ⟨e, ⟨older, younger, hleft, -, hwaits, -⟩, rfl⟩⟩ := h
  · exact .inl hnone
  · have hmem : e ∈ s.search.queue :=
      List.mem_of_mem_filter (hleft ▸ List.mem_append_right older (List.mem_cons_self ..))
    refine .inr fun w => ?_
    by_cases hwu : w = u
    · subst w
      simp [State.begun]
    · have hne : ¬ u.val = w.val := fun e => hwu (Fin.ext e.symm)
      simpa [hne] using hw.resolve_left (fun hn => hn e hmem hwaits) w hwu

/-- The requesters of a unit's one entry (04 R69). -/
theorem State.requestersOf_single {e : SearchEntry}
    (h : (s.search.queue.filter fun e => decide (e.unit = some u)) = [e]) : s.requestersOf u = e.requesters := by
  rw [State.requestersOf, ← List.head?_filter, h]
  rfl

/-- The composer without a job makes an OK result its job (05 R81). -/
theorem State.takePlaces_ok (hm : s.mod.mode = .service) (hj : s.rco.job = none)
    (hr : s.search.units[u.val].result = some r) (hok : r.code = .ok) (hf : s.Freed u queue n) :
    s.takePlaces [u] = { s with
      search := { queue := queue, units := s.search.units.set u.val n }
      rco := { queue := [], job := some (jobOf s.search.units[u.val] r (s.requestersOf u)) } } := by
  simp only [State.takePlaces, hj, hr, hok, if_true, hf.freeUnit hm]

/-- The composer without a job completes the requesters of any other result (05 R82). -/
theorem State.takePlaces_refused (hm : s.mod.mode = .service) (hj : s.rco.job = none)
    (hr : s.search.units[u.val].result = some r) (hno : r.code ≠ .ok) (hf : s.Freed u queue n) :
    s.takePlaces [u] =
      { ({ s with search := { queue := queue, units := s.search.units.set u.val n } } : State).completeAll
          (s.requestersOf u) r.code with rco := { s.rco with queue := [] } } := by
  simp only [State.takePlaces, hj, hr, hno, if_false, hf.freeUnit hm, State.completeAll_keeps]

/-- The unit that a settle step leaves in HANDOFF, its place at the end of the composer queue (04 R69). -/
def State.handedOff (s : State) (u : Fin 2) (v : SearchUnit) : State :=
  { s with
    search := { s.search with units := s.search.units.set u.val { v with state := .handoff } }
    rco := { s.rco with queue := s.rco.queue ++ [u] } }

/-- The settle step of a RUNNING unit ends and the engines take what waits (04 R61). -/
theorem exec_settleStep_running (hlow : s.resetLow = false) (hfr : s.mod.freezing = none)
    (hrun : s.search.units[u.val].state = .running) :
    exec (.settleStep u) s = .next (s.endSettle u (s.settle s.search.units[u.val])).serve := by
  rw [exec, execSettleStep, whileRunning_high hlow, if_pos hrun, State.answerFreezing_none (by simpa using hfr)]

/-- A settle step that ends a search whose entry still stands hands its unit off (04 R69). -/
theorem State.endSettle_handedOff (howns : ∃ e ∈ s.search.queue, e.unit = some u) (hr : v.result = some r) :
    s.endSettle u v = s.handedOff u v := by
  have hown : s.ownsEntry u = true := by simpa [State.ownsEntry] using howns
  have hsome : v.result.isSome = true := by rw [hr]; rfl
  simp only [State.endSettle, hown, hsome, Bool.not_true, Bool.false_eq_true, if_false, if_true]
  rfl

/-! ## The step in SERVICE -/

/-- A unit in SERVICE runs a search whose entry still stands; no query waits, and no other unit could take an entry that
does. -/
structure State.Searching (s : State) (u : Fin 2) : Prop where
  high : s.resetLow = false
  service : s.mod.mode = .service
  unfrozen : s.mod.freezing = none
  noQuery : s.dir.queue = []
  othersRest : NoneWaits s.search.queue ∨ ∀ w : Fin 2, w ≠ u → s.search.units[w.val].state ≠ .idle
  running : s.search.units[u.val].state = .running
  owns : ∃ e ∈ s.search.queue, e.unit = some u

/-- A composer that holds a job leaves a result at its unit, in HANDOFF, and queues its place (04 R69, 05 R81). -/
theorem State.Searching.handsOff (h : s.Searching u) (hv : s.settle s.search.units[u.val] = v) (hr : v.result = some r)
    (hj : s.rco.job ≠ none) : exec (.settleStep u) s = .next (s.handedOff u v) := by
  obtain ⟨j, hj⟩ := Option.ne_none_iff_exists'.mp hj
  have hcomposer : (s.handedOff u v).serveComposer = s.handedOff u v := State.takePlaces_busy _ _ j hj
  have hunits : (s.handedOff u v).giveUnits = s.handedOff u v := by
    refine State.giveUnits_rest h.service (h.othersRest.imp_right fun hw w => ?_)
    by_cases hwu : w = u
    · subst w
      simp [State.handedOff]
    · have hne : ¬ u.val = w.val := fun e => hwu (Fin.ext e.symm)
      simpa [State.handedOff, hne] using hw w hwu
  rw [exec_settleStep_running h.high h.unfrozen h.running, hv, State.endSettle_handedOff h.owns hr, State.serve, hcomposer,
    hunits, State.serveDirectory_rest (s := s.handedOff u v) h.noQuery]

/-- Where the composer, idle, takes the unit's place, the other engines find nothing to take after it. -/
theorem State.Searching.taken (h : s.Searching u) (hv : s.settle s.search.units[u.val] = v) (hr : v.result = some r)
    (hq : s.rco.queue = []) (hf : s.Freed u queue n) {t : State} (ht : (s.handedOff u v).takePlaces [u] = t)
    (hsearch : t.search = { queue := queue, units := s.search.units.set u.val n }) :
    exec (.settleStep u) s = .next t := by
  have hcomposer : (s.handedOff u v).serveComposer = t := by
    rw [← ht, State.serveComposer]
    simp only [State.handedOff, hq, List.nil_append]
  have hm : t.mod.mode = .service := by
    rw [← ht, (State.takePlaces_keeps ..).2.1]
    exact h.service
  have hd : t.dir.queue = [] := by
    simpa [← ht, State.handedOff] using h.noQuery
  have hunits : t.giveUnits = t := by
    refine State.giveUnits_rest hm ?_
    rw [hsearch]
    exact hf.rests h.othersRest
  rw [exec_settleStep_running h.high h.unfrozen h.running, hv, State.endSettle_handedOff h.owns hr, State.serve, hcomposer,
    hunits, State.serveDirectory_rest hd]

/-- The unit of a place that the composer takes was left in HANDOFF with its result. -/
theorem State.handedOff_result (hr : v.result = some r) : (s.handedOff u v).search.units[u.val].result = some r := by
  simpa [State.handedOff] using hr

/-- A composer without a job makes an OK result its job, and the unit is freed (04 R69, 05 R81). -/
theorem State.Searching.makesJob (h : s.Searching u) (hv : s.settle s.search.units[u.val] = v) (hr : v.result = some r)
    (hok : r.code = .ok) (hj : s.rco.job = none) (hq : s.rco.queue = []) (hf : s.Freed u queue n) :
    exec (.settleStep u) s = .next { s with
      search := { queue := queue, units := s.search.units.set u.val n }
      rco := { queue := [], job := some (jobOf v r (s.requestersOf u)) } } := by
  refine h.taken hv hr hq hf ?_ rfl
  rw [State.takePlaces_ok (s := s.handedOff u v) h.service hj (State.handedOff_result hr) hok hf]
  simp only [State.handedOff, Vector.set_set, Vector.getElem_set_self]
  rfl

/-- A composer without a job completes the requesters of any other result, and the unit is freed (05 R82). -/
theorem State.Searching.refuses (h : s.Searching u) (hv : s.settle s.search.units[u.val] = v) (hr : v.result = some r)
    (hno : r.code ≠ .ok) (hj : s.rco.job = none) (hq : s.rco.queue = []) (hf : s.Freed u queue n) {e : SearchEntry}
    (he : (s.search.queue.filter fun e => decide (e.unit = some u)) = [e])
    (hnodup : (e.requesters.map (·.screen)).Nodup) {items : List OutItem}
    (hitems : List.Forall₂ (s.RefusedAs r.code) e.requesters items) :
    exec (.settleStep u) s = .next { s with
      search := { queue := queue, units := s.search.units.set u.val n }
      link := { s.link with replies := s.link.replies ++ items }
      screens := s.emptied (e.requesters.map (·.screen)) } := by
  refine h.taken hv hr hq hf ?_ rfl
  have hrefs : (s.handedOff u v).requestersOf u = e.requesters := State.requestersOf_single he
  rw [State.takePlaces_refused (s := s.handedOff u v) h.service hj (State.handedOff_result hr) hno hf, hrefs,
    State.completeAll_alone (s := { s.handedOff u v with search := _ }) hnodup hitems]
  simp only [State.handedOff, Vector.set_set]
  rw [← hq]
  rfl

/-- A settle step that leaves no result changes its unit alone (04 R61, R66). -/
theorem State.Searching.goesOn (h : s.Searching u) (hv : s.settle s.search.units[u.val] = v) (hr : v.result = none)
    (hrun : v.state = .running) (hq : s.rco.queue = []) :
    exec (.settleStep u) s = .next { s with search := { s.search with units := s.search.units.set u.val v } } := by
  have hown : s.ownsEntry u = true := by simpa [State.ownsEntry] using h.owns
  obtain ⟨t, ht⟩ : ∃ t, t = s.onUnit u fun _ => v := ⟨_, rfl⟩
  have hend : s.endSettle u v = t := by
    simp [State.endSettle, hown, hr, h.service, ht]
  have hunits : t.giveUnits = t := by
    refine State.giveUnits_rest (by simpa [ht] using h.service) ?_
    rw [ht]
    refine h.othersRest.imp_right fun hw w => ?_
    rw [State.onUnit_get]
    split
    · rw [hrun]
      exact nofun
    · exact hw w ‹_›
  rw [exec_settleStep_running h.high h.unfrozen h.running, hv, hend, State.serve,
    State.serveComposer_rest (by simpa [ht] using hq), hunits, State.serveDirectory_rest (by simpa [ht] using h.noQuery), ht]
  rfl

end

/-- Settles O39: what the settle step finds decides between its three ends, and the composer's job what becomes of a
result. -/
theorem searchEnds : Obligations.SearchEnds := by
  unfold Obligations.SearchEnds
  rintro s u old hhigh hm hfr hd hothers rfl hrun howns
  have hs : s.Searching u := ⟨hhigh, hm, hfr, hd, hothers, hrun, howns⟩
  refine ⟨fun v code hends hj => ?_, fun v code e items queue n hends hf hj hq he hnodup hitems => ?_,
    fun c w rest path v hfront hw hhid hv hpath => ?_⟩
  · exact hs.handsOff hends.settle.1 rfl hj
  · exact hs.refuses hends.settle.1 rfl hends.settle.2 hj hq hf he hnodup hitems
  · obtain rfl : v = s.search.units[u.val].settleHead w rest := hv
    subst hpath
    have hcheck := State.settle_checksPath hfront hw hhid
    refine ⟨fun cacheable hopen hcacheable => ?_, fun hq hres hr hclosed => ?_⟩
    · have hsettle := hcheck.trans (State.checkPath_open hopen)
      subst hcacheable
      rw [← cacheableMark_eq]
      exact ⟨fun queue n hf hj hq => hs.makesJob hsettle rfl rfl hj hq hf, fun hj => hs.handsOff hsettle rfl hj⟩
    · exact hs.goesOn (hcheck.trans (State.checkPath_restarts hclosed hr)) hres hrun hq

end Sys2Proof.Machine
end

section
/-! PROOFS. The end of a frame that forms a selection: its UP, the selection, and the panel after it (10 R169, R173, R174,
R176, R178). -/

namespace Sys2Proof.Machine

section
variable {s : State} {p : Fin 4} {f : Processing}

/-! ## A frame without a peak -/

/-- Where every cell's strength lies below a threshold, so does the strength read at every cell of the grid (10 R168). -/
theorem strengthAt_lt {curve : Vector Byte 256} {samples base : Vector Sample 960} {low : Nat}
    (h : ∀ k : Fin 960, strengthOf curve samples[k.val] base[k.val] < low) (c r : Nat) :
    strengthAt (strengths curve samples base) c r < low := by
  have hlow : 0 < low := Nat.lt_of_le_of_lt (Nat.zero_le _) (h 0)
  simp only [strengthAt, strengths, Vector.toArray_ofFn, Array.getD_eq_getD_getElem?, Array.getElem?_ofFn]
  split
  · rename_i hk
    exact h ⟨_, hk⟩
  · exact hlow

/-- A frame whose strengths all lie below the low threshold has no peak (10 R169). -/
theorem peaksOf_eq_nil {m : Vector Nat 960} {low : Nat} (h : ∀ c r, strengthAt m c r < low) (width height : Nat) :
    peaksOf m low width height = [] := by
  have hnone (c r : Nat) : isPeak m low c r = false := by
    rw [isPeak, decide_eq_false (Nat.not_le.mpr (h c r)), Bool.false_and]
  simp [peaksOf, hnone]

/-- Without a peak no track claims anything (10 R172). -/
theorem claimPeaks_nil (ts : List Track) : claimPeaks ts [] = (List.replicate ts.length .nothing, []) := by
  induction ts with
  | nil => rfl
  | cons t ts ih => simp [claimPeaks, nearest, ih, List.replicate_succ]

/-- Without a peak no track is opened (10 R172). -/
theorem openTracks_nil (ts : List Track) (cs : List Claim) : openTracks ts cs [] = (cs, []) := by
  induction ts generalizing cs with
  | nil => cases cs <;> rfl
  | cons t ts ih => cases cs <;> simp [openTracks, ih]

/-- Without a peak no track claims anything, and none is over (10 R172). -/
theorem matchPeaks_nil (ts : List Track) : matchPeaks ts [] = (List.replicate ts.length .nothing, false) := by
  simp [matchPeaks, claimPeaks_nil, openTracks_nil]

/-! ## The tracks of such a frame -/

/-- An update that leaves a panel as it is leaves the state. -/
theorem State.onPanel_same {g : Panel → Panel} (h : g s.panels[p.val] = s.panels[p.val]) : s.onPanel p g = s := by
  rw [State.onPanel, h, Vector.set_getElem_self]

/-- A FREE track that nothing opens stays (10 R173). -/
theorem State.advanceTrack_free {i : Fin 5} (h : s.panels[p.val].tracks[i.val] = Track.free) :
    s.advanceTrack p f i .nothing = s := by
  unfold State.advanceTrack State.track
  rw [h]
  rfl

/-- A DOWN track that the second frame in a row misses goes up (10 R173, R174). -/
theorem State.advanceTrack_up {i : Fin 5} (hdown : s.panels[p.val].tracks[i.val].state = .down)
    (hmissing : s.panels[p.val].tracks[i.val].missing = 1) : s.advanceTrack p f i .nothing = s.goUp p i f := by
  unfold State.advanceTrack State.track
  simp [hdown, hmissing]

/-- Updates that answer the same panel are the same. -/
theorem State.onPanel_congr {g g' : Panel → Panel} (h : g s.panels[p.val] = g' s.panels[p.val]) :
    s.onPanel p g = s.onPanel p g' := by
  rw [State.onPanel, h, State.onPanel]

/-- Two updates of a panel are one. -/
theorem State.onPanel_onPanel (g g' : Panel → Panel) : (s.onPanel p g).onPanel p g' = s.onPanel p fun q => g' (g q) := by
  simp [State.onPanel]

/-- The state in which SES takes the selection that an UP forms: CONTACT UP has been reported (10 R174, R176). -/
def State.upReported (s : State) (p : Fin 4) : State := { s with link := (s.afterUp p).link }

/-- The UP of a track that forms a selection: CONTACT UP is reported, the selection taken, and the track FREE (10 R174,
R176). -/
theorem State.goUp_of_formsSelection {h : Nat} {x : Hotspot} (hforms : s.formsSelection p f h x)
    (hslot : s.link.reportsHeld + s.link.reserved < 32) :
    s.goUp p 0 f = ((s.upReported p).select p h f.pageNumber x.action).onTrack p 0 fun _ => .free := by
  obtain ⟨-, -, -, -, ⟨-, -, hprimary, hhotspot, hpage, hhit⟩, hx, -, -, -, -, -, -, -, hcontact, -⟩ := hforms
  have hreported : s.reportContact p 0 .up false s.panels[p.val].tracks[0].position = s.upReported p := by
    have hfree : s.link.reportSlotFree = true := by
      simpa [LinkState.reportSlotFree, Config.reportSlots] using hslot
    simp only [State.reportContact, State.offerReport, hcontact, State.queueReport, hfree]
    rfl
  have hselected : selected f s.panels[p.val].tracks[0] = some (h, x) := by
    simp [selected, hhotspot, hprimary, hhit, hpage, hx]
  unfold State.goUp State.track
  simp only [Fin.val_zero, hreported, hselected]

/-- The tracks of a panel of which only track 0 is in use, with that one FREE. -/
theorem tracks_set_free {ts : Vector Track 5} (h : ∀ k : Fin 5, k ≠ 0 → ts[k.val] = Track.free) :
    ts.set 0 Track.free = .replicate 5 Track.free := by
  ext i hi
  by_cases hzero : i = 0
  · subst hzero
    simp
  · rw [Vector.getElem_set_ne (by omega) hi (Ne.symm hzero), Vector.getElem_replicate]
    exact h ⟨i, hi⟩ fun e => hzero (congrArg Fin.val e)

/-- Where no track claims anything, each is brought forward so, track 0 first. -/
theorem State.advanceTracks_nothing : s.advanceTracks p f (List.replicate 5 .nothing) =
    [1, 2, 3, 4].foldl (fun t k => t.advanceTrack p f k .nothing) (s.advanceTrack p f 0 .nothing) := by
  have hzip : fiveTracks.zip (List.replicate 5 Claim.nothing) = fiveTracks.map fun k => (k, .nothing) := rfl
  rw [State.advanceTracks, hzip, List.foldl_map, fiveTracks, List.foldl_cons]

/-- FREE tracks that nothing opens stay. -/
theorem State.advanceTracks_free (ks : List (Fin 5)) (h : ∀ k ∈ ks, s.panels[p.val].tracks[k.val] = Track.free) :
    ks.foldl (fun t k => t.advanceTrack p f k .nothing) s = s := by
  induction ks with
  | nil => rfl
  | cons k ks ih =>
    rw [List.foldl_cons, State.advanceTrack_free (h k List.mem_cons_self), ih fun j hj => h j (List.mem_cons_of_mem k hj)]

/-- A frame that leaves every track FREE raises a drift count that stays below 8 (10 R178). -/
theorem Panel.drifted_free {q : Panel} (htracks : q.tracks = .replicate 5 .free) (hdrift : q.drift < 7)
    (hcancelled : f.driftCancelled = false) : q.drifted f = { q with drift := q.drift + 1 } := by
  have hall : q.tracks.toList.all (fun t => decide (t.state = .free)) = true := by
    rw [htracks]
    rfl
  rw [Panel.drifted, if_neg (by simp [hcancelled]), if_pos hall, if_pos (by omega)]

/-- The detection of a frame that forms a selection: CONTACT UP, the selection, the track FREE and the drift count raised
(10 R174, R176, R178). -/
theorem State.detect_of_formsSelection {h : Nat} {x : Hotspot} (hforms : s.formsSelection p f h x)
    (hslot : s.link.reportsHeld + s.link.reserved < 32) :
    s.detect p f = ((s.upReported p).select p h f.pageNumber x.action).onPanel p fun q =>
      { q with drift := q.drift + 1, tracks := .replicate 5 .free } := by
  have hup := State.goUp_of_formsSelection hforms hslot
  obtain ⟨-, -, -, -, ⟨hdown, hmissing, -⟩, -, hfree, hdrift, hcancelled, hlow, -⟩ := hforms
  have hmatch : matchPeaks s.panels[p.val].tracks.toList
      (peaksOf (strengths f.curve f.frame.samples f.baseline) f.config.low.toNat f.width f.height)
      = (List.replicate 5 .nothing, false) := by
    rw [peaksOf_eq_nil (strengthAt_lt hlow), matchPeaks_nil, Vector.length_toList]
  have hself : (s.onPanel p fun q => { q with overContact := q.overContact || false }) = s :=
    State.onPanel_same (by simp)
  obtain ⟨t, ht⟩ : ∃ t, t = (s.upReported p).select p h f.pageNumber x.action := ⟨_, rfl⟩
  have hpanels : t.panels = s.panels := by rw [ht]; simp [State.upReported]
  have hothers (k : Fin 5) (hk : k ≠ 0) : (t.onTrack p 0 fun _ => .free).panels[p.val].tracks[k.val] = Track.free := by
    have := State.onTrack_track (s := t) p p 0 k fun _ => .free
    rw [State.track] at this
    rw [this, if_neg (by simp [hk]), State.track, hpanels, hfree k hk]
  have htracks : s.advanceTracks p f (List.replicate 5 .nothing) = t.onTrack p 0 fun _ => .free := by
    rw [State.advanceTracks_nothing, State.advanceTrack_up hdown hmissing, hup, ← ht,
      State.advanceTracks_free [1, 2, 3, 4] fun k hk => hothers k (by rintro rfl; simp at hk)]
  have hset : t.panels[p.val].tracks.set 0 Track.free = .replicate 5 Track.free := by rw [hpanels, tracks_set_free hfree]
  simp only [State.detect, hmatch, hself, htracks, ← ht]
  rw [State.onTrack, State.onPanel_onPanel]
  refine State.onPanel_congr ?_
  exact (Panel.drifted_free hset (hpanels ▸ hdrift) hcancelled).trans
    (congrArg (fun ts => { t.panels[p.val] with drift := t.panels[p.val].drift + 1, tracks := ts }) hset)

/-- The end of a frame that forms a selection: CONTACT UP, the selection, and then the panel with its tracks FREE and its
drift count raised (10 R174, R176, R178). -/
theorem exec_frameProcessed_of_formsSelection {h : Nat} {x : Hotspot} (hforms : s.formsSelection p f h x)
    (hslot : s.link.reportsHeld + s.link.reserved < 32) :
    exec (.frameProcessed p) s =
      .next { (s.upReported p).select p h f.pageNumber x.action with panels := (s.afterUp p).panels } := by
  have hdetect := State.detect_of_formsSelection hforms hslot
  obtain ⟨hhigh, hproc, hrole, hinject, -⟩ := hforms
  obtain ⟨t, ht⟩ : ∃ t, t = (s.upReported p).select p h f.pageNumber x.action := ⟨_, rfl⟩
  have hpanels : t.panels = s.panels := by rw [ht]; simp [State.upReported]
  have hexec : exec (.frameProcessed p) s = .next (s.finishFrame p) := whileRunning_high hhigh fun s => s.finishFrame p
  rw [hexec, State.finishFrame, hproc]
  simp only [hrole, hinject, hdetect, State.answerInject, ← ht, State.onPanel, hpanels, State.afterUp]
  simp
end

end Sys2Proof.Machine
end

section
/-! PROOFS. The actions of a selection: what each does to its screen, and the SELECTION report behind it (09 R156 to R160,
10 R176). -/

namespace Sys2Proof.Machine

section
variable {s : State} {p : Fin 4} {f : Processing} {h : Nat} {x : Hotspot}

/-! ## The state in which an action is carried out -/

/-- The state in which the action of a selection leaves this screen: CONTACT UP has been reported. -/
def State.acting (s : State) (p : Fin 4) (c : Screen) : State := { s.upReported p with screens := s.screens.set p.val c }

/-- The screen that the action leaves. -/
theorem State.acting_screen (c : Screen) : (s.acting p c).screens[p.val] = c := Vector.getElem_set_self p.isLt

/-- An update of the acting screen. -/
theorem State.acting_onScreen (c : Screen) (g : Screen → Screen) : (s.acting p c).onScreen p g = s.acting p (g c) := by
  simp [State.onScreen, State.acting]

/-- On an enabled screen the session becomes ACTIVE before the action (09 R156). -/
theorem State.carryOut_enabled {c : Screen} (hc : c = s.screens[p.val]) (henabled : c.enabled = true) (a : Action) :
    (s.upReported p).carryOut p a = (s.acting p { c with active := true, idle := some 0 }).doAction p a := by
  subst hc
  have hon : (s.upReported p).screens[p.val].enabled = true := henabled
  rw [State.carryOut, if_pos hon, State.touchSession_enabled hon]
  rfl

/-- On a screen that is not enabled every action is PLAIN (09 R156). -/
theorem State.carryOut_disabled {c : Screen} (hc : c = s.screens[p.val]) (hdisabled : c.enabled = false) (a : Action) :
    (s.upReported p).carryOut p a = plainOutcome (s.acting p c) := by
  subst hc
  have hoff : ¬ (s.upReported p).screens[p.val].enabled = true := by
    rw [State.upReported, hdisabled]
    exact Bool.false_ne_true
  rw [State.carryOut, if_neg hoff, State.acting, Vector.set_getElem_self]
  rfl

/-! ## The SELECTION report -/

/-- Queueing into a free slot (11 R186). -/
theorem State.queueReport_free (hfree : s.link.reportsHeld + s.link.reserved < 32) (cls : Byte) (payload : List Byte) :
    s.queueReport cls payload = { s with link := { s.link with reports := s.link.reports ++
      [{ cls := cls, tag := 0, payload := payload, release := none, resets := false }] } } := by
  rw [State.queueReport, if_pos (by simpa [LinkState.reportSlotFree, Config.reportSlots] using hfree)]
  rfl

/-- Without a free slot a report is dropped (11 R186). -/
theorem State.queueReport_full (hfull : 32 ≤ s.link.reportsHeld + s.link.reserved) (cls : Byte) (payload : List Byte) :
    s.queueReport cls payload = { s with link := { s.link with overrun := true } } := by
  rw [State.queueReport, if_neg (by simpa [LinkState.reportSlotFree, Config.reportSlots] using hfull)]
  rfl

/-- CONTACT UP holds one more report slot. -/
theorem State.upReported_held : (s.upReported p).link.reportsHeld = s.link.reportsHeld + 1 := by
  simp only [State.upReported, State.afterUp, LinkState.reportsHeld, List.length_append, List.length_singleton]
  omega

/-- The SELECTION report of an action's outcome, offered where SELECTION is not masked (10 R176, 11 R188). -/
def ActionOutcome.reported (o : ActionOutcome) (p : Fin 4) (f : Processing) (h : Nat) (x : Hotspot) : State :=
  o.state.queueReport 0x42
    [BitVec.ofNat 8 p.val, BitVec.ofNat 8 h, f.pageNumber, x.action.code, selectionFlags o.droppedBusy o.textFull]

/-- The end of a frame that forms a selection, by the outcome of its action (09 R156, 10 R176). -/
theorem exec_frameProcessed_of_outcome (hforms : s.formsSelection p f h x)
    (hslot : s.link.reportsHeld + s.link.reserved < 32) {o : ActionOutcome}
    (ho : (s.upReported p).carryOut p x.action = o) (hmask : o.state.link.mask = s.link.mask) :
    exec (.frameProcessed p) s =
      .next { ((o.reported p f h x).release p).serve with panels := (s.afterUp p).panels } := by
  have hexec := exec_frameProcessed_of_formsSelection hforms hslot
  obtain ⟨-, -, -, -, -, -, -, -, -, -, -, -, -, -, hselection⟩ := hforms
  have hunmasked : ¬ o.state.link.masked .selection = true := by
    rw [LinkState.masked, hmask, ← LinkState.masked, hselection]
    exact Bool.false_ne_true
  rw [hexec, State.select, ho, State.offerReport, if_neg hunmasked]
  rfl

/-- Where the head of a list waits nothing is released (09 R151). -/
theorem State.release_of_headWaits {i : Fin 4} (h : s.screens[i.val].headWaits) : s.release i = s := by
  have hself := State.withList_self (s := s) i
  rw [State.release]
  cases hl : s.screens[i.val].outstanding with
  | nil => rwa [hl] at hself
  | cons e es =>
    rw [State.releaseList_stop _ _ _ _ (h e (by rw [hl]; rfl))]
    rwa [hl] at hself

/-- Where the head of a list waits and nothing waits for an engine, a release and a serving change nothing. -/
theorem State.rests_of_quiet {i : Fin 4} (hwaits : s.screens[i.val].headWaits) (hquiet : s.EnginesQuiet) :
    (s.release i).serve = s := by
  rw [State.release_of_headWaits hwaits, State.serve_quiet hquiet]

/-- A selection whose action makes no request and leaves the list: the SELECTION report stands behind CONTACT UP, or is
dropped where the UP has taken the last slot (09 R156, 11 R186). -/
theorem exec_frameProcessed_of_no_request (hforms : s.formsSelection p f h x) {c : Screen} {busy full : Bool}
    (hlist : c.outstanding = s.screens[p.val].outstanding)
    (ho : (s.upReported p).carryOut p x.action = { state := s.acting p c, droppedBusy := busy, textFull := full }) :
    (s.link.reportsHeld + s.link.reserved + 2 ≤ 32 →
      exec (.frameProcessed p) s = .next (s.afterSelection p f h x (selectionFlags busy full) c))
    ∧ (s.link.reportsHeld + s.link.reserved = 31 → exec (.frameProcessed p) s = .next (s.afterDropped p c)) := by
  have hexec (hslot : s.link.reportsHeld + s.link.reserved < 32) := exec_frameProcessed_of_outcome hforms hslot ho rfl
  obtain ⟨-, -, -, -, -, -, -, -, -, -, hwaits, hquiet, -⟩ := hforms
  have hacting : (s.acting p c).screens[p.val].headWaits := by
    rw [State.acting_screen, Screen.headWaits, hlist]
    exact hwaits
  have hrests (l : LinkState) := State.rests_of_quiet (s := { s.acting p c with link := l }) hacting hquiet
  have hheld : (s.acting p c).link.reportsHeld + (s.acting p c).link.reserved = s.link.reportsHeld + 1 + s.link.reserved :=
    congrArg (· + s.link.reserved) State.upReported_held
  constructor
  · intro hslots
    rw [hexec (by omega), ActionOutcome.reported, State.queueReport_free (by rw [hheld]; omega), hrests]
    rfl
  · intro hlast
    rw [hexec (by omega), ActionOutcome.reported, State.queueReport_full (by rw [hheld]; omega), hrests]
    rfl

end

end Sys2Proof.Machine
end

section
/-! PROOFS. What an action edits and whether it makes a request (09 R156 to R159). -/

namespace Sys2Proof.Machine

section
variable {s : State} {p : Fin 4}

/-! ## Requests (09 R156) -/

variable {ask : Ask} {dispatch : State → Ref → State}

/-- In LOADING and CHECKING no request is made. -/
theorem State.panelRequest_outside (hm : s.mod.mode.serving = false) :
    s.panelRequest p ask dispatch = plainOutcome s := by
  rw [State.panelRequest, if_pos hm]

/-- A request for which the list has no room, or no report slot is free, is not made: DROPPED_BUSY. -/
theorem State.panelRequest_busy (hm : s.mod.mode.serving = true)
    (h : 4 ≤ s.screens[p.val].outstanding.length ∨ 32 ≤ s.link.reportsHeld + s.link.reserved) :
    s.panelRequest p ask dispatch = { state := s, droppedBusy := true, textFull := false } := by
  rw [State.panelRequest, if_neg (by simp [hm]), if_pos]
  simpa [State.hasRoom, LinkState.reportSlotFree, Config.outstandingCapacity, Config.reportSlots] using h

/-- The screen whose panel has made a request: its entry has joined the list under the panel sequence number. -/
def Screen.asking (c : Screen) (ask : Ask) : Screen :=
  { c with
    outstanding := c.outstanding ++ [{ id := c.nextId, asker := .panel c.seq, ask := ask, result := none }]
    nextId := c.nextId + 1, seq := c.seq + 1 }

/-- The state in which a request of a selection's action is dispatched: a report slot is reserved for it. -/
def State.requesting (s : State) (p : Fin 4) (c : Screen) : State :=
  { s.acting p c with link := { (s.upReported p).link with reserved := s.link.reserved + 1 } }

/-- A request for which a report slot is left behind CONTACT UP, and room in the list, is made and dispatched. -/
theorem State.panelRequest_made {c : Screen} (hm : s.mod.mode.serving = true) (hroom : c.outstanding.length < 4)
    (hslot : s.link.reportsHeld + s.link.reserved + 2 ≤ 32) :
    (s.acting p c).panelRequest p ask dispatch =
      plainOutcome (dispatch (s.requesting p (c.asking ask)) { screen := p, id := c.nextId }) := by
  have hfree : (s.acting p c).link.reportSlotFree = true := by
    have hheld : (s.acting p c).link.reportsHeld = s.link.reportsHeld + 1 := State.upReported_held
    have hreserved : (s.acting p c).link.reserved = s.link.reserved := rfl
    simp only [LinkState.reportSlotFree, hheld, hreserved, Config.reportSlots, decide_eq_true_eq]
    omega
  have hhas : (s.acting p c).hasRoom p = true := by
    simpa [State.hasRoom, State.acting_screen, Config.outstandingCapacity] using hroom
  have hserving : (s.acting p c).mod.mode.serving = true := hm
  have hcreate : (s.acting p c).createPanelEntry p ask = s.requesting p (c.asking ask) := by
    simp [State.createPanelEntry, State.join, State.onScreen, State.onLink, State.acting, State.requesting, Screen.asking]
    rfl
  rw [State.panelRequest, if_neg (by simp [hserving]), if_neg (by simp [hhas, hfree]), hcreate, State.nextRef,
    State.acting_screen]

/-! ## Edits (09 R158, R159) -/

/-- A screen with its text and its terms edited. -/
def Screen.edited (c : Screen) (text : List Byte) (terms : Terms) : Screen := { c with text := text, terms := terms }

/-- The screen of a selection whose edit has been made. -/
def Screen.editing (c : Screen) (text : List Byte) (terms : Terms) : Screen :=
  ({ c with active := true, idle := some 0 } : Screen).edited text terms

/-- What an edit comes to: the edited screen, with a query of it where the edit calls for one, and TEXT_FULL. -/
def State.editOutcome (s : State) (p : Fin 4) (c : Screen) (text : List Byte) (terms : Terms) (calls : Bool) (full : Byte) :
    ActionOutcome :=
  if calls = true then (s.acting p (c.edited text terms)).panelQuery p
  else { state := s.acting p (c.edited text terms), droppedBusy := false, textFull := decide (full = 2) }

/-- A text edit (09 R158). -/
theorem State.editText_acting (c : Screen) (text : List Byte) :
    (s.acting p c).editText p text = s.editOutcome p c text c.terms true 0 := by
  rw [State.editText, State.acting_onScreen]
  rfl

/-- A text edit of a text that may be empty, which it then leaves so and calls for nothing (09 R158). -/
theorem State.editText_unless_empty (c : Screen) (text : List Byte) (hempty : c.text = [] → text = []) :
    (if c.text = [] then plainOutcome (s.acting p c) else (s.acting p c).editText p text) =
      s.editOutcome p c text c.terms (decide (c.text ≠ [])) 0 := by
  by_cases htext : c.text = []
  · rw [if_pos htext, hempty htext, decide_eq_false (not_not.mpr htext), ← htext]
    rfl
  · rw [if_neg htext, State.editText_acting, decide_eq_true htext]

/-- A term edit of a slot (09 R159). -/
theorem State.editTerm_slot (c : Screen) (j : Fin 4) (term : Option Term) :
    (s.acting p c).editTerm p (BitVec.ofNat 8 j.val) term =
      s.editOutcome p c c.text (c.terms.set j.val term) (decide (c.terms[j.val] ≠ term)) 0 := by
  have hslot : fourOf (BitVec.ofNat 8 j.val).toNat = some j := by
    revert j
    decide
  simp only [State.editTerm, hslot, State.acting_screen]
  by_cases hsame : c.terms[j.val] = term
  · subst hsame
    rw [if_pos rfl, Vector.set_getElem_self, decide_eq_false (not_not.mpr rfl)]
    rfl
  · rw [if_neg hsame, State.acting_onScreen, decide_eq_true hsame]
    rfl

/-- A term edit of a slot above 3 acts as PLAIN (09 R159). -/
theorem State.editTerm_outside (c : Screen) {slot : Byte} (h : 3 < slot.toNat) (term : Option Term) :
    (s.acting p c).editTerm p slot term = plainOutcome (s.acting p c) := by
  have hslot : fourOf slot.toNat = none := dif_neg (by omega)
  simp only [State.editTerm, hslot]

/-- What a text or term action comes to: its edit, the query that it calls for, and TEXT_FULL. -/
theorem State.doAction_edits {c : Screen} {a : Action} {text : List Byte} {terms : Terms} {calls : Bool} {full : Byte}
    (h : c.Edits a text terms calls full) :
    (s.acting p c).doAction p a = s.editOutcome p c text terms calls full := by
  unfold State.doAction
  simp only [State.acting_screen]
  obtain ⟨b, rfl, hlo, hhi, hroom, rfl, rfl, rfl, rfl⟩ | ⟨b, rfl, hlo, hhi, hfull, rfl, rfl, rfl, rfl⟩
    | ⟨b, rfl, hb, rfl, rfl, rfl, rfl⟩ | ⟨rfl, rfl, rfl, rfl, rfl⟩ | ⟨rfl, rfl, rfl, rfl, rfl⟩
    | ⟨j, term, rfl | ⟨rfl, rfl⟩, rfl, rfl, rfl, rfl⟩ | ⟨slot, term, hslot, rfl | rfl, rfl, rfl, rfl, rfl⟩ := h
  · have hvalid : symbolValid b = true := decide_eq_true ⟨hlo, hhi⟩
    simp only [hvalid, Bool.true_eq_false, if_false, Config.textCapacity, if_pos hroom, State.editText_acting]
  · have hvalid : symbolValid b = true := decide_eq_true ⟨hlo, hhi⟩
    simp only [hvalid, Bool.true_eq_false, if_false, Config.textCapacity, if_neg (Nat.not_lt.mpr hfull)]
    rfl
  · have hinvalid : symbolValid b = false := decide_eq_false (by omega)
    simp only [hinvalid, if_true]
    rfl
  · exact State.editText_unless_empty c _ fun hempty => by rw [hempty, List.dropLast_nil]
  · exact State.editText_unless_empty c _ fun _ => rfl
  · exact State.editTerm_slot c j term
  · exact State.editTerm_slot c j none
  · exact State.editTerm_outside c hslot term
  · exact State.editTerm_outside c hslot none

end

end Sys2Proof.Machine
end

section
/-! PROOFS. The actions of a selection that make no request, and the end of the frame whose action has made one (09 R156,
R157, R160). -/

namespace Sys2Proof.Machine

section
variable {s : State} {p : Fin 4} {f : Processing} {h : Nat} {x : Hotspot} {c : Screen}

/-! ## Outcomes without a request -/

/-- The link of the acting state holds one report more than before CONTACT UP. -/
theorem State.acting_slots :
    (s.acting p c).link.reportsHeld + (s.acting p c).link.reserved = s.link.reportsHeld + 1 + s.link.reserved :=
  congrArg (· + s.link.reserved) State.upReported_held

/-- An edit that calls for a query calls it with an empty TEXT_FULL, and the flag is 0 or 2 (09 R158). -/
theorem Screen.Edits.full_cases {a : Action} {text : List Byte} {terms : Terms} {calls : Bool} {full : Byte}
    (hedits : c.Edits a text terms calls full) : full = 0 ∨ (full = 2 ∧ calls = false) := by
  obtain ⟨b, -, -, -, -, -, -, -, hfull⟩ | ⟨b, -, -, -, -, -, -, hcalls, hfull⟩ | ⟨b, -, -, -, -, -, hfull⟩
    | ⟨-, -, -, -, hfull⟩ | ⟨-, -, -, -, hfull⟩ | ⟨j, term, -, -, -, -, hfull⟩
    | ⟨slot, term, -, -, -, -, -, hfull⟩ := hedits
  case inr.inl => exact .inr ⟨hfull, hcalls⟩
  all_goals exact .inl hfull

/-- An edit that calls for a query makes it a request of the edited text and terms (08 R142). -/
theorem State.editOutcome_asks (text : List Byte) (terms : Terms) (full : Byte) :
    s.editOutcome p c text terms true full = (s.acting p (c.edited text terms)).panelRequest p (.directory 0)
      fun s ref => s.dispatchQuery { ref := ref, pfx := text, terms := terms, offset := 0, maximum := 8 } := by
  simp only [State.editOutcome, if_true, State.panelQuery, State.acting_screen, Screen.edited]

/-- An edit that calls for no query, or for one outside SERVICE and FROZEN: the edit and TEXT_FULL alone. -/
theorem State.editOutcome_unasked {text : List Byte} {terms : Terms} {calls : Bool} {full : Byte}
    (hfull : full = 0 ∨ (full = 2 ∧ calls = false)) (hno : s.mod.mode.serving = false ∨ calls = false) :
    s.editOutcome p c text terms calls full =
      { state := s.acting p (c.edited text terms), droppedBusy := false, textFull := decide (full = 2) } := by
  cases calls with
  | false => rfl
  | true =>
    obtain rfl : full = 0 := hfull.resolve_right fun h => Bool.noConfusion h.2
    have hm : s.mod.mode.serving = false := hno.resolve_right (by decide)
    rw [State.editOutcome_asks, State.panelRequest_outside (s := s.acting p (c.edited text terms)) hm]
    rfl

/-- An edit whose query finds no room in the list or no report slot: DROPPED_BUSY. -/
theorem State.editOutcome_busy {text : List Byte} {terms : Terms} {full : Byte} (hm : s.mod.mode.serving = true)
    (hbusy : 4 ≤ c.outstanding.length ∨ 31 ≤ s.link.reportsHeld + s.link.reserved) :
    s.editOutcome p c text terms true full =
      { state := s.acting p (c.edited text terms), droppedBusy := true, textFull := false } := by
  rw [State.editOutcome_asks, State.panelRequest_busy (s := s.acting p (c.edited text terms)) hm]
  rw [State.acting_screen, State.acting_slots]
  exact hbusy.imp_right fun h => by omega

/-- The key of a LISTING or WAYPOINT action: from the screen's origin, with its profile (09 R157). -/
def Screen.panelKey (c : Screen) (kind : DestKind) (number : BitVec 16) : Key :=
  { origin := c.origin, kind := kind, number := number, profile := c.profile }

/-- A LISTING or WAYPOINT action as a request of its key (09 R157). -/
theorem State.panelRoute_acting (kind : DestKind) (number : BitVec 16) :
    (s.acting p c).panelRoute p kind number = (s.acting p c).panelRequest p (.route (c.panelKey kind number) false)
      fun s ref =>
        if s.destinationExists kind number.toNat then s.dispatchRoute ref (c.panelKey kind number) false
        else s.mark ref (.bare .badArgument) := by
  have hkey : (s.acting p c).screens[p.val].routeKey none kind number none = c.panelKey kind number := by
    rw [State.acting_screen]
    rfl
  simp only [State.panelRoute, hkey]

/-- A LISTING or WAYPOINT action outside SERVICE and FROZEN makes no request. -/
theorem State.panelRoute_outside (hm : s.mod.mode.serving = false) (kind : DestKind) (number : BitVec 16) :
    (s.acting p c).panelRoute p kind number = plainOutcome (s.acting p c) := by
  rw [State.panelRoute_acting, State.panelRequest_outside (s := s.acting p c) hm]

/-- A LISTING or WAYPOINT action that finds no room in the list or no report slot: DROPPED_BUSY. -/
theorem State.panelRoute_busy (hm : s.mod.mode.serving = true)
    (hbusy : 4 ≤ c.outstanding.length ∨ 31 ≤ s.link.reportsHeld + s.link.reserved)
    (kind : DestKind) (number : BitVec 16) :
    (s.acting p c).panelRoute p kind number = { state := s.acting p c, droppedBusy := true, textFull := false } := by
  rw [State.panelRoute_acting, State.panelRequest_busy (s := s.acting p c) hm]
  rw [State.acting_screen, State.acting_slots]
  exact hbusy.imp_right fun h => by omega

/-! ## The end of the frame behind a request -/

/-- The link behind CONTACT UP, the reserved slot and the SELECTION report, which is dropped where that slot was the last
(09 R156). -/
def State.requestLink (s : State) (p : Fin 4) (f : Processing) (h : Nat) (x : Hotspot) : LinkState :=
  { (s.afterRequest p f h x s.screens[p.val]).link with reserved := s.link.reserved + 1 }

/-- What a request sets beyond the link and its screen is left to the one who says what becomes of it. -/
theorem State.afterRequest_eq : s.afterRequest p f h x c = { s.afterUp p with
    link := { s.requestLink p f h x with reserved := s.link.reserved }, screens := s.screens.set p.val c } := by
  unfold State.requestLink State.afterRequest
  split <;> rfl

/-- The mask stays behind a request. -/
theorem State.requestLink_masked (k : MaskKind) : (s.requestLink p f h x).masked k = s.link.masked k := by
  unfold State.requestLink State.afterRequest
  split <;> rfl

/-- The SELECTION report behind a request: reserved for the request is one slot more (09 R156). -/
theorem ActionOutcome.reported_request {v : State}
    (hv : v.link = { (s.upReported p).link with reserved := s.link.reserved + 1 }) :
    (plainOutcome v).reported p f h x = { v with link := s.requestLink p f h x } := by
  have hslots : v.link.reportsHeld + v.link.reserved = s.link.reportsHeld + 1 + (s.link.reserved + 1) := by
    rw [hv]
    exact congrArg (· + (s.link.reserved + 1)) State.upReported_held
  unfold ActionOutcome.reported State.requestLink State.afterRequest plainOutcome
  by_cases hroom : s.link.reportsHeld + s.link.reserved + 3 ≤ 32
  · rw [State.queueReport_free (by rw [hslots]; omega), if_pos hroom, hv]
    rfl
  · rw [State.queueReport_full (by rw [hslots]; omega), if_neg hroom, hv]
    rfl

/-- The end of a frame whose action has made a request (09 R156, 10 R176). -/
theorem exec_frameProcessed_of_request (hselects : s.selectsOn p f h x) {v : State}
    (ho : (s.upReported p).carryOut p x.action = plainOutcome v)
    (hv : v.link = { (s.upReported p).link with reserved := s.link.reserved + 1 }) :
    exec (.frameProcessed p) s = .next { ((({ v with link := s.requestLink p f h x } : State).release p).serve) with
      panels := (s.afterUp p).panels } := by
  obtain ⟨hforms, -, hslots⟩ := hselects
  rw [exec_frameProcessed_of_outcome hforms (by omega) ho (congrArg LinkState.mask hv :), ActionOutcome.reported_request hv]

end

end Sys2Proof.Machine
end

section
/-! PROOFS. The query of an edit (08 R138, R142, 09 R156). -/

namespace Sys2Proof.Machine

section
variable {s : State} {p : Fin 4} {f : Processing} {h : Nat} {x : Hotspot} {c : Screen}

/-! ## The prefix range (08 R138) -/

/-- The listings of a run that starts at `a` stand from there on. -/
theorem rangeStart_eq {pfx : List Byte} {a b : Nat} (hrun : s.PrefixRun pfx a b) : rangeStart pfx s.dir.listings = a := by
  obtain ⟨hab, hcount, hbefore, hin, -⟩ := hrun
  have ha : a < s.dir.listings.length := Nat.lt_of_lt_of_le hab hcount
  have hget (j : Nat) (hj : j < s.dir.listings.length) : s.listing j = s.dir.listings[j] := List.getD_eq_getElem _ _ hj
  rw [rangeStart, List.findIdx_eq ha]
  refine ⟨?_, fun j hj => ?_⟩
  · rw [← hget a ha]
    exact hin a (Nat.le_refl a) hab
  · rw [← hget j (by omega)]
    exact hbefore j hj

/-- A run that stops before `b` stops there. -/
theorem rangeStop_eq {pfx : List Byte} {a b : Nat} (hrun : s.PrefixRun pfx a b) : rangeStop pfx s.dir.listings = b := by
  rw [rangeStop, rangeStart_eq hrun]
  obtain ⟨hab, hcount, -, hin, hafter⟩ := hrun
  have hget (j : Nat) (hj : j < s.dir.listings.length) : s.listing j = s.dir.listings[j] := List.getD_eq_getElem _ _ hj
  have hsplit : s.dir.listings.drop a = (s.dir.listings.drop a).take (b - a) ++ s.dir.listings.drop b := by
    have hdrop : s.dir.listings.drop b = (s.dir.listings.drop a).drop (b - a) := by
      rw [List.drop_drop, Nat.add_sub_cancel' hab.le]
    rw [hdrop, List.take_append_drop]
  have hrunAll : ∀ l ∈ (s.dir.listings.drop a).take (b - a), startsWith pfx l = true := by
    intro l hl
    obtain ⟨j, hj, rfl⟩ := List.mem_take_iff_getElem.mp hl
    rw [List.getElem_drop, ← hget]
    exact hin _ (by omega) (by omega)
  have hstop : (s.dir.listings.drop b).takeWhile (startsWith pfx) = [] := by
    rw [List.takeWhile_eq_nil_iff]
    intro hpos
    have hb : b < s.dir.listings.length := by
      rw [List.length_drop] at hpos
      omega
    simp [← hget b hb, hafter hb]
  have hlength : s.listingCount = s.dir.listings.length := rfl
  rw [hsplit, List.takeWhile_append_of_pos hrunAll, hstop, List.append_nil, List.length_take, List.length_drop]
  omega

/-- Where no listing starts with a text its range is empty. -/
theorem range_empty {pfx : List Byte} (hnone : ∀ l ∈ s.dir.listings, startsWith pfx l = false) :
    ¬ rangeStart pfx s.dir.listings < rangeStop pfx s.dir.listings := by
  have hstart : rangeStart pfx s.dir.listings = s.dir.listings.length := List.findIdx_eq_length_of_false hnone
  rw [rangeStop, hstart, List.drop_length, List.takeWhile_nil]
  simp

/-! ## What a selection finds at rest -/

/-- The head of the screen's list waits. -/
theorem State.selectsOn.waits (hselects : s.selectsOn p f h x) : s.screens[p.val].headWaits := by
  obtain ⟨⟨-, -, -, -, -, -, -, -, -, -, hwaits, -⟩, -⟩ := hselects
  exact hwaits

/-- Nothing waits for an engine. -/
theorem State.selectsOn.quiet (hselects : s.selectsOn p f h x) : s.EnginesQuiet := by
  obtain ⟨⟨-, -, -, -, -, -, -, -, -, -, -, hquiet, -⟩, -⟩ := hselects
  exact hquiet

/-! ## A request that waits (09 R150, R156) -/

/-- Behind a request that is not DONE the head of the list waits as before. -/
theorem Screen.asking_waits (hwaits : c.headWaits) (ask : Ask) : (c.asking ask).headWaits := by
  intro e he
  cases hl : c.outstanding with
  | nil =>
    rw [Screen.asking, hl, List.nil_append, List.head?_cons, Option.some.injEq] at he
    rw [← he]
  | cons y ys =>
    refine hwaits e ?_
    rw [hl, List.head?_cons]
    rwa [Screen.asking, hl, List.cons_append, List.head?_cons] at he

/-- The end of a frame whose request waits: nothing of its screen is released, and the engines take what they can. -/
theorem exec_frameProcessed_of_waiting (hselects : s.selectsOn p f h x) {ask : Ask} {v : State} (hc : c = s.screens[p.val])
    {text : List Byte} {terms : Terms}
    (ho : (s.upReported p).carryOut p x.action = plainOutcome v)
    (hlink : v.link = { (s.upReported p).link with reserved := s.link.reserved + 1 })
    (hscreens : v.screens = s.screens.set p.val
      ((c.editing text terms).asking ask)) :
    exec (.frameProcessed p) s = .next { ({ v with link := s.requestLink p f h x } : State).serve with
      panels := (s.afterUp p).panels } := by
  have hexec := exec_frameProcessed_of_request hselects ho hlink
  have hwaits := hselects.waits
  have hrelease : ({ v with link := s.requestLink p f h x } : State).release p =
      { v with link := s.requestLink p f h x } := by
    refine State.release_of_headWaits (s := { v with link := s.requestLink p f h x }) ?_
    have hscreen : v.screens[p.val] = (c.editing text terms).asking ask := by
      rw [hscreens, Vector.getElem_set_self]
    rw [hscreen]
    subst hc
    exact Screen.asking_waits (c := s.screens[p.val].editing text terms) hwaits ask
  rw [hexec, hrelease]

/-! ## The query of an edit (08 R142) -/

variable {text : List Byte} {terms : Terms} {full : Byte}

/-- The query that an edit calls for: a request of the edited text and terms. -/
theorem State.carryOut_query (hselects : s.selectsOn p f h x) (hc : c = s.screens[p.val])
    (hedits : c.Edits x.action text terms true full) (hm : s.mod.mode.serving = true) (hroom : c.outstanding.length < 4) :
    (s.upReported p).carryOut p x.action = plainOutcome
      ((s.requesting p ((c.editing text terms).asking (.directory 0))).dispatchQuery
        { ref := { screen := p, id := c.nextId }, pfx := text, terms := terms, offset := 0, maximum := 8 }) := by
  obtain ⟨-, henabled, hslots⟩ := hselects
  have hedits' : ({ c with active := true, idle := some 0 } : Screen).Edits x.action text terms true full := hedits
  rw [State.carryOut_enabled hc (by rw [hc, henabled]), State.doAction_edits hedits', State.editOutcome_asks]
  exact State.panelRequest_made (c := c.editing text terms) hm hroom hslots

/-- Where nothing but queries waits, the engines' taking is the directory's. -/
theorem State.serve_queries (hrco : s.rco.queue = []) (hsearch : ∀ e ∈ s.search.queue, e.unit ≠ none) :
    s.serve = s.takeQueries s.dir.queue := by
  have hgive : s.giveUnits = s := by
    rw [State.giveUnits, State.giveUnit_noneWaits 0 hsearch, State.giveUnit_noneWaits 1 hsearch]
  rw [State.serve, State.serveComposer_rest hrco, hgive, State.serveDirectory]

/-- A selection whose edit calls for a query with room in its list and valid terms: the query, and the screen that it joins
(08 R142, 09 R156). -/
structure State.Queries (s : State) (p : Fin 4) (f : Processing) (h : Nat) (x : Hotspot) (text : List Byte) (terms : Terms)
    (q : Query) (d : Screen) : Prop where
  selects : s.selectsOn p f h x
  edits : ∃ full, s.screens[p.val].Edits x.action text terms true full
  serving : s.mod.mode.serving = true
  room : s.screens[p.val].outstanding.length < 4
  valid : termsValid terms = true
  query : q =
    { ref := { screen := p, id := s.screens[p.val].nextId }, pfx := text, terms := terms, offset := 0, maximum := 8 }
  screen : d = (s.screens[p.val].editing text terms).asking (.directory 0)

variable {q : Query} {d : Screen} {t : State}

/-- The query of an edit of valid terms waits alone, and the directory takes what it can (08 R133, R137). -/
theorem State.Queries.exec_eq (hq : s.Queries p f h x text terms q d) :
    exec (.frameProcessed p) s = .next { ({ s.acting p d with
      link := s.requestLink p f h x, dir := { s.dir with queue := [q] } } : State).takeQueries [q] with
        panels := (s.afterUp p).panels } := by
  obtain ⟨hselects, ⟨full, hedits⟩, hm, hroom, hvalid, hquery, hscreen⟩ := hq
  have hout := State.carryOut_query hselects rfl hedits hm hroom
  obtain ⟨hrco, hdir, hsearch⟩ := hselects.quiet
  have hjoin : (s.requesting p d).dispatchQuery q = { s.requesting p d with dir := { s.dir with queue := [q] } } := by
    rw [State.dispatchQuery, if_pos (by rw [hquery]; exact hvalid), State.joinDirectory]
    exact congrArg (fun l => ({ s.requesting p d with dir := { s.dir with queue := l ++ [q] } } : State)) hdir
  rw [← hscreen, ← hquery, hjoin] at hout
  have hserve := State.serve_queries
    (s := { s.acting p d with link := s.requestLink p f h x, dir := { s.dir with queue := [q] } }) hrco hsearch
  exact (exec_frameProcessed_of_waiting hselects rfl hout rfl (by rw [hscreen]; rfl)).trans
    (congrArg (fun t : State => Host.Outcome.next { t with panels := (s.afterUp p).panels }) hserve)

/-- A directory with a scan in hand leaves the query waiting (08 R133). -/
theorem State.Queries.waits (hq : s.Queries p f h x text terms q d) (ht : t = s.afterRequest p f h x d)
    (hscan : s.dir.scan ≠ none) :
    exec (.frameProcessed p) s = .next { t with
      dir := { s.dir with queue := [q] }, link := { t.link with reserved := s.link.reserved + 1 } } := by
  obtain ⟨z, hz⟩ := Option.ne_none_iff_exists'.mp hscan
  rw [hq.exec_eq, State.takeQueries_busy _ [q] z ?busy, ht, State.afterRequest_eq]
  case busy => exact hz
  rfl

/-- A directory without a scan that takes one query whose range holds a listing (08 R137). -/
theorem State.takeQueries_one (hscan : s.dir.scan = none)
    (hrange : rangeStart q.pfx s.dir.listings < rangeStop q.pfx s.dir.listings) :
    s.takeQueries [q] = { s with dir := { s.dir with queue := [], scan := some (scanOf q s.dir.listings) } } := by
  have hpos : (scanOf q s.dir.listings).position < (scanOf q s.dir.listings).stop := hrange
  simp only [State.takeQueries, hscan, if_pos hpos]

/-- A directory without a scan takes the query whose range holds a listing (08 R137, R138). -/
theorem State.Queries.taken (hq : s.Queries p f h x text terms q d) (ht : t = s.afterRequest p f h x d) {a b : Nat}
    (hscan : s.dir.scan = none) (hrun : s.PrefixRun text a b) :
    exec (.frameProcessed p) s = .next { t with
      dir := { s.dir with
        scan := some { query := q, position := a, stop := b, total := 0, kept := [], nextSymbols := 0, detached := false } }
      link := { t.link with reserved := s.link.reserved + 1 } } := by
  have hdir : s.dir.queue = [] := hq.selects.quiet.2.1
  have hpfx : q.pfx = text := by rw [hq.query]
  have hscanOf : scanOf q s.dir.listings =
      { query := q, position := a, stop := b, total := 0, kept := [], nextSymbols := 0, detached := false } := by
    rw [scanOf, hpfx, rangeStart_eq hrun, rangeStop_eq hrun]
  have hrange : rangeStart q.pfx s.dir.listings < rangeStop q.pfx s.dir.listings := by
    rw [hpfx, rangeStart_eq hrun, rangeStop_eq hrun]
    exact hrun.1
  rw [hq.exec_eq, State.takeQueries_one (s := { s.acting p d with
    link := s.requestLink p f h x, dir := { s.dir with queue := [q] } }) hscan hrange, ht, State.afterRequest_eq, ← hdir]
  rw [← hscanOf]
  rfl

end

end Sys2Proof.Machine
end

section
/-! PROOFS. A request of a selection that is answered in the same event (09 R151, R156, 08 R138, R142). -/

namespace Sys2Proof.Machine

section
variable {s : State} {p : Fin 4} {f : Processing} {h : Nat} {x : Hotspot} {c : Screen}

/-- A panel's DONE entry that stands alone on its list leaves as its report, in the slot reserved for it (09 R151). -/
theorem State.release_panel_alone {i : Fin 4} {e : Entry} {r : EntryResult} {seq : Byte}
    (hlist : s.screens[i.val].outstanding = [e]) (hr : e.result = some r) (hasker : e.asker = .panel seq)
    (hmask : s.link.masked e.ask.maskKind = false) :
    s.release i = { s with
      link := { s.link with
        reserved := s.link.reserved - 1
        reports := s.link.reports ++ [{ cls := e.ask.reportClass, tag := 0, release := some (i, s.screens[i.val].released)
                                        resets := false, payload := [BitVec.ofNat 8 i.val, seq] ++ e.bytes i r }] }
      screens := s.screens.set i.val
        { s.screens[i.val] with outstanding := [], released := s.screens[i.val].released + 1 } } := by
  simp [State.release, hlist, State.releaseList, hr, State.placeResult, hasker, hmask, State.onLink, State.onScreen]

/-- The report of a request that a panel made with this screen, answered with this result (11 R188). -/
def Screen.answerItem (c : Screen) (p : Fin 4) (ask : Ask) (r : EntryResult) : OutItem :=
  { cls := ask.reportClass, tag := 0, release := some (p, c.released), resets := false
    payload := [BitVec.ofNat 8 p.val, c.seq]
      ++ Entry.bytes p { id := c.nextId, asker := .panel c.seq, ask := ask, result := some r } r }

/-- The screen whose panel's request has been answered: its numbers have moved on, and the result has been released. -/
def Screen.answered (c : Screen) : Screen :=
  { c with outstanding := [], seq := c.seq + 1, nextId := c.nextId + 1, released := c.released + 1 }

/-- The screen whose panel's request, alone on its list, is DONE and not yet released. -/
def Screen.finished (c : Screen) (ask : Ask) (r : EntryResult) : Screen :=
  { c.asking ask with outstanding := [{ id := c.nextId, asker := .panel c.seq, ask := ask, result := some r }] }

/-- A result for the request, alone on its list, that this screen's panel has made (09 R150). -/
theorem State.mark_asking {ask : Ask} {v : Vector Screen 4} (hempty : c.outstanding = [])
    (hscreens : s.screens = v.set p.val (c.asking ask)) (r : EntryResult) :
    s.mark { screen := p, id := c.nextId } r = { s with screens := v.set p.val (c.finished ask r) } := by
  have hscreen : s.screens[p.val] = c.asking ask := by rw [hscreens, Vector.getElem_set_self]
  rw [State.mark, State.onScreen, hscreen, hscreens, Vector.set_set]
  simp [Screen.asking, Screen.finished, hempty, Entry.finish, Entry.done]

/-- The entry of a panel's request, alone on its list, leaves as its report when it is DONE (09 R151). -/
theorem State.release_finished {ask : Ask} {r : EntryResult} {v : Vector Screen 4}
    (hmask : s.link.masked ask.maskKind = false)
    (hscreens : s.screens = v.set p.val (c.finished ask r)) :
    s.release p = { s with
      link := { s.link with reserved := s.link.reserved - 1, reports := s.link.reports ++ [c.answerItem p ask r] }
      screens := v.set p.val c.answered } := by
  have hscreen : s.screens[p.val] = c.finished ask r := by rw [hscreens, Vector.getElem_set_self]
  rw [State.release_panel_alone (by rw [hscreen]; rfl) rfl rfl hmask, hscreen, hscreens, Vector.set_set]
  rfl

/-- The end of a frame whose request, on an empty list, is answered at once: its report stands behind the SELECTION (09 R156,
10 R176). -/
theorem exec_frameProcessed_of_answer (hselects : s.selectsOn p f h x) {ask : Ask} {r : EntryResult} {y : CacheState}
    (hmask : s.link.masked ask.maskKind = false)
    (ho : (s.upReported p).carryOut p x.action = plainOutcome { s.requesting p (c.finished ask r) with rcc := y }) :
    exec (.frameProcessed p) s = .next { s.afterRequest p f h x c.answered with
      rcc := y
      link := { (s.afterRequest p f h x c.answered).link with
        reports := (s.afterRequest p f h x c.answered).link.reports ++ [c.answerItem p ask r] } } := by
  obtain ⟨w, hw⟩ : ∃ w : State, w = { s.acting p (c.finished ask r) with link := s.requestLink p f h x, rcc := y } :=
    ⟨_, rfl⟩
  have hrelease := State.release_finished (s := w) (p := p) (c := c) (ask := ask) (r := r) (v := s.screens)
    (by rw [hw]; exact (State.requestLink_masked _).trans hmask) (by rw [hw]; rfl)
  have hserve : (w.release p).serve = w.release p := by
    refine State.serve_quiet ?_
    rw [hrelease, hw]
    exact hselects.quiet
  have hexec := exec_frameProcessed_of_request hselects ho rfl
  rw [State.afterRequest_eq]
  refine hexec.trans (congrArg (fun t : State => Host.Outcome.next { t with panels := (s.afterUp p).panels })
    ((congrArg (fun w => (w.release p).serve) hw.symm).trans (hserve.trans hrelease)) |>.trans ?_)
  rw [hw]
  rfl

/-- On an empty list an answer moves the screen's numbers on and changes nothing else. -/
theorem Screen.answered_eq (hempty : c.outstanding = []) :
    c.answered = { c with seq := c.seq + 1, nextId := c.nextId + 1, released := c.released + 1 } := by
  rw [Screen.answered, ← hempty]

/-! ## The answers to the query of an edit (08 R138, R142) -/

variable {text : List Byte} {terms : Terms} {full : Byte}

/-- The MATCHES report of a query of a panel that matches nothing, with this result. -/
def Screen.emptyMatches (c : Screen) (p : Fin 4) (r : Byte) : OutItem :=
  { cls := 0x44, tag := 0, release := some (p, c.released), resets := false
    payload := [BitVec.ofNat 8 p.val, c.seq, r, 0, 0, 0, 0, 0, 0, 0, 0, 0, 0] }

/-- An invalid term is answered with BAD_FILTER (08 R132, R142). -/
theorem exec_query_badFilter (hselects : s.selectsOn p f h x)
    (hedits : s.screens[p.val].Edits x.action text terms true full) (hm : s.mod.mode.serving = true)
    (hempty : s.screens[p.val].outstanding = []) (hinvalid : termsValid terms = false)
    (hmask : s.link.masked .matchList = false) :
    exec (.frameProcessed p) s = .next { s.afterRequest p f h x (s.screens[p.val].editing text terms).answered with
      link := { (s.afterRequest p f h x (s.screens[p.val].editing text terms).answered).link with
        reports := (s.afterRequest p f h x (s.screens[p.val].editing text terms).answered).link.reports
          ++ [s.screens[p.val].emptyMatches p 11] } } := by
  have hout := State.carryOut_query hselects rfl hedits hm (by rw [hempty]; decide)
  rw [State.dispatchQuery, if_neg (by simp [hinvalid])] at hout
  have hmark := State.mark_asking (s := s.requesting p ((s.screens[p.val].editing text terms).asking (.directory 0)))
    (c := s.screens[p.val].editing text terms) (v := s.screens) hempty rfl (.bare .badFilter)
  rw [exec_frameProcessed_of_answer hselects (ask := .directory 0) (y := s.rcc) hmask
    (hout.trans (congrArg plainOutcome hmark)), State.afterRequest_eq]
  rfl

/-- A text that no listing starts with is answered with no match (08 R138, R142). -/
theorem State.Queries.matchesNone {q : Query} {d : Screen} (hq : s.Queries p f h x text terms q d)
    (hempty : s.screens[p.val].outstanding = []) (hscan : s.dir.scan = none)
    (hnone : ∀ l ∈ s.dir.listings, startsWith text l = false) (hmask : s.link.masked .matchList = false) :
    exec (.frameProcessed p) s = .next { s.afterRequest p f h x (s.screens[p.val].editing text terms).answered with
      link := { (s.afterRequest p f h x (s.screens[p.val].editing text terms).answered).link with
        reports := (s.afterRequest p f h x (s.screens[p.val].editing text terms).answered).link.reports
          ++ [s.screens[p.val].emptyMatches p 0] } } := by
  obtain ⟨w, hw⟩ : ∃ w : State, w = { s.acting p d with
      link := s.requestLink p f h x, dir := { s.dir with queue := [q] } } :=
    ⟨_, rfl⟩
  have hdir : s.dir.queue = [] := hq.selects.quiet.2.1
  have hpfx : q.pfx = text := by rw [hq.query]
  have hrange : ¬ (scanOf q s.dir.listings).position < (scanOf q s.dir.listings).stop := by
    rw [scanOf, hpfx]
    exact range_empty hnone
  have href : q.ref = { screen := p, id := (s.screens[p.val].editing text terms).nextId } := by rw [hq.query]; rfl
  have hmark := State.mark_asking (s := w) (c := s.screens[p.val].editing text terms) (v := s.screens) hempty
    (by rw [hw, ← hq.screen]; rfl) (.matched (scanOf q s.dir.listings).content)
  have hrelease := State.release_finished (p := p) (c := s.screens[p.val].editing text terms) (ask := .directory 0)
    (s := { w with screens := s.screens.set p.val ((s.screens[p.val].editing text terms).finished (.directory 0)
      (.matched (scanOf q s.dir.listings).content)) })
    (by rw [hw]; exact (State.requestLink_masked _).trans hmask) rfl
  have htake : w.takeQueries [q] = { (w.complete q.ref (.matched (scanOf q s.dir.listings).content)) with
      dir := { w.dir with queue := [] } } := by
    have hscan' : w.dir.scan = none := by rw [hw]; exact hscan
    have hlist : w.dir.listings = s.dir.listings := by rw [hw]
    simp only [State.takeQueries, hscan', hlist, if_neg hrange, State.complete_keeps]
  rw [hq.exec_eq, ← hw, htake, State.complete, href, hmark, hrelease, hw, State.afterRequest_eq]
  have hitem : (s.screens[p.val].editing text terms).answerItem p (.directory 0) (.matched (scanOf q s.dir.listings).content)
      = s.screens[p.val].emptyMatches p 0 := by
    have hcontent : (scanOf q s.dir.listings).content = { total := 0, offset := 0, nextSymbols := 0, records := [] } := by
      rw [hq.query]
      rfl
    rw [hcontent]
    rfl
  rw [hitem, ← hdir]
  rfl

end

end Sys2Proof.Machine
end

section
/-! PROOFS. The route request of a selection (04 R55, R56, 06 R104, 09 R153, R157). -/

namespace Sys2Proof.Machine

section
variable {s : State} {p : Fin 4} {f : Processing} {h : Nat} {x : Hotspot} {c : Screen}

/-! ## The dispatch of a route request (09 R153) -/

variable {ref : Ref} {k : Key} {explicit : Bool}

/-- A HIDDEN listing is answered with NOT_FOUND. -/
theorem State.dispatchRoute_hidden (hhidden : k.kind = .listing ∧ (s.listing k.number.toNat).status = .hidden) :
    s.dispatchRoute ref k explicit = s.mark ref (.bare .notFound) := by
  rw [State.dispatchRoute, if_pos hhidden]

/-- A match of another generation, or with a segment of the sweep list, is not usable (06 R104). -/
theorem CacheState.usable_eq_false {m : CacheState} {g : BitVec 16} {e : CacheEntry}
    (hstale : e.generation ≠ g ∨ ∃ n ∈ e.segments, n ∈ m.sweep) : m.usable g e = false := by
  rw [CacheState.usable, Bool.and_eq_false_iff]
  refine hstale.imp (fun hg => decide_eq_false hg) fun ⟨n, hn, hsweep⟩ => ?_
  rw [Bool.not_eq_false', List.any_eq_true]
  exact ⟨n, hn, List.contains_iff_mem.mpr hsweep⟩

/-- A match of this generation without a segment of the sweep list is usable (06 R104). -/
theorem CacheState.usable_eq_true {m : CacheState} {g : BitVec 16} {e : CacheEntry} (hg : e.generation = g)
    (hclear : ∀ n ∈ e.segments, n ∉ m.sweep) : m.usable g e = true := by
  have hany : e.segments.any (fun n => m.sweep.contains n) = false :=
    List.any_eq_false.mpr fun n hn => by simpa using hclear n hn
  rw [CacheState.usable, decide_eq_true hg, hany]
  rfl

/-- The lookup of a key that misses (06 R104). -/
theorem State.MissesWith.lookup {m : CacheState} (hmiss : s.MissesWith k m) :
    s.rcc.lookup s.map.generation k = (m, none) := by
  unfold CacheState.lookup
  obtain ⟨hfind, rfl⟩ | ⟨e, y, hfind, rfl, hstale, rfl⟩ := hmiss
  · rw [hfind]
  · simp only [hfind, CacheState.usable_eq_false hstale, Bool.false_eq_true, if_false]
    rfl

/-- A miss joins the search queue. -/
theorem State.dispatchRoute_miss {m : CacheState}
    (hshown : ¬ (k.kind = .listing ∧ (s.listing k.number.toNat).status = .hidden)) (hmiss : s.MissesWith k m) :
    s.dispatchRoute ref k explicit = ({ s with rcc := m } : State).joinSearch k ref := by
  simp only [State.dispatchRoute, if_neg hshown, hmiss.lookup]

/-- A hit is answered with the cached route, which it marks as referenced. -/
theorem State.dispatchRoute_hit {e : Fin 512}
    (hshown : ¬ (k.kind = .listing ∧ (s.listing k.number.toNat).status = .hidden))
    (hfind : s.rcc.find k = some e) (hg : (s.rcc.at e).generation = s.map.generation)
    (hclear : ∀ n ∈ (s.rcc.at e).segments, n ∉ s.rcc.sweep) :
    s.dispatchRoute ref k explicit =
      ({ s with rcc := s.rcc.onEntry e fun y => { y with referenced := true } } : State).mark ref
        (.route (s.finalise ref.screen explicit true (s.rcc.at e).route)) := by
  have hlookup : s.rcc.lookup s.map.generation k =
      (s.rcc.onEntry e fun y => { y with referenced := true }, some (s.rcc.at e).route) := by
    simp only [CacheState.lookup, hfind, CacheState.usable_eq_true hg hclear, if_true]
  simp only [State.dispatchRoute, if_neg hshown, hlookup]
  rfl

/-! ## The request of a selection (09 R157) -/

variable {kind : DestKind} {number : BitVec 16}

/-- The action of a hotspot that leads to a destination. -/
def Action.LeadsTo (a : Action) (kind : DestKind) (number : BitVec 16) : Prop :=
  (kind = .listing ∧ a = .listing number) ∨ (kind = .waypoint ∧ a = .waypoint number)

/-- The screen of a selection whose action edits nothing. -/
def Screen.selecting (c : Screen) : Screen := c.editing c.text c.terms

/-- An action that leads to a destination makes a route request (09 R157). -/
theorem State.carryOut_leadsTo (henabled : s.screens[p.val].enabled = true) (haction : x.action.LeadsTo kind number) :
    (s.upReported p).carryOut p x.action = (s.acting p s.screens[p.val].selecting).panelRoute p kind number := by
  rw [State.carryOut_enabled rfl henabled]
  obtain ⟨rfl, ha⟩ | ⟨rfl, ha⟩ := haction
  · rw [ha]
    rfl
  · rw [ha]
    rfl

/-- The state in which a route request is dispatched. -/
def State.routing (s : State) (p : Fin 4) (kind : DestKind) (number : BitVec 16) : State :=
  s.requesting p (s.screens[p.val].selecting.asking (.route (s.screens[p.val].panelKey kind number) false))

/-- A route request of a selection with room in its list (09 R156, R157). -/
structure State.Routes (s : State) (p : Fin 4) (f : Processing) (h : Nat) (x : Hotspot) (kind : DestKind)
    (number : BitVec 16) : Prop where
  selects : s.selectsOn p f h x
  leads : x.action.LeadsTo kind number
  serving : s.mod.mode.serving = true
  room : s.screens[p.val].outstanding.length < 4

/-- A route request of a selection is dispatched where its destination lies inside the map, and else refused. -/
theorem State.Routes.carryOut_eq (hr : s.Routes p f h x kind number) :
    (s.upReported p).carryOut p x.action = plainOutcome
      (if s.destinationExists kind number.toNat then
        (s.routing p kind number).dispatchRoute { screen := p, id := s.screens[p.val].nextId }
          (s.screens[p.val].panelKey kind number) false
      else (s.routing p kind number).mark { screen := p, id := s.screens[p.val].nextId } (.bare .badArgument)) := by
  obtain ⟨⟨-, henabled, hslots⟩, hleads, hm, hroom⟩ := hr
  rw [State.carryOut_leadsTo henabled hleads, State.panelRoute_acting]
  exact State.panelRequest_made (c := s.screens[p.val].selecting) hm hroom hslots

/-! ## Routes that are answered at once -/

/-- The screen of a selection that has made a route request, alone on its list, that is DONE. -/
theorem State.routing_mark (hempty : s.screens[p.val].outstanding = []) (m : CacheState) (r : EntryResult) :
    ({ s.routing p kind number with rcc := m } : State).mark { screen := p, id := s.screens[p.val].nextId } r =
      { s.requesting p (s.screens[p.val].selecting.finished (.route (s.screens[p.val].panelKey kind number) false) r) with
        rcc := m } :=
  State.mark_asking (s := { s.routing p kind number with rcc := m }) (c := s.screens[p.val].selecting) (v := s.screens)
    hempty rfl r

/-- The end of a frame whose route request is answered at once. -/
theorem State.Routes.answered (hr : s.Routes p f h x kind number) (hempty : s.screens[p.val].outstanding = [])
    (hmask : s.link.masked .route = false) {m : CacheState} {r : EntryResult}
    (hout : (s.upReported p).carryOut p x.action = plainOutcome
      (({ s.routing p kind number with rcc := m } : State).mark { screen := p, id := s.screens[p.val].nextId } r)) :
    exec (.frameProcessed p) s = .next { s.afterRequest p f h x s.screens[p.val].selecting.answered with
      rcc := m
      link := { (s.afterRequest p f h x s.screens[p.val].selecting.answered).link with
        reports := (s.afterRequest p f h x s.screens[p.val].selecting.answered).link.reports
          ++ [s.screens[p.val].answerItem p (.route (s.screens[p.val].panelKey kind number) false) r] } } :=
  exec_frameProcessed_of_answer hr.selects (c := s.screens[p.val].selecting)
    (ask := .route (s.screens[p.val].panelKey kind number) false) hmask
    (hout.trans (congrArg plainOutcome (State.routing_mark hempty m r)))

/-- The destination of a request lies inside the map, and is no HIDDEN listing. -/
def State.Shown (s : State) (kind : DestKind) (number : BitVec 16) : Prop :=
  (kind = .listing → number.toNat < s.listingCount ∧ (s.listing number.toNat).status ≠ .hidden)
    ∧ (kind = .waypoint → number.toNat < s.waypointCount)

/-- Such a destination exists. -/
theorem State.Shown.destinationExists (hshown : s.Shown kind number) : s.destinationExists kind number.toNat = true := by
  obtain ⟨hlisting, hwaypoint⟩ := hshown
  cases kind with
  | listing => exact decide_eq_true (hlisting rfl).1
  | waypoint => exact decide_eq_true (hwaypoint rfl)

/-- Such a destination is no HIDDEN listing. -/
theorem State.Shown.not_hidden (hshown : s.Shown kind number) :
    ¬ (kind = .listing ∧ (s.listing number.toNat).status = .hidden) :=
  fun ⟨hk, hhidden⟩ => (hshown.1 hk).2 hhidden

/-- A destination outside the map is refused with BAD_ARGUMENT (09 R157). -/
theorem State.Routes.outside (hr : s.Routes p f h x kind number)
    (hout : (kind = .listing ∧ s.listingCount ≤ number.toNat) ∨ (kind = .waypoint ∧ s.waypointCount ≤ number.toNat)) :
    (s.upReported p).carryOut p x.action = plainOutcome
      (({ s.routing p kind number with rcc := s.rcc } : State).mark { screen := p, id := s.screens[p.val].nextId }
        (.bare .badArgument)) := by
  have hnone : s.destinationExists kind number.toNat = false := by
    obtain ⟨rfl, hn⟩ | ⟨rfl, hn⟩ := hout
    · exact decide_eq_false (Nat.not_lt.mpr hn)
    · exact decide_eq_false (Nat.not_lt.mpr hn)
  rw [hr.carryOut_eq, hnone]
  rfl

/-- A HIDDEN listing is answered with NOT_FOUND (07 R126, 09 R157). -/
theorem State.Routes.hidden (hr : s.Routes p f h x kind number) (hkind : kind = .listing)
    (hin : number.toNat < s.listingCount) (hhidden : (s.listing number.toNat).status = .hidden) :
    (s.upReported p).carryOut p x.action = plainOutcome
      (({ s.routing p kind number with rcc := s.rcc } : State).mark { screen := p, id := s.screens[p.val].nextId }
        (.bare .notFound)) := by
  have hexists : s.destinationExists kind number.toNat = true := by
    rw [hkind]
    exact decide_eq_true hin
  rw [hr.carryOut_eq, hexists, if_pos rfl,
    State.dispatchRoute_hidden (s := s.routing p kind number) (k := s.screens[p.val].panelKey kind number)
      ⟨hkind, hhidden⟩]
  rfl

/-- The head of a ROUTE report with a result other than OK (11 R191). -/
theorem Screen.answerItem_bare (code : ResultCode) :
    c.answerItem p (.route (c.panelKey kind number) false) (.bare code) =
      { cls := 0x43, tag := 0, release := some (p, c.released), resets := false
        payload := [BitVec.ofNat 8 p.val, c.seq, code.code, 0] ++ le 2 c.origin.toNat ++ [kind.code]
          ++ le 2 number.toNat ++ [0, 0] ++ [BitVec.ofNat 8 c.profile.val] ++ List.replicate 14 0 } := rfl

/-- A cached route that is usable is the answer, and is marked as referenced (06 R104, 09 R153). -/
theorem State.Routes.cached (hr : s.Routes p f h x kind number) (hshown : s.Shown kind number) {e : Fin 512}
    (hfind : s.rcc.find (s.screens[p.val].panelKey kind number) = some e)
    (hg : (s.rcc.at e).generation = s.map.generation) (hclear : ∀ n ∈ (s.rcc.at e).segments, n ∉ s.rcc.sweep) :
    (s.upReported p).carryOut p x.action = plainOutcome
      (({ s.routing p kind number with rcc := s.rcc.onEntry e fun y => { y with referenced := true } } : State).mark
        { screen := p, id := s.screens[p.val].nextId }
        (.route ((s.routing p kind number).finalise p false true (s.rcc.at e).route))) := by
  rw [hr.carryOut_eq, hshown.destinationExists, if_pos rfl,
    State.dispatchRoute_hit (s := s.routing p kind number) hshown.not_hidden hfind hg hclear]
  rfl

/-- The first step of a route turned for its screen, whose heading the request takes (05 R93, R97). -/
theorem turnFirst_cons (screenHeading heading : BitVec 8) (z : RouteStep) (zs : List RouteStep) :
    turnFirst false screenHeading heading (z :: zs) =
      { z with turn := (if z.action = .arrive then TurnClass.none else turnClass screenHeading heading) } :: zs := by
  by_cases ha : z.action = .arrive
  · simp [turnFirst, ha]
  · simp [turnFirst, ha]

/-! ## Routes that are searched -/

/-- A key that no entry carries joins as an entry of its own (04 R55). -/
theorem joinQueue_new {k : Key} {ref : Ref} {queue : List SearchEntry} (hnew : ∀ e ∈ queue, e.key ≠ k) :
    joinQueue k ref queue = queue ++ [{ key := k, requesters := [ref], unit := none }] := by
  induction queue with
  | nil => rfl
  | cons e es ih =>
    obtain ⟨he, hes⟩ := List.forall_mem_cons.mp hnew
    rw [joinQueue, if_neg he, ih hes, List.cons_append]

/-- A key that one entry carries merges with it (04 R55). -/
theorem joinQueue_merge {k : Key} {ref : Ref} {queue : List SearchEntry} (hnodup : (queue.map (·.key)).Nodup)
    (hold : ∃ e ∈ queue, e.key = k) :
    joinQueue k ref queue = queue.map fun e => if e.key = k then { e with requesters := e.requesters ++ [ref] } else e := by
  induction queue with
  | nil =>
    obtain ⟨e, he, -⟩ := hold
    exact absurd he List.not_mem_nil
  | cons e es ih =>
    rw [List.map_cons, List.nodup_cons] at hnodup
    obtain ⟨hfresh, hnodup⟩ := hnodup
    rw [joinQueue, List.map_cons]
    by_cases hk : e.key = k
    · have hothers : ∀ y ∈ es, (if y.key = k then { y with requesters := y.requesters ++ [ref] } else y) = y := by
        intro y hy
        rw [if_neg]
        rintro rfl
        exact hfresh (hk ▸ List.mem_map_of_mem hy)
      rw [if_pos hk, if_pos hk, List.map_congr_left hothers, List.map_id']
    · obtain ⟨y, hy, hyk⟩ := hold
      have hy' : y ∈ es := (List.mem_cons.mp hy).resolve_left fun heq => hk (heq ▸ hyk)
      rw [if_neg hk, if_neg hk, ih hnodup ⟨y, hy', hyk⟩]

/-- Where nothing but search entries waits, the engines' taking is the units'. -/
theorem State.serve_searches (hrco : s.rco.queue = []) (hdir : s.dir.queue = []) : s.serve = s.giveUnits := by
  rw [State.serve, State.serveComposer_rest hrco, State.serveDirectory_rest]
  simpa using hdir

/-- The search queue after a route request of a selection that misses. -/
def State.joinedQueue (s : State) (p : Fin 4) (kind : DestKind) (number : BitVec 16) : List SearchEntry :=
  joinQueue (s.screens[p.val].panelKey kind number) { screen := p, id := s.screens[p.val].nextId } s.search.queue

/-- The end of a frame whose route request misses: it joins the search queue, and the units take what they can (09 R153). -/
theorem State.Routes.searched (hr : s.Routes p f h x kind number) (hshown : s.Shown kind number) {m : CacheState}
    (hmiss : s.MissesWith (s.screens[p.val].panelKey kind number) m) {d : Screen}
    (hd : d = s.screens[p.val].selecting.asking (.route (s.screens[p.val].panelKey kind number) false)) :
    exec (.frameProcessed p) s = .next { ({ s.acting p d with
      link := s.requestLink p f h x, rcc := m
      search := { s.search with queue := s.joinedQueue p kind number } } : State).giveUnits with
        panels := (s.afterUp p).panels } := by
  have hout := hr.carryOut_eq
  rw [hshown.destinationExists, if_pos rfl,
    State.dispatchRoute_miss (s := s.routing p kind number) hshown.not_hidden hmiss] at hout
  obtain ⟨hrco, hdir, -⟩ := hr.selects.quiet
  have hserve := State.serve_searches (s := { s.acting p d with
    link := s.requestLink p f h x, rcc := m, search := { s.search with queue := s.joinedQueue p kind number } }) hrco hdir
  refine (exec_frameProcessed_of_waiting hr.selects rfl hout rfl rfl).trans ?_
  rw [hd] at hserve ⊢
  exact congrArg (fun t : State => Host.Outcome.next { t with panels := (s.afterUp p).panels }) hserve

/-- The end of a frame whose route request misses and sets no unit to work, or one: the search block after it. -/
theorem State.Routes.searches (hr : s.Routes p f h x kind number) (hshown : s.Shown kind number) {m : CacheState}
    (hmiss : s.MissesWith (s.screens[p.val].panelKey kind number) m) {d : Screen}
    (hd : d = s.screens[p.val].selecting.asking (.route (s.screens[p.val].panelKey kind number) false)) {y : SearchState}
    (hgive : ∀ w : State, w.mod = s.mod → w.map = s.map → w.dir = s.dir →
      w.search = { s.search with queue := s.joinedQueue p kind number } → w.giveUnits = { w with search := y }) :
    exec (.frameProcessed p) s = .next { s.afterRequest p f h x d with
      rcc := m, search := y
      link := { (s.afterRequest p f h x d).link with reserved := s.link.reserved + 1 } } := by
  rw [hr.searched hshown hmiss hd, hgive, State.afterRequest_eq] <;> rfl

/-- Where no unit takes anything the entry waits (04 R55, R56). -/
theorem State.giveUnits_idle (hrest : NoneWaits s.search.queue ∨ s.mod.mode ≠ .service
    ∨ ∀ u : Fin 2, s.search.units[u.val].state ≠ .idle) : s.giveUnits = s := by
  obtain hnone | hmode | hbusy := hrest
  · rw [State.giveUnits, State.giveUnit_noneWaits 0 hnone, State.giveUnit_noneWaits 1 hnone]
  · exact State.giveUnits_outside s hmode
  · rw [State.giveUnits, State.giveUnit_of_busy (hbusy 0), State.giveUnit_of_busy (hbusy 1)]

/-- A queue in which no entry waits but the last, which the first IDLE unit takes (04 R56). -/
theorem State.giveUnits_last {queue : List SearchEntry} {e : SearchEntry} {u : Fin 2} (hm : s.mod.mode = .service)
    (hqueue : s.search.queue = queue ++ [e]) (hnone : NoneWaits queue) (he : e.unit = none)
    (hidle : s.search.units[u.val].state = .idle) (hfirst : u = 1 → s.search.units[0].state ≠ .idle) :
    s.giveUnits = { s with search := {
      queue := queue ++ [{ e with unit := some u }], units := s.search.units.set u.val (s.begun e.key) } } := by
  have hgrant (v : Fin 2) : Granted v s.search.queue e (queue ++ [{ e with unit := some v }]) :=
    ⟨queue, [], hqueue, hnone, he, rfl⟩
  have hafter : NoneWaits (queue ++ [{ e with unit := some u }]) := by
    intro y hy
    obtain hy | hy := List.mem_append.mp hy
    · exact hnone y hy
    · rw [List.mem_singleton.mp hy]
      exact Option.some_ne_none u
  obtain rfl | rfl : u = 0 ∨ u = 1 := by omega
  · rw [State.giveUnits, State.giveUnit_of_granted hm hidle (hgrant 0), State.giveUnit_noneWaits 1 hafter]
  · rw [State.giveUnits, State.giveUnit_of_busy (s := s) (u := 0) (hfirst rfl),
      State.giveUnit_of_granted hm hidle (hgrant 1)]

/-- The search of a key depends on the map and the listings alone (04 R59). -/
theorem State.begun_congr {w : State} (hmap : w.map = s.map) (hdir : w.dir = s.dir) (k : Key) : w.begun k = s.begun k := by
  unfold State.begun State.listing
  rw [hmap, hdir]

end

end Sys2Proof.Machine
end

section
/-! PROOFS. What a detachment leaves of the work (04 R73, R74, 05 R99, 08 R143, 09 R155). -/

namespace Sys2Proof.Machine

section
variable {s : State}

/-- A unit that is HELD, or holds a result in HANDOFF: it can be dropped at once (04 R74). -/
def SearchUnit.droppable (u : SearchUnit) : Bool := decide (u.state = .held) || decide (u.state = .handoff)

/-- A unit that is dropped, if it can be. -/
def SearchUnit.dropped (u : SearchUnit) (d : Bool) : SearchUnit := if d && u.droppable then .idle else u

/-- A unit dropped twice is dropped if it is in either. -/
theorem SearchUnit.dropped_dropped (u : SearchUnit) (d d' : Bool) : (u.dropped d).dropped d' = u.dropped (d || d') := by
  cases d with
  | false => rfl
  | true =>
    unfold SearchUnit.dropped
    by_cases hu : u.droppable = true
    · simp only [hu, Bool.true_and, Bool.true_or, if_true]
      exact ite_self _
    · simp [hu]

/-- A unit that has been dropped holds its result for the composer no more. -/
theorem SearchUnit.dropped_handoff (u : SearchUnit) (d : Bool) :
    (u.dropped d).state = .handoff ↔ d = false ∧ u.state = .handoff := by
  cases d with
  | false => simp [SearchUnit.dropped]
  | true =>
    unfold SearchUnit.dropped
    split
    · simp [SearchUnit.idle]
    · rename_i hu
      simp only [Bool.true_and] at hu
      simp only [Bool.true_eq_false, false_and, iff_false]
      intro hh
      exact hu (by simp [SearchUnit.droppable, hh])

/-- After these units have been dropped: those that are HELD or in HANDOFF are IDLE, and the places of the latter have left
the composer queue (04 R74). -/
def State.droppedUnits (s : State) (d : Fin 2 → Bool) : State :=
  { s with
    search := { s.search with units := .ofFn fun u => s.search.units[u.val].dropped (d u) }
    rco := { s.rco with
      queue := s.rco.queue.filter fun u => !(d u && decide (s.search.units[u.val].state = .handoff)) } }

/-- A unit after units have been dropped. -/
theorem State.droppedUnits_unit (d : Fin 2 → Bool) (u : Fin 2) :
    (s.droppedUnits d).search.units[u.val] = s.search.units[u.val].dropped (d u) :=
  Vector.getElem_ofFn u.isLt

/-- Where no unit is dropped nothing changes. -/
theorem State.droppedUnits_none : s.droppedUnits (fun _ => false) = s := by
  simp [State.droppedUnits, SearchUnit.dropped]

/-- Units dropped one after the other are dropped together. -/
theorem State.droppedUnits_twice (d d' : Fin 2 → Bool) :
    (s.droppedUnits d).droppedUnits d' = s.droppedUnits fun u => d u || d' u := by
  have hunit (u : Fin 2) : (s.droppedUnits d).search.units[u.val].dropped (d' u) =
      s.search.units[u.val].dropped (d u || d' u) := by
    rw [State.droppedUnits_unit, SearchUnit.dropped_dropped]
  have hplace (u : Fin 2) : (!(d' u && decide ((s.droppedUnits d).search.units[u.val].state = .handoff))
      && !(d u && decide (s.search.units[u.val].state = .handoff)))
      = !((d u || d' u) && decide (s.search.units[u.val].state = .handoff)) := by
    rw [State.droppedUnits_unit]
    simp only [SearchUnit.dropped_handoff]
    cases d u <;> simp
  have htwice : (s.droppedUnits d).droppedUnits d' = { s with
      search := { s.search with units := .ofFn fun u => (s.droppedUnits d).search.units[u.val].dropped (d' u) }
      rco := { s.rco with
        queue := (s.rco.queue.filter fun u => !(d u && decide (s.search.units[u.val].state = .handoff))).filter fun u =>
          !(d' u && decide ((s.droppedUnits d).search.units[u.val].state = .handoff)) } } := rfl
  rw [htwice, List.filter_filter]
  simp only [hunit, hplace]
  rfl

/-- One unit after it alone has been dropped. -/
theorem dropped_one (units : Vector SearchUnit 2) (u : Fin 2) :
    (.ofFn fun v : Fin 2 => units[v.val].dropped (decide (v = u))) = units.set u.val (units[u.val].dropped true) := by
  refine Vector.ext fun v hv => ?_
  rw [Vector.getElem_ofFn, Vector.getElem_set]
  by_cases huv : u.val = v
  · subst huv
    simp
  · have hne : (⟨v, hv⟩ : Fin 2) ≠ u := fun e => huv (congrArg Fin.val e).symm
    simp [huv, hne, SearchUnit.dropped]

/-- The places left after one unit has been dropped. -/
theorem places_dropped_one (units : Vector SearchUnit 2) (u : Fin 2) (places : List (Fin 2)) :
    (places.filter fun v => !(decide (v = u) && decide (units[v.val].state = .handoff))) =
      if units[u.val].state = .handoff then places.filter (fun v => decide (v ≠ u)) else places := by
  split
  · rename_i hu
    refine List.filter_congr fun v _ => ?_
    by_cases hv : v = u
    · simp [hv, hu]
    · simp [hv]
  · rename_i hu
    refine List.filter_eq_self.mpr fun v _ => ?_
    by_cases hv : v = u
    · simp [hv, hu]
    · simp [hv]

/-- The drop of one unit. -/
theorem State.dropUnit_eq (u : Fin 2) : s.dropUnit u = s.droppedUnits fun v => decide (v = u) := by
  have hself : s.search.units.set u.val s.search.units[u.val] = s.search.units := Vector.set_getElem_self u.isLt
  rw [State.droppedUnits, dropped_one, places_dropped_one]
  unfold State.dropUnit SearchUnit.dropped SearchUnit.droppable
  cases hstate : s.search.units[u.val].state with
  | idle => simp [hself]
  | running => simp [hself]
  | held => simp [State.onUnit]
  | handoff => simp [State.onUnit]

/-- The drop of the units of a list. -/
theorem State.dropUnits_eq (us : List (Fin 2)) : us.foldl State.dropUnit s = s.droppedUnits fun u => decide (u ∈ us) := by
  induction us generalizing s with
  | nil => exact State.droppedUnits_none.symm
  | cons u us ih =>
    rw [List.foldl_cons, ih, State.dropUnit_eq, State.droppedUnits_twice]
    simp [List.mem_cons]

/-! ## The requesters (04 R73, 05 R99) -/

/-- A list of requesters of which none is left is among those detached. -/
theorem allAmong_eq (refs requesters : List Ref) :
    (requesters.filter fun r => !refs.contains r).isEmpty = allAmong refs requesters := by
  rw [Bool.eq_iff_iff, allAmong, List.isEmpty_iff, List.filter_eq_nil_iff, List.all_eq_true]
  simp

/-- The search-queue entries that keep a requester. -/
theorem filter_without (refs : List Ref) (queue : List SearchEntry) :
    ((queue.map (SearchEntry.without refs)).filter fun e => !e.requesters.isEmpty) =
      (queue.filter fun e => !allAmong refs e.requesters).map (SearchEntry.without refs) := by
  rw [List.filter_map]
  congr 1
  exact List.filter_congr fun e _ => congrArg (!·) (allAmong_eq refs e.requesters)

/-- The units of the search-queue entries that keep no requester. -/
theorem mem_emptied (refs : List Ref) (queue : List SearchEntry) (u : Fin 2) :
    decide (u ∈ ((queue.map (SearchEntry.without refs)).filter fun e => e.requesters.isEmpty).filterMap (·.unit)) =
      queue.any fun e => decide (e.unit = some u) && allAmong refs e.requesters := by
  rw [Bool.eq_iff_iff, decide_eq_true_eq, List.any_eq_true]
  simp only [List.mem_filterMap, List.mem_filter, List.mem_map, Bool.and_eq_true, decide_eq_true_eq]
  constructor
  · rintro ⟨-, ⟨⟨e, he, rfl⟩, hempty⟩, hunit⟩
    exact ⟨e, he, hunit, allAmong_eq refs e.requesters ▸ hempty⟩
  · rintro ⟨e, he, hunit, hall⟩
    exact ⟨e.without refs, ⟨⟨e, he, rfl⟩, (allAmong_eq refs e.requesters).trans hall⟩, hunit⟩

/-- What a detachment leaves of the search block and of the composer queue. -/
theorem State.detachSearch_eq (refs : List Ref) : s.detachSearch refs = { s with
    search := (s.afterDetaching refs).search, rco := { s.rco with queue := (s.afterDetaching refs).rco.queue } } := by
  rw [State.detachSearch]
  simp only [State.dropUnits_eq, mem_emptied, filter_without]
  have hplace (u : Fin 2) (d : Bool) : (d && (decide (s.search.units[u.val].state = .held)
      || decide (s.search.units[u.val].state = .handoff)) && decide (s.search.units[u.val].state = .handoff)) =
      (d && decide (s.search.units[u.val].state = .handoff)) := by
    cases d with
    | false => rfl
    | true => simpa using Or.inr
  unfold State.droppedUnits State.afterDetaching State.drops SearchUnit.dropped SearchUnit.droppable SearchEntry.without
  simp only [hplace]

/-- A detachment. -/
theorem State.detach_eq (refs : List Ref) : s.detach refs = s.afterDetaching refs := by
  rw [State.detach, State.detachSearch_eq, State.detachJob, State.detachQueries]
  unfold State.afterDetaching
  cases hj : s.rco.job with
  | none => simp only [hj]
  | some j => simp only [hj, allAmong_eq]; rfl

/-- A detachment of nobody changes nothing where all work holds a requester. -/
theorem State.afterDetaching_nil (hheld : s.WorkHeld) : s.afterDetaching [] = s := by
  obtain ⟨hqueue, hjob⟩ := hheld
  have hkept {requesters : List Ref} (h : requesters ≠ []) : allAmong [] requesters = false := by
    cases requesters with
    | nil => exact absurd rfl h
    | cons r rs => rfl
  have hentries : (s.search.queue.filter fun e => !allAmong [] e.requesters) = s.search.queue :=
    List.filter_eq_self.mpr fun e he => by rw [hkept (hqueue e he)]; rfl
  have hdrops (u : Fin 2) : s.drops [] u = false := by
    have hany : (s.search.queue.any fun e => decide (e.unit = some u) && allAmong [] e.requesters) = false :=
      List.any_eq_false.mpr fun e he => by simp [hkept (hqueue e he)]
    rw [State.drops, hany, Bool.false_and]
  have hsearch : (s.afterDetaching []).search = s.search := by
    simp [State.afterDetaching, hentries, hdrops]
  have hplaces : (s.afterDetaching []).rco.queue = s.rco.queue := by
    simp [State.afterDetaching, hdrops]
  have hjobs : (s.afterDetaching []).rco.job = s.rco.job := by
    cases hj : s.rco.job with
    | none => simp only [State.afterDetaching, hj]
    | some j => simp [State.afterDetaching, hj, hkept (hjob j hj)]
  have hdir : (s.afterDetaching []).dir = s.dir := by
    simp [State.afterDetaching]
  have hrco : (s.afterDetaching []).rco = s.rco := congrArg₂ ComposerState.mk hplaces hjobs
  calc s.afterDetaching [] = { s with
        search := (s.afterDetaching []).search, rco := (s.afterDetaching []).rco, dir := (s.afterDetaching []).dir } := rfl
    _ = s := by rw [hsearch, hrco, hdir]

end

end Sys2Proof.Machine
end

section
/-! PROOFS. The results that leave a list (09 R151, 11 R186, R189). -/

namespace Sys2Proof.Machine
section
variable {s : State} {i : Fin 4}

/-- What leaves of two lists, one behind the other. -/
theorem leavingFrom_append (l : LinkState) (i : Fin 4) (code : Byte) (n : Nat) (es fs : List Entry) :
    leavingFrom l i code n (es ++ fs) =
      leavingFrom l i code n es ++ leavingFrom l i code (n + (leavingFrom l i code n es).length) fs := by
  induction es generalizing n with
  | nil => rfl
  | cons e es ih =>
    rw [List.cons_append, leavingFrom, leavingFrom, ih, ih]
    split
    · rfl
    · rw [List.cons_append, List.length_cons, Nat.add_right_comm, Nat.add_assoc n]

/-- A flag that either of two sets. -/
theorem ite_or_flag (x : BitVec 6) (p q : Prop) [Decidable p] [Decidable q] :
    (if p ∨ q then x else 0) = (if p then x else 0) ||| (if q then x else 0) := by
  by_cases hp : p <;> by_cases hq : q <;> simp [hp, hq]

/-- What leaves of two lists one after the other leaves of the two together. -/
theorem State.afterLeaving_append (code : Byte) (es fs mid rest : List Entry) :
    (s.afterLeaving i code es mid).afterLeaving i code fs rest = s.afterLeaving i code (es ++ fs) rest := by
  obtain ⟨t, ht⟩ : ∃ t, t = s.afterLeaving i code es mid := ⟨_, rfl⟩
  have hmask : t.link.mask = s.link.mask := by rw [ht]; rfl
  have hreleased : t.screens[i.val].released = s.screens[i.val].released + (s.leaving i code es).length := by
    rw [ht]
    simp [State.afterLeaving]
  have hleaving : s.leaving i code (es ++ fs) = s.leaving i code es ++ t.leaving i code fs := by
    simp only [State.leaving_eq] at hreleased ⊢
    rw [leavingFrom_append, hreleased, leavingFrom_of_mask hmask]
  have hflag (k : MaskKind) : (∃ e ∈ es ++ fs, s.link.discards e = true ∧ e.ask.leavesAs.1 = k) ↔
      (∃ e ∈ es, s.link.discards e = true ∧ e.ask.leavesAs.1 = k)
        ∨ ∃ e ∈ fs, t.link.discards e = true ∧ e.ask.leavesAs.1 = k := by
    rw [LinkState.discards_of_mask hmask]
    simp only [List.mem_append, or_and_right, exists_or]
  rw [← ht, State.afterLeaving, State.afterLeaving, hleaving]
  simp only [hflag, ite_or_flag]
  rw [ht]
  simp [State.afterLeaving, Nat.add_assoc, Nat.sub_sub]
  ac_rfl

/-- The pending flag of an entry's kind (11 R189). -/
theorem setKind_of_maskKind (m : BitVec 6) (a : Ask) : setKind m a.maskKind true =
    m ||| (if a.maskKind = .route then 0b000100 else 0) ||| (if a.maskKind = .matchList then 0b001000 else 0) := by
  cases a <;> simp [Ask.maskKind, setKind, MaskKind.code]

/-- A DONE entry that is placed leaves alone (09 R151, 11 R186, R189). -/
theorem State.placeResult_eq {e : Entry} {r : EntryResult} (hr : e.result = some r) (code : Byte) :
    s.placeResult i e r = s.afterLeaving i code [e] s.screens[i.val].outstanding := by
  unfold State.placeResult
  split
  · rename_i tag hasker
    have hpanel : e.ofPanel = false := by rw [Entry.ofPanel, hasker]
    have hd : s.link.discards e = false := by rw [LinkState.discards, hpanel, Bool.false_and]
    have hleaves : s.leaving i code [e] = [e.leavesAt i code s.screens[i.val].released] := by
      rw [State.leaving_eq, leavingFrom, hd]
      rfl
    simp [State.afterLeaving, hleaves, Entry.leavesAt, hasker, hpanel, Ask.leavesAs_eq, Entry.leavesWith_of_done hr, hd,
      State.queueReply, State.onLink, State.onScreen]
  · rename_i seq hasker
    have hpanel : e.ofPanel = true := by rw [Entry.ofPanel, hasker]
    have hd : s.link.discards e = s.link.masked e.ask.maskKind := by
      rw [LinkState.discards, hpanel, Bool.true_and, Ask.leavesAs_eq]
    split
    · rename_i hmasked
      have hleaves : s.leaving i code [e] = [] := by
        rw [State.leaving_eq, leavingFrom, hd, hmasked]
        rfl
      have hself : s.screens.set i.val s.screens[i.val] = s.screens := Vector.set_getElem_self i.isLt
      simp [State.afterLeaving, hleaves, hpanel, hd, hmasked, State.onLink, hself, Ask.leavesAs_eq, setKind_of_maskKind]
    · rename_i hmasked
      have hmasked : s.link.masked e.ask.maskKind = false := by simpa using hmasked
      have hleaves : s.leaving i code [e] = [e.leavesAt i code s.screens[i.val].released] := by
        rw [State.leaving_eq, leavingFrom, hd, hmasked]
        rfl
      simp [State.afterLeaving, hleaves, Entry.leavesAt, hasker, hpanel, Ask.leavesAs_eq, Entry.leavesWith_of_done hr, hd,
        hmasked, State.onLink, State.onScreen]

/-- A release lets the DONE entries at the head of a list leave, in order (09 R151). -/
theorem State.releaseList_done (code : Byte) (es rest : List Entry) (hes : ∀ e ∈ es, e.result ≠ none)
    (hrest : ∀ e, rest.head? = some e → e.result = none) :
    s.releaseList i (es ++ rest) = s.afterLeaving i code es rest := by
  induction es generalizing s with
  | nil =>
    have hstop : s.releaseList i rest = s.onScreen i fun c => { c with outstanding := rest } := by
      cases rest with
      | nil => rfl
      | cons e es => exact State.releaseList_stop _ _ _ _ (hrest e rfl)
    rw [List.nil_append, hstop]
    simp [State.afterLeaving, State.leaving, State.onScreen]
  | cons e es ih =>
    obtain ⟨he, hes⟩ := List.forall_mem_cons.mp hes
    obtain ⟨r, hr⟩ := Option.ne_none_iff_exists'.mp he
    rw [List.cons_append, State.releaseList_go _ _ _ _ r hr, ih hes, State.placeResult_eq hr code, State.afterLeaving_append,
      List.singleton_append]

/-! ## Entries that a cancellation reaches (09 R155, R160) -/

/-- An entry after a cancellation of a panel's own: CANCELLED, where it is a panel's and not DONE. -/
def Entry.panelCancelled (e : Entry) : Entry :=
  if e.result = none ∧ e.ofPanel = true then { e with result := some (.bare .cancelled) } else e

/-- The cancellation of an entry sets its result alone. -/
theorem Entry.panelCancelled_keeps (e : Entry) :
    e.panelCancelled.asker = e.asker ∧ e.panelCancelled.ask = e.ask ∧ e.panelCancelled.ofPanel = e.ofPanel := by
  unfold Entry.panelCancelled
  split <;> exact ⟨rfl, rfl, rfl⟩

/-- A cancelled entry leaves as one that is not DONE does with the code of CANCELLED. -/
theorem Entry.leavesWith_panelCancelled (i : Fin 4) (e : Entry) : e.panelCancelled.leavesWith i 9 = e.leavesWith i 9 := by
  unfold Entry.panelCancelled
  split
  · rename_i he
    obtain ⟨id, asker, ask, result⟩ := e
    obtain rfl : result = none := he.1
    cases ask <;> simp [Entry.leavesWith, Entry.bytes, routeHeadBytes, emptyMatchBytes, ResultCode.code, le]
  · rfl

/-- What leaves of entries after the cancellation leaves of them with the code of CANCELLED. -/
theorem leavingFrom_panelCancelled (l : LinkState) (i : Fin 4) (n : Nat) (es : List Entry) :
    leavingFrom l i 9 n (es.map Entry.panelCancelled) = leavingFrom l i 9 n es := by
  induction es generalizing n with
  | nil => rfl
  | cons e es ih =>
    obtain ⟨hasker, hask, hpanel⟩ := e.panelCancelled_keeps
    have hd : l.discards e.panelCancelled = l.discards e := by rw [LinkState.discards, hask, hpanel, LinkState.discards]
    have ha : e.panelCancelled.leavesAt i 9 n = e.leavesAt i 9 n := by
      rw [Entry.leavesAt, hasker, hask, e.leavesWith_panelCancelled, Entry.leavesAt]
    rw [List.map_cons, leavingFrom, leavingFrom, hd, ha, ih, ih]

/-- Cancelled entries leave as those that are not DONE do with the code of CANCELLED. -/
theorem State.afterLeaving_panelCancelled (es rest : List Entry) :
    s.afterLeaving i 9 (es.map Entry.panelCancelled) rest = s.afterLeaving i 9 es rest := by
  have hleaving : s.leaving i 9 (es.map Entry.panelCancelled) = s.leaving i 9 es := by
    rw [State.leaving_eq, State.leaving_eq, leavingFrom_panelCancelled]
  have hcount : (es.map Entry.panelCancelled).countP Entry.ofPanel = es.countP Entry.ofPanel := by
    rw [List.countP_map]
    exact List.countP_congr fun e _ => by rw [Function.comp_apply, e.panelCancelled_keeps.2.2]
  have hflag (k : MaskKind) : (∃ e ∈ es.map Entry.panelCancelled, s.link.discards e = true ∧ e.ask.leavesAs.1 = k) ↔
      ∃ e ∈ es, s.link.discards e = true ∧ e.ask.leavesAs.1 = k := by
    have hentry (e : Entry) : (s.link.discards e.panelCancelled = true ∧ e.panelCancelled.ask.leavesAs.1 = k) ↔
        (s.link.discards e = true ∧ e.ask.leavesAs.1 = k) := by
      obtain ⟨-, hask, hpanel⟩ := e.panelCancelled_keeps
      rw [LinkState.discards, LinkState.discards, hask, hpanel]
    simp only [List.mem_map, exists_exists_and_eq_and, hentry]
  unfold State.afterLeaving
  simp only [hleaving, hcount, hflag]

/-- The entries that a cancellation of a panel's own lets leave, where an entry stands alone. -/
def Entry.leavesOnCancel (e : Entry) : Bool := e.result.isSome || e.ofPanel

/-- An entry waits behind the cancellation where it is a host's and not DONE. -/
theorem Entry.panelCancelled_waits (e : Entry) : e.panelCancelled.result = none ↔ e.leavesOnCancel = false := by
  unfold Entry.panelCancelled Entry.leavesOnCancel
  cases hr : e.result <;> cases hp : e.ofPanel <;> simp [hr]

/-- Behind the entries that leave on a cancellation the head of the list waits. -/
theorem head_dropWhile_waits (l : List Entry) (e : Entry)
    (he : ((l.dropWhile Entry.leavesOnCancel).map Entry.panelCancelled).head? = some e) : e.result = none := by
  rw [List.head?_map, Option.map_eq_some_iff] at he
  obtain ⟨y, hy, rfl⟩ := he
  have hhead := List.head?_dropWhile_not Entry.leavesOnCancel l
  rw [hy] at hhead
  exact y.panelCancelled_waits.mpr hhead

/-- A release after the cancellation: the DONE entries and the panel's at the head leave (09 R151, R160). -/
theorem State.release_panelCancelled {l : List Entry} (hlist : s.screens[i.val].outstanding = l.map Entry.panelCancelled) :
    s.release i = s.afterLeaving i 9 (l.takeWhile Entry.leavesOnCancel)
      ((l.dropWhile Entry.leavesOnCancel).map Entry.panelCancelled) := by
  have hsplit : l.map Entry.panelCancelled = (l.takeWhile Entry.leavesOnCancel).map Entry.panelCancelled
      ++ (l.dropWhile Entry.leavesOnCancel).map Entry.panelCancelled := by
    rw [← List.map_append, List.takeWhile_append_dropWhile]
  rw [State.release, hlist, hsplit, State.releaseList_done 9, State.afterLeaving_panelCancelled]
  · intro e he
    obtain ⟨y, hy, rfl⟩ := List.mem_map.mp he
    rw [Ne, y.panelCancelled_waits, List.mem_takeWhile_imp hy]
    exact Bool.noConfusion
  · exact head_dropWhile_waits l

end

end Sys2Proof.Machine
end

section
/-! PROOFS. The CANCEL action of a selection (09 R155, R160). -/

namespace Sys2Proof.Machine

section
variable {s : State} {p : Fin 4} {f : Processing} {h : Nat} {x : Hotspot}

/-- The requesters of a panel's entries that are not DONE. -/
def panelRefs (p : Fin 4) (l : List Entry) : List Ref :=
  (l.filter fun e => decide (e.result = none) && e.ofPanel).map fun e => { screen := p, id := e.id }

/-- A CANCEL action reaches a panel's entries that are not DONE. -/
theorem Entry.cancellable_eq (e : Entry) : e.cancellable true = (decide (e.result = none) && e.ofPanel) := by
  unfold Entry.cancellable Entry.ofPanel Entry.done
  cases e.result <;> rfl

/-- Where an entry stands on the list does not matter to what leaves. -/
theorem State.afterLeaving_onScreen (i : Fin 4) (code : Byte) (es rest : List Entry) (l : List Entry) :
    (s.onScreen i fun c => { c with outstanding := l }).afterLeaving i code es rest = s.afterLeaving i code es rest := by
  simp [State.afterLeaving, State.leaving, State.onScreen]
  rfl

/-- A cancellation of a panel's own entries: those at the head leave, the others stay as DONE, and all are detached from
their work (09 R155, R160). -/
theorem State.cancelEntries_panel (i : Fin 4) :
    s.cancelEntries i true = (s.afterLeaving i 9 (s.screens[i.val].outstanding.takeWhile Entry.leavesOnCancel)
      ((s.screens[i.val].outstanding.dropWhile Entry.leavesOnCancel).map Entry.panelCancelled)).afterDetaching
        (panelRefs i s.screens[i.val].outstanding) := by
  have hmarks : (fun e : Entry => if e.cancellable true then { e with result := some (.bare .cancelled) } else e)
      = Entry.panelCancelled := by
    funext e
    simp only [Entry.cancellable_eq, Entry.panelCancelled, Bool.and_eq_true, decide_eq_true_eq]
  have hrefs : s.cancelRefs i true = panelRefs i s.screens[i.val].outstanding := by
    unfold State.cancelRefs panelRefs
    rw [funext Entry.cancellable_eq]
  obtain ⟨u, hu⟩ : ∃ u, u = s.onScreen i fun c =>
      { c with outstanding := s.screens[i.val].outstanding.map Entry.panelCancelled } :=
    ⟨_, rfl⟩
  have hlist : (u.afterDetaching (panelRefs i s.screens[i.val].outstanding)).screens[i.val].outstanding
      = s.screens[i.val].outstanding.map Entry.panelCancelled := by
    have hscreens : (u.afterDetaching (panelRefs i s.screens[i.val].outstanding)).screens = u.screens := rfl
    rw [hscreens, hu, State.onScreen_get, if_pos rfl]
  have hmarked : (s.onScreen i fun c => { c with outstanding := c.outstanding.map Entry.panelCancelled }) = u := by
    rw [hu]
    rfl
  rw [State.cancelEntries, hrefs, hmarks, State.detach_eq, hmarked, State.release_panelCancelled hlist,
    ← State.afterLeaving_onScreen (s := s) i 9 _ _ (s.screens[i.val].outstanding.map Entry.panelCancelled), ← hu]
  rfl

/-- As many reports leave as panels' entries do, or fewer. -/
theorem leavingFrom_reports_le (l : LinkState) (i : Fin 4) (code : Byte) (n : Nat) (es : List Entry) :
    ((leavingFrom l i code n es).filter fun x => decide (x.1 = .reports)).length ≤ es.countP Entry.ofPanel := by
  induction es generalizing n with
  | nil => exact Nat.le_refl 0
  | cons e es ih =>
    rw [leavingFrom, List.countP_cons]
    split
    · exact Nat.le_add_right_of_le (ih n)
    · rw [List.filter_cons]
      have := ih (n + 1)
      cases ha : e.asker with
      | host tag =>
        simp [Entry.leavesAt, Entry.ofPanel, ha]
        exact this
      | panel seq =>
        simp [Entry.leavesAt, Entry.ofPanel, ha]
        exact this

/-- The leaving of entries takes no report slot that was not reserved (09 R151, R156). -/
theorem State.afterLeaving_slots (i : Fin 4) (code : Byte) (es rest : List Entry)
    (hreserved : es.countP Entry.ofPanel ≤ s.link.reserved) :
    (s.afterLeaving i code es rest).link.reportsHeld + (s.afterLeaving i code es rest).link.reserved
      ≤ s.link.reportsHeld + s.link.reserved := by
  have hreports := leavingFrom_reports_le s.link i code s.screens[i.val].released es
  rw [← State.leaving_eq] at hreports
  simp only [State.afterLeaving, LinkState.reportsHeld, List.length_append, List.length_map]
  omega

/-- A detachment leaves the engines at rest (04 R56, 05 R81, 08 R137). -/
theorem State.EnginesQuiet.afterDetaching (hquiet : s.EnginesQuiet) (refs : List Ref) :
    (s.afterDetaching refs).EnginesQuiet := by
  obtain ⟨hrco, hdir, hsearch⟩ := hquiet
  refine ⟨?_, ?_, ?_⟩
  · simp [State.afterDetaching, hrco]
  · simp [State.afterDetaching, hdir]
  · intro e he
    simp only [State.afterDetaching, List.mem_map, List.mem_filter] at he
    obtain ⟨y, ⟨hy, -⟩, rfl⟩ := he
    exact hsearch y hy

/-- The state behind the cancellation of a selection, but for its SELECTION report (09 R160). -/
def State.cancelled (s : State) (p : Fin 4) : State :=
  (State.afterLeaving { s.afterUp p with screens := s.screens.set p.val s.screens[p.val].selecting } p 9
    (s.screens[p.val].outstanding.takeWhile Entry.leavesOnCancel)
    ((s.screens[p.val].outstanding.dropWhile Entry.leavesOnCancel).map Entry.panelCancelled)).afterDetaching
      (panelRefs p s.screens[p.val].outstanding)

/-- The CANCEL action of a selection ends the panel's own entries with CANCELLED, and leaves the host's (09 R160). -/
theorem exec_cancel (hselects : s.selectsOn p f h x) (haction : x.action = .cancel)
    (hreserved : s.screens[p.val].outstanding.countP Entry.ofPanel ≤ s.link.reserved) :
    exec (.frameProcessed p) s = .next ((s.cancelled p).withSelection p f h x 0) := by
  obtain ⟨w, hw⟩ : ∃ w, w = (s.acting p s.screens[p.val].selecting).cancelEntries p true := ⟨_, rfl⟩
  have hout : (s.upReported p).carryOut p x.action = plainOutcome w := by
    rw [State.carryOut_enabled rfl hselects.2.1, haction, hw]
    rfl
  have hcancelled := State.cancelEntries_panel (s := s.acting p s.screens[p.val].selecting) p
  have hlist : (s.acting p s.screens[p.val].selecting).screens[p.val].outstanding = s.screens[p.val].outstanding := by
    rw [State.acting_screen]
    rfl
  rw [hlist, ← hw] at hcancelled
  have hactingSlots : (s.acting p s.screens[p.val].selecting).link.reportsHeld
      + (s.acting p s.screens[p.val].selecting).link.reserved = s.link.reportsHeld + 1 + s.link.reserved :=
    State.acting_slots
  have hslots : w.link.reportsHeld + w.link.reserved < 32 := by
    have hle := State.afterLeaving_slots (s := s.acting p s.screens[p.val].selecting) p 9
      (s.screens[p.val].outstanding.takeWhile Entry.leavesOnCancel)
      ((s.screens[p.val].outstanding.dropWhile Entry.leavesOnCancel).map Entry.panelCancelled)
      ((List.Sublist.countP_le (List.takeWhile_sublist _)).trans hreserved)
    have hroom := hselects.2.2
    have hlink : w.link = ((s.acting p s.screens[p.val].selecting).afterLeaving p 9
      (s.screens[p.val].outstanding.takeWhile Entry.leavesOnCancel)
      ((s.screens[p.val].outstanding.dropWhile Entry.leavesOnCancel).map Entry.panelCancelled)).link := by
      rw [hcancelled]
      rfl
    rw [hlink]
    omega
  have hmask : w.link.mask = s.link.mask := by
    rw [hcancelled]
    rfl
  have hreported : (plainOutcome w).reported p f h x = w.withSelection p f h x 0 := State.queueReport_free hslots _ _
  have hwaits : w.screens[p.val].headWaits := by
    have houtstanding : w.screens[p.val].outstanding =
        (s.screens[p.val].outstanding.dropWhile Entry.leavesOnCancel).map Entry.panelCancelled := by
      rw [hcancelled]
      exact congrArg Screen.outstanding (Vector.getElem_set_self p.isLt)
    intro e he
    rw [houtstanding] at he
    exact head_dropWhile_waits _ e he
  have hquiet : w.EnginesQuiet := by
    rw [hcancelled]
    exact State.EnginesQuiet.afterDetaching hselects.quiet _
  rw [exec_frameProcessed_of_outcome hselects.1 (by have := hselects.2.2; omega) hout hmask, hreported,
    State.rests_of_quiet (s := w.withSelection p f h x 0) hwaits hquiet, hcancelled]
  rfl

/-- Where nothing leaves and the list stays nothing changes. -/
theorem State.afterLeaving_nil (i : Fin 4) (code : Byte) : s.afterLeaving i code [] s.screens[i.val].outstanding = s := by
  have hself : s.screens.set i.val s.screens[i.val] = s.screens := Vector.set_getElem_self i.isLt
  simp [State.afterLeaving, State.leaving]
  exact congrArg (fun v => ({ s with screens := v } : State)) hself

/-- A cancellation of a panel's own entries on a list of hosts' changes nothing (09 R160). -/
theorem State.cancelEntries_hosts {i : Fin 4} (hhosts : ∀ e ∈ s.screens[i.val].outstanding, e.ofPanel = false)
    (hwaits : s.screens[i.val].headWaits) (hheld : s.WorkHeld) : s.cancelEntries i true = s := by
  have hrefs : panelRefs i s.screens[i.val].outstanding = [] := by
    rw [panelRefs, List.map_eq_nil_iff, List.filter_eq_nil_iff]
    intro e he
    simp [hhosts e he]
  have hmap : s.screens[i.val].outstanding.map Entry.panelCancelled = s.screens[i.val].outstanding := by
    refine (List.map_congr_left fun e he => ?_).trans (List.map_id _)
    rw [Entry.panelCancelled, if_neg (by simp [hhosts e he])]
    rfl
  have htake : s.screens[i.val].outstanding.takeWhile Entry.leavesOnCancel = [] := by
    cases hl : s.screens[i.val].outstanding with
    | nil => rfl
    | cons e es =>
      have hwaiting : e.result = none := hwaits e (by rw [hl]; rfl)
      have hhost : e.ofPanel = false := hhosts e (by rw [hl]; exact List.mem_cons_self)
      exact List.takeWhile_cons_of_neg (by simp [Entry.leavesOnCancel, hwaiting, hhost])
  have hdrop : s.screens[i.val].outstanding.dropWhile Entry.leavesOnCancel = s.screens[i.val].outstanding := by
    have := List.takeWhile_append_dropWhile (p := Entry.leavesOnCancel) (l := s.screens[i.val].outstanding)
    rwa [htake, List.nil_append] at this
  rw [State.cancelEntries_panel, hrefs, htake, hdrop, hmap, State.afterLeaving_nil, State.afterDetaching_nil hheld]

/-- The CANCEL action of a selection leaves a list of hosts' entries as it is (09 R160). -/
theorem exec_cancel_hosts (hselects : s.selectsOn p f h x) (haction : x.action = .cancel)
    (hhosts : ∀ e ∈ s.screens[p.val].outstanding, ∃ tag, e.asker = .host tag) :
    exec (.frameProcessed p) s = .next (s.afterSelection p f h x 0 s.screens[p.val].selecting) := by
  have hheld : s.WorkHeld := by
    obtain ⟨⟨-, -, -, -, -, -, -, -, -, -, -, -, hheld, -⟩, -⟩ := hselects
    exact hheld
  have hscreen : (s.acting p s.screens[p.val].selecting).screens[p.val] = s.screens[p.val].selecting := State.acting_screen _
  have hcancel : (s.acting p s.screens[p.val].selecting).cancelEntries p true = s.acting p s.screens[p.val].selecting := by
    refine State.cancelEntries_hosts ?_ ?_ hheld
    · rw [hscreen]
      intro e he
      obtain ⟨tag, htag⟩ := hhosts e he
      rw [Entry.ofPanel, htag]
    · rw [hscreen]
      exact hselects.waits
  have hout : (s.upReported p).carryOut p x.action =
      { state := s.acting p s.screens[p.val].selecting, droppedBusy := false, textFull := false } := by
    rw [State.carryOut_enabled rfl hselects.2.1, haction]
    exact congrArg plainOutcome hcancel
  exact (exec_frameProcessed_of_no_request (c := s.screens[p.val].selecting) hselects.1 rfl hout).1 hselects.2.2

end

end Sys2Proof.Machine
end

section
/-! PROOFS. O50: what each action of a selected hotspot edits, requests and reports (09 R156 to R161, 08 R142). -/

namespace Sys2Proof.Machine

section
variable {s : State} {p : Fin 4} {f : Processing} {h : Nat} {x : Hotspot} {text : List Byte} {terms : Terms} {calls : Bool}
  {full : Byte} {kind : DestKind} {number : BitVec 16}

/-! ## Actions that make no request -/

/-- What a text or term action of a selection comes to. -/
theorem State.carryOut_edits (henabled : s.screens[p.val].enabled = true)
    (hedits : s.screens[p.val].Edits x.action text terms calls full) :
    (s.upReported p).carryOut p x.action = s.editOutcome p s.screens[p.val].selecting text terms calls full := by
  rw [State.carryOut_enabled rfl henabled]
  exact State.doAction_edits (c := s.screens[p.val].selecting) hedits

/-- An edit without a query: TEXT_FULL alone is reported (09 R158, R159). -/
theorem exec_edit_unasked (hselects : s.selectsOn p f h x) (hedits : s.screens[p.val].Edits x.action text terms calls full)
    (hno : s.mod.mode.serving = false ∨ calls = false) :
    exec (.frameProcessed p) s = .next (s.afterSelection p f h x full (s.screens[p.val].editing text terms)) := by
  have hfull := hedits.full_cases
  have hflags : selectionFlags false (decide (full = 2)) = full := by
    obtain rfl | ⟨rfl, -⟩ := hfull <;> rfl
  have hout := (State.carryOut_edits hselects.2.1 hedits).trans (State.editOutcome_unasked hfull hno)
  have hexec :=
    (exec_frameProcessed_of_no_request (c := s.screens[p.val].editing text terms) hselects.1 rfl hout).1 hselects.2.2
  rwa [hflags] at hexec

/-- An edit whose query finds a full list: DROPPED_BUSY (09 R156). -/
theorem exec_edit_busy (hselects : s.selectsOn p f h x) (hedits : s.screens[p.val].Edits x.action text terms true full)
    (hm : s.mod.mode.serving = true) (hbusy : 4 ≤ s.screens[p.val].outstanding.length) :
    exec (.frameProcessed p) s = .next (s.afterSelection p f h x 1 (s.screens[p.val].editing text terms)) :=
  have hout := (State.carryOut_edits hselects.2.1 hedits).trans
    (State.editOutcome_busy (c := s.screens[p.val].selecting) hm (.inl hbusy))
  (exec_frameProcessed_of_no_request (c := s.screens[p.val].editing text terms) hselects.1 rfl hout).1 hselects.2.2

/-- A LISTING or WAYPOINT action outside SERVICE and FROZEN (09 R156). -/
theorem exec_route_outside (hselects : s.selectsOn p f h x) (hleads : x.action.LeadsTo kind number)
    (hm : s.mod.mode.serving = false) :
    exec (.frameProcessed p) s = .next (s.afterSelection p f h x 0 s.screens[p.val].selecting) :=
  have hout := (State.carryOut_leadsTo hselects.2.1 hleads).trans (State.panelRoute_outside hm kind number)
  (exec_frameProcessed_of_no_request (c := s.screens[p.val].selecting) hselects.1 rfl hout).1 hselects.2.2

/-- A LISTING or WAYPOINT action on a full list: DROPPED_BUSY (09 R156). -/
theorem exec_route_busy (hselects : s.selectsOn p f h x) (hleads : x.action.LeadsTo kind number)
    (hm : s.mod.mode.serving = true) (hbusy : 4 ≤ s.screens[p.val].outstanding.length) :
    exec (.frameProcessed p) s = .next (s.afterSelection p f h x 1 s.screens[p.val].selecting) :=
  have hout := (State.carryOut_leadsTo hselects.2.1 hleads).trans
    (State.panelRoute_busy (c := s.screens[p.val].selecting) hm (.inl hbusy) kind number)
  (exec_frameProcessed_of_no_request (c := s.screens[p.val].selecting) hselects.1 rfl hout).1 hselects.2.2

/-- Where the UP takes the last report slot an edit stands and makes no request (09 R156). -/
theorem exec_edit_last_slot (hforms : s.formsSelection p f h x) (henabled : s.screens[p.val].enabled = true)
    (hlast : s.link.reportsHeld + s.link.reserved = 31)
    (hedits : s.screens[p.val].Edits x.action text terms calls full) :
    exec (.frameProcessed p) s = .next (s.afterDropped p (s.screens[p.val].editing text terms)) := by
  have hout := State.carryOut_edits henabled hedits
  by_cases hno : s.mod.mode.serving = false ∨ calls = false
  · rw [State.editOutcome_unasked hedits.full_cases hno] at hout
    exact (exec_frameProcessed_of_no_request (c := s.screens[p.val].editing text terms) hforms rfl hout).2 hlast
  · obtain ⟨hm, rfl⟩ : s.mod.mode.serving = true ∧ calls = true := by simpa using hno
    rw [State.editOutcome_busy (c := s.screens[p.val].selecting) hm (.inr (by omega))] at hout
    exact (exec_frameProcessed_of_no_request (c := s.screens[p.val].editing text terms) hforms rfl hout).2 hlast

/-- Where the UP takes the last report slot a LISTING or WAYPOINT action makes no request (09 R156). -/
theorem exec_route_last_slot (hforms : s.formsSelection p f h x) (henabled : s.screens[p.val].enabled = true)
    (hlast : s.link.reportsHeld + s.link.reserved = 31) (hleads : x.action.LeadsTo kind number) :
    exec (.frameProcessed p) s = .next (s.afterDropped p s.screens[p.val].selecting) := by
  have hout := State.carryOut_leadsTo henabled hleads
  cases hm : s.mod.mode.serving with
  | false =>
    rw [State.panelRoute_outside hm] at hout
    exact (exec_frameProcessed_of_no_request (c := s.screens[p.val].selecting) hforms rfl hout).2 hlast
  | true =>
    rw [State.panelRoute_busy hm (.inr (by omega))] at hout
    exact (exec_frameProcessed_of_no_request (c := s.screens[p.val].selecting) hforms rfl hout).2 hlast

/-- Where the UP takes the last report slot a PLAIN selection is not reported (09 R156). -/
theorem exec_plain_last_slot (hforms : s.formsSelection p f h x) (henabled : s.screens[p.val].enabled = true)
    (hlast : s.link.reportsHeld + s.link.reserved = 31) (hplain : x.action = .plain) :
    exec (.frameProcessed p) s = .next (s.afterDropped p s.screens[p.val].selecting) := by
  have hout : (s.upReported p).carryOut p x.action = plainOutcome (s.acting p s.screens[p.val].selecting) := by
    rw [State.carryOut_enabled rfl henabled, hplain]
    rfl
  exact (exec_frameProcessed_of_no_request (c := s.screens[p.val].selecting) hforms rfl hout).2 hlast

/-- On a screen that is not enabled every action is PLAIN (09 R156). -/
theorem exec_disabled (hforms : s.formsSelection p f h x) (hdisabled : s.screens[p.val].enabled = false) :
    (s.link.reportsHeld + s.link.reserved + 2 ≤ 32 →
      exec (.frameProcessed p) s = .next (s.afterSelection p f h x 0 s.screens[p.val]))
    ∧ (s.link.reportsHeld + s.link.reserved = 31 →
      exec (.frameProcessed p) s = .next (s.afterDropped p s.screens[p.val])) :=
  exec_frameProcessed_of_no_request hforms rfl (State.carryOut_disabled rfl hdisabled x.action)

/-! ## Route requests -/

/-- The record that a panel is answered with from the cache (05 R95, 06 R104). -/
theorem State.routing_finalise {y : CacheEntry} {z : RouteStep} {zs : List RouteStep}
    (hkey : y.route.key = s.screens[p.val].panelKey kind number) (hsteps : y.route.steps = z :: zs) :
    (s.routing p kind number).finalise p false true y.route =
      { fromCache := true, detour := y.route.detour
        destinationClosed := decide (kind = .listing ∧ (s.listing number.toNat).status ≠ .opened)
        truncated := y.route.truncated, explicitOrigin := false, key := s.screens[p.val].panelKey kind number
        entrance := y.route.entrance
        distance := y.route.distance, metres := (y.route.distance + 5) / 10
        seconds := min ((y.route.time + 9) / 10) 65535
        minutes := (min ((y.route.time + 9) / 10) 65535 + 59) / 60
        levelChanges := y.route.levelChanges
        steps := { z with turn := (if z.action = .arrive then TurnClass.none
          else turnClass s.screens[p.val].heading y.route.heading) } :: zs } := by
  have hclosed : (s.routing p kind number).destinationClosed y.route.key =
      decide (kind = .listing ∧ (s.listing number.toNat).status ≠ .opened) := by
    rw [hkey]
    cases kind with
    | listing => exact decide_eq_decide.mpr ⟨fun h => ⟨rfl, h⟩, And.right⟩
    | waypoint => exact (decide_eq_false fun h => DestKind.noConfusion h.1).symm
  have hscreen : (s.routing p kind number).screens[p.val] =
      s.screens[p.val].selecting.asking (.route (s.screens[p.val].panelKey kind number) false) :=
    Vector.getElem_set_self p.isLt
  have hheading : (s.routing p kind number).screens[p.val].heading = s.screens[p.val].heading := by
    rw [hscreen]
    rfl
  rw [State.finalise, hclosed, hheading, hsteps, turnFirst_cons, hkey]
  rfl

/-- The screen of a selection that is answered at once, its list empty. -/
theorem Screen.editing_answered {c : Screen} (hempty : c.outstanding = []) :
    (c.editing text terms).answered = { c with
      active := true, idle := some 0, text := text, terms := terms, seq := c.seq + 1, nextId := c.nextId + 1
      released := c.released + 1 } :=
  Screen.answered_eq (c := c.editing text terms) hempty

/-- A route request that is refused leaves as the head of its ROUTE report (09 R157, 11 R191). -/
theorem State.Routes.refused (hr : s.Routes p f h x kind number) (hempty : s.screens[p.val].outstanding = [])
    (hmask : s.link.masked .route = false) {code : ResultCode}
    (hout : (s.upReported p).carryOut p x.action = plainOutcome
      (({ s.routing p kind number with rcc := s.rcc } : State).mark { screen := p, id := s.screens[p.val].nextId }
        (.bare code))) :
    exec (.frameProcessed p) s = .next { s.afterRequest p f h x s.screens[p.val].selecting.answered with
      link := { (s.afterRequest p f h x s.screens[p.val].selecting.answered).link with
        reports := (s.afterRequest p f h x s.screens[p.val].selecting.answered).link.reports ++
          [{ cls := 0x43, tag := 0, release := some (p, s.screens[p.val].released), resets := false
             payload := [BitVec.ofNat 8 p.val, s.screens[p.val].seq, code.code, 0] ++ le 2 s.screens[p.val].origin.toNat
              ++ [kind.code] ++ le 2 number.toNat ++ [0, 0] ++ [BitVec.ofNat 8 s.screens[p.val].profile.val]
              ++ List.replicate 14 0 }] } } := by
  rw [hr.answered hempty hmask hout, Screen.answerItem_bare, State.afterRequest_eq]
  rfl

/-- The search block behind a route request that misses and waits as an entry of its own (04 R55, R56). -/
theorem State.Routes.waits (hr : s.Routes p f h x kind number) (hshown : s.Shown kind number) {m : CacheState}
    (hmiss : s.MissesWith (s.screens[p.val].panelKey kind number) m)
    (hnew : ∀ e ∈ s.search.queue, e.key ≠ s.screens[p.val].panelKey kind number)
    (hrest : s.mod.mode = .frozen ∨ ∀ u : Fin 2, s.search.units[u.val].state ≠ .idle) {d : Screen}
    (hd : d = s.screens[p.val].selecting.asking (.route (s.screens[p.val].panelKey kind number) false)) :
    exec (.frameProcessed p) s = .next { s.afterRequest p f h x d with
      rcc := m
      search := { s.search with queue := s.search.queue ++ [{ key := s.screens[p.val].panelKey kind number
                                                              requesters := [{ screen := p, id := s.screens[p.val].nextId }]
                                                              unit := none }] }
      link := { (s.afterRequest p f h x d).link with reserved := s.link.reserved + 1 } } := by
  refine hr.searches hshown hmiss hd fun w hmod _ _ hsearch => ?_
  rw [State.joinedQueue, joinQueue_new hnew] at hsearch
  rw [State.giveUnits_idle, ← hsearch]
  refine .inr (hrest.imp (fun hfrozen => ?_) fun hbusy => ?_)
  · rw [hmod, hfrozen]
    exact Mode.noConfusion
  · rw [hsearch]
    exact hbusy

/-- The search block behind a route request that misses and joins the entry of its key (04 R55). -/
theorem State.Routes.merges (hr : s.Routes p f h x kind number) (hshown : s.Shown kind number) {m : CacheState}
    (hmiss : s.MissesWith (s.screens[p.val].panelKey kind number) m) (hlaw : s.QueueLaw)
    (hold : ∃ e ∈ s.search.queue, e.key = s.screens[p.val].panelKey kind number) {d : Screen}
    (hd : d = s.screens[p.val].selecting.asking (.route (s.screens[p.val].panelKey kind number) false)) :
    exec (.frameProcessed p) s = .next { s.afterRequest p f h x d with
      rcc := m
      search := { s.search with queue := s.search.queue.map fun e =>
        if e.key = s.screens[p.val].panelKey kind number then
          { e with requesters := e.requesters ++ [{ screen := p, id := s.screens[p.val].nextId }] } else e }
      link := { (s.afterRequest p f h x d).link with reserved := s.link.reserved + 1 } } := by
  refine hr.searches hshown hmiss hd fun w _ _ _ hsearch => ?_
  rw [State.joinedQueue, joinQueue_merge hlaw.1 hold] at hsearch
  rw [State.giveUnits_idle, ← hsearch]
  refine .inl ?_
  rw [hsearch]
  intro e he
  obtain ⟨y, hy, rfl⟩ := List.mem_map.mp he
  have hunit : (if y.key = s.screens[p.val].panelKey kind number then
      { y with requesters := y.requesters ++ [{ screen := p, id := s.screens[p.val].nextId }] } else y).unit = y.unit := by
    split <;> rfl
  rw [hunit]
  exact hr.selects.quiet.2.2 y hy

/-- The search block behind a route request that misses and begins its search (04 R56). -/
theorem State.Routes.begins (hr : s.Routes p f h x kind number) (hshown : s.Shown kind number) {m : CacheState}
    (hmiss : s.MissesWith (s.screens[p.val].panelKey kind number) m) {u : Fin 2}
    (hnew : ∀ e ∈ s.search.queue, e.key ≠ s.screens[p.val].panelKey kind number) (hmode : s.mod.mode = .service)
    (hidle : s.search.units[u.val].state = .idle) (hfirst : u = 1 → s.search.units[0].state ≠ .idle) {d : Screen}
    (hd : d = s.screens[p.val].selecting.asking (.route (s.screens[p.val].panelKey kind number) false)) :
    exec (.frameProcessed p) s = .next { s.afterRequest p f h x d with
      rcc := m
      search := {
        queue := s.search.queue ++ [{ key := s.screens[p.val].panelKey kind number
                                      requesters := [{ screen := p, id := s.screens[p.val].nextId }], unit := some u }]
        units := s.search.units.set u.val (s.begun (s.screens[p.val].panelKey kind number)) }
      link := { (s.afterRequest p f h x d).link with reserved := s.link.reserved + 1 } } := by
  refine hr.searches hshown hmiss hd fun w hmod hmap hdir hsearch => ?_
  rw [State.joinedQueue, joinQueue_new hnew] at hsearch
  have hunits : w.search.units = s.search.units := by rw [hsearch]
  rw [State.giveUnits_last (u := u) (hmod ▸ hmode) (congrArg SearchState.queue hsearch) hr.selects.quiet.2.2 rfl
    (by simpa only [hunits] using hidle) (by simpa only [hunits] using hfirst)]
  simp only [hunits, State.begun_congr hmap hdir]

end

/-- Settles O50. Every selection ends as its action's outcome says, with the SELECTION report behind it
(exec_frameProcessed_of_outcome); what is left is one lemma for each outcome of an action. -/
theorem hotspotActions : Obligations.HotspotActions := by
  unfold Obligations.HotspotActions
  refine ⟨?_, ?_⟩
  · rintro s p f h x _ hselects rfl
    refine ⟨fun text terms calls full hedits => ⟨?_, ?_, ?_, ?_⟩, fun kind number _ hleads hk => ?_, ?_, ?_⟩
    · exact exec_edit_unasked hselects hedits
    · rintro hm rfl hbusy
      exact exec_edit_busy hselects hedits hm hbusy
    · rintro t hm rfl hroom hvalid ht q hq
      have hquery : s.Queries p f h x text terms q
          ((s.screens[p.val].editing text terms).asking (.directory 0)) :=
        ⟨hselects, ⟨full, hedits⟩, hm, hroom, hvalid, hq, rfl⟩
      exact ⟨hquery.waits ht, fun a b => hquery.taken ht⟩
    · rintro t r hm rfl hempty hcases hmask ht
      rw [← Screen.editing_answered hempty] at ht
      subst ht
      obtain ⟨rfl, hinvalid⟩ | ⟨rfl, hvalid, hscan, hnone⟩ := hcases
      · exact exec_query_badFilter hselects hedits hm hempty hinvalid hmask
      · have hquery : s.Queries p f h x text terms _ _ :=
          ⟨hselects, ⟨full, hedits⟩, hm, by rw [hempty]; decide, hvalid, rfl, rfl⟩
        exact hquery.matchesNone hempty hscan hnone hmask
    · obtain rfl : _ = s.screens[p.val].panelKey kind number := hk
      refine ⟨exec_route_outside hselects hleads, exec_route_busy hselects hleads, ?_, ?_, ?_⟩
      · rintro t m hm hroom hlisting hwaypoint hmiss ht
        have hroutes : s.Routes p f h x kind number := ⟨hselects, hleads, hm, hroom⟩
        subst ht
        exact ⟨fun hnew hrest => hroutes.waits ⟨hlisting, hwaypoint⟩ hmiss hnew hrest rfl,
          fun hlaw hold => hroutes.merges ⟨hlisting, hwaypoint⟩ hmiss hlaw hold rfl,
          fun u hnew hmode hidle hfirst => hroutes.begins ⟨hlisting, hwaypoint⟩ hmiss hnew hmode hidle hfirst rfl⟩
      · rintro t e y z zs hm hempty hlisting hwaypoint hfind rfl hg hclear hsteps hmask ht
        have hroutes : s.Routes p f h x kind number := ⟨hselects, hleads, hm, by rw [hempty]; decide⟩
        have hkey := (CacheState.find_some hfind).2.1
        have hexec := hroutes.answered hempty hmask (hroutes.cached ⟨hlisting, hwaypoint⟩ hfind hg hclear)
        rw [State.routing_finalise hkey hsteps] at hexec
        rw [ht, ← Screen.editing_answered (text := s.screens[p.val].text) (terms := s.screens[p.val].terms) hempty]
        exact hexec
      · rintro t r hm hempty hcases hmask ht
        have hroutes : s.Routes p f h x kind number := ⟨hselects, hleads, hm, by rw [hempty]; decide⟩
        rw [ht, ← Screen.editing_answered (text := s.screens[p.val].text) (terms := s.screens[p.val].terms) hempty]
        obtain ⟨rfl, hout⟩ | ⟨rfl, hkind, hin, hhidden⟩ := hcases
        · exact hroutes.refused (code := .badArgument) hempty hmask (hroutes.outside hout)
        · exact hroutes.refused (code := .notFound) hempty hmask (hroutes.hidden hkind hin hhidden)
    · exact fun haction hhosts => exec_cancel_hosts hselects haction hhosts
    · rintro leaves refs t haction hreserved rfl rfl rfl
      exact exec_cancel hselects haction hreserved
  · rintro s p f h x _ hforms rfl
    refine ⟨?_, fun hdisabled => (exec_disabled hforms hdisabled).1, fun hdisabled => (exec_disabled hforms hdisabled).2⟩
    rintro text terms calls full henabled hlast (hedits | ⟨rfl, rfl, hplain | ⟨number, ha⟩⟩)
    · exact exec_edit_last_slot hforms henabled hlast hedits
    · exact exec_plain_last_slot hforms henabled hlast hplain
    · obtain ha | ha := ha
      · exact exec_route_last_slot hforms henabled hlast (.inl ⟨rfl, ha⟩)
      · exact exec_route_last_slot hforms henabled hlast (.inr ⟨rfl, ha⟩)

end Sys2Proof.Machine
end

section
/-! PROOFS. Turn classes (05 R84) and the walking time of a segment (05 R91). -/

namespace Sys2Proof.Machine

/-! ## Turn classes (05 R84) -/

/-- The turn delta read as signed is the headings' difference as a signed byte (05 R84). -/
theorem toInt_sub_of_turnDelta {incoming outgoing : BitVec 8} {d : Int}
    (h : (d = ((outgoing.toNat + 256 - incoming.toNat) % 256 : Nat) ∧ d < 128)
      ∨ (d = ((outgoing.toNat + 256 - incoming.toNat) % 256 : Nat) - 256 ∧ d < 0 ∧ -128 ≤ d)) :
    (outgoing - incoming).toInt = d := by
  have hin := incoming.isLt
  have hout := outgoing.isLt
  rw [BitVec.toInt_eq_toNat_cond, BitVec.toNat_sub]
  split <;> omega

/-- Settles O40: the delta falls between two neighbouring bounds of the table, and the tests below them fail. -/
theorem turnClasses : Obligations.TurnClasses := by
  unfold Obligations.TurnClasses
  intro incoming outgoing d hdelta
  have hclass : turnClass incoming outgoing = classOfDelta d :=
    congrArg classOfDelta (toInt_sub_of_turnDelta hdelta)
  rw [hclass]
  refine ⟨fun hlow hhigh => ?straight, fun hlow hhigh => ?slightRight, fun hlow hhigh => ?right,
    fun hlow hhigh => ?sharpRight, fun hlow => ?uTurn, fun hlow hhigh => ?sharpLeft, fun hlow hhigh => ?left,
    fun hlow hhigh => ?slightLeft⟩
  all_goals simp (disch := omega) only [classOfDelta, if_pos, if_neg]

/-! ## Walking time (05 R91) -/

/-- A quotient rounded half up lies within half a unit of the exact one (05 R91). -/
theorem roundHalfUp_bounds {v : Nat} (hv : 0 < v) (n : Nat) :
    2 * v * roundHalfUp n v ≤ 2 * n + v ∧ 2 * n + v < 2 * v * (roundHalfUp n v + 1) :=
  ⟨Nat.mul_div_le _ _, Nat.lt_mul_div_succ _ (Nat.mul_pos Nat.two_pos hv)⟩

/-- The speed used is never 0 where the profile's is not (05 R91). -/
theorem speedUsed_pos (kind : SegKind) {v : Nat} (hv : 0 < v) (r : Nat) : 0 < speedUsed kind v r := by
  cases kind
  case walk | ramp | door | outdoor => exact hv
  case stairs => exact lt_max_of_lt_right (by decide)
  case travelator => exact Nat.add_pos_left hv r
  case escalator | lift =>
    simp only [speedUsed]
    split <;> omega

/-- The walking time of a segment is a lift's wait and its length over the speed used, rounded half up (05 R91). -/
theorem segmentTime_rounds {p : Profile} (hp : 5 ≤ p.speed.toNat) (g : Segment) {v : Nat}
    (hv : v = speedUsed g.kind p.speed.toNat g.ride.toNat) :
    ∃ d, segmentTime p g = (if g.kind = .lift then p.liftWait.toNat * 10 else 0) + d
      ∧ 2 * v * d ≤ 2 * (g.length.toNat * 10) + v ∧ 2 * (g.length.toNat * 10) + v < 2 * v * (d + 1) := by
  subst hv
  exact ⟨_, rfl, roundHalfUp_bounds (speedUsed_pos g.kind (by omega) _) _⟩

/-- A ride speed is 0 as a number where it is 0 as a field. -/
theorem ride_toNat_eq_zero (g : Segment) : g.ride.toNat = 0 ↔ g.ride = 0 := BitVec.toNat_inj (y := 0)

end Sys2Proof.Machine
end

section
/-! PROOFS. The steps of a composed route: merging, departure and truncation (05 R83 to R90). -/

namespace Sys2Proof.Machine

/-! ## Provisional steps (05 R83, R85) -/

/-- The provisional steps of a path begin with its first segment's (05 R83, R85). -/
theorem State.provisionals_cons (s : State) (before : Option (BitVec 8)) (g : Segment) (gs : List Segment) :
    s.provisionals before (g :: gs) = s.stepOf before g :: s.provisionals (some g.heading) gs := by
  cases before <;> rfl

/-- The provisional steps of a path, each behind the heading of the segment before it (05 R85). -/
theorem State.provisionals_eq_zipWith (s : State) (before : Option (BitVec 8)) (gs : List Segment) :
    s.provisionals before gs = List.zipWith s.stepOf (before :: gs.map fun g => some g.heading) gs := by
  induction gs generalizing before with
  | nil => rfl
  | cons g gs ih =>
    rw [s.provisionals_cons, ih, List.map_cons, List.zipWith_cons_cons]

/-- The lengths of the provisional steps add up to the total distance (05 R83, R90). -/
theorem State.provisionals_lengths (s : State) (before : Option (BitVec 8)) (gs : List Segment) :
    ((s.provisionals before gs).map (·.length)).sum = pathDistance gs := by
  induction gs generalizing before with
  | nil => rfl
  | cons g gs ih =>
    rw [s.provisionals_cons, List.map_cons, List.sum_cons, ih]
    rfl

/-- The total distance counts every segment but the lifts (05 R90). -/
theorem pathDistance_eq (gs : List Segment) :
    pathDistance gs = ((gs.filter fun g => decide (g.kind ≠ .lift)).map fun g => g.length.toNat).sum := by
  induction gs with
  | nil => rfl
  | cons g gs ih =>
    have hcons : pathDistance (g :: gs) = g.walked + pathDistance gs := rfl
    rw [hcons, ih, Segment.walked]
    by_cases hlift : g.kind = .lift <;> simp [hlift]

/-! ## Merging (05 R86) -/

/-- The composer's test is that of R86. -/
theorem mergeable_iff (a b : RouteStep) : mergeable a b = true ↔ a.Joins b := by
  simp [mergeable, RouteStep.Joins, noLandmark, and_assoc]

/-- A step that joins another does the same as it (05 R86). -/
theorem RouteStep.Joins.action_eq {a b : RouteStep} (h : a.Joins b) : a.action = b.action := by
  obtain ⟨⟨ha, hb⟩ | ⟨ha, hb⟩, -⟩ := h <;> rw [ha, hb]

/-- The steps of a run that join one another do all the same. -/
theorem action_eq_of_joins {run : List RouteStep} (h : run.IsChain RouteStep.Joins) {a b : RouteStep}
    (ha : run.head? = some a) (hb : run.getLast? = some b) : a.action = b.action := by
  induction run generalizing a with
  | nil => cases ha
  | cons x xs ih =>
    obtain rfl : x = a := Option.some.inj ha
    cases xs with
    | nil =>
      obtain rfl : x = b := Option.some.inj hb
      rfl
    | cons y ys =>
      obtain ⟨hxy, hys⟩ := List.isChain_cons_cons.mp h
      exact hxy.action_eq.trans (ih hys rfl (by rwa [List.getLast?_cons_cons] at hb))

/-- One step is a run by itself. -/
theorem RouteStep.mergedFrom_single (a : RouteStep) : RouteStep.MergedFrom [a] a :=
  ⟨List.isChain_singleton a, a, a, rfl, rfl, rfl⟩

/-- What joins the last step of a run joins the step merged from it (05 R86). -/
theorem RouteStep.MergedFrom.joins_iff {run : List RouteStep} {m x : RouteStep} (h : RouteStep.MergedFrom run m)
    (hx : run.getLast? = some x) (b : RouteStep) : m.Joins b ↔ x.Joins b := by
  obtain ⟨hchain, a, y, ha, hy, rfl⟩ := h
  obtain rfl : y = x := Option.some.inj (hy.symm.trans hx)
  simp only [RouteStep.Joins, action_eq_of_joins hchain ha hy]

/-- A run takes up a step that joins the step merged from it (05 R86). -/
theorem RouteStep.MergedFrom.snoc {run : List RouteStep} {m b : RouteStep} (h : RouteStep.MergedFrom run m)
    (hb : m.Joins b) : RouteStep.MergedFrom (run ++ [b]) (mergeStep m b) := by
  have hjoins := fun x hx => (h.joins_iff (x := x) hx b).mp hb
  obtain ⟨hchain, a, x, ha, -, rfl⟩ := h
  refine ⟨List.isChain_append.mpr ⟨hchain, List.isChain_singleton b, fun x hx y hy => ?_⟩, a, b, ?_, ?_, ?_⟩
  · obtain rfl : b = y := Option.some.inj hy
    exact hjoins x hx
  · rw [List.head?_append, ha, Option.some_or]
  · rw [List.getLast?_concat]
  · simp [mergeStep]

/-- The last step of one run does not join the first of the next (05 R86). -/
def RunsApart (a b : List RouteStep) : Prop := ∀ x y, a.getLast? = some x → b.head? = some y → ¬ x.Joins y

/-- Steps merged in runs, each as long as R86 allows. -/
structure MergedRuns (steps : List RouteStep) (runs : List (List RouteStep)) (merged : List RouteStep) : Prop where
  flatten : runs.flatten = steps
  merged : List.Forall₂ RouteStep.MergedFrom runs merged
  apart : runs.IsChain RunsApart

/-- Merging from a step in hand goes on with the run that it is merged from (05 R86). -/
theorem mergeFrom_runs {run : List RouteStep} {m : RouteStep} (h : RouteStep.MergedFrom run m) (l : List RouteStep) :
    ∃ first rest, MergedRuns (run ++ l) (first :: rest) (mergeFrom m l) ∧ first.head? = run.head? := by
  induction l generalizing run m with
  | nil =>
    exact ⟨run, [], ⟨by simp, .cons h .nil, List.isChain_singleton run⟩, rfl⟩
  | cons b bs ih =>
    rw [mergeFrom]
    split
    next hmerge =>
      obtain ⟨first, rest, hruns, hhead⟩ := ih (h.snoc ((mergeable_iff m b).mp hmerge))
      obtain ⟨-, a, -, ha, -⟩ := h
      refine ⟨first, rest, ?_, hhead.trans ?_⟩
      · rwa [List.append_assoc, List.singleton_append] at hruns
      · rw [List.head?_append, ha, Option.some_or]
    next hmerge =>
      obtain ⟨first, rest, ⟨hflatten, hmerged, happart⟩, hhead⟩ := ih (RouteStep.mergedFrom_single b)
      have hends : RunsApart run first := fun x y hx hy hjoins => by
        obtain rfl : b = y := Option.some.inj (hhead.symm.trans hy)
        exact hmerge ((mergeable_iff m b).mpr ((h.joins_iff hx b).mpr hjoins))
      exact ⟨run, first :: rest, ⟨by rw [List.flatten_cons, hflatten]; rfl, .cons h hmerged,
        List.isChain_cons_cons.mpr ⟨hends, happart⟩⟩, rfl⟩

/-- The merged steps are runs of the provisional ones (05 R86). -/
theorem mergeSteps_runs (l : List RouteStep) : ∃ runs, MergedRuns l runs (mergeSteps l) := by
  cases l with
  | nil => exact ⟨[], rfl, .nil, .nil⟩
  | cons a as =>
    obtain ⟨first, rest, hruns, -⟩ := mergeFrom_runs (RouteStep.mergedFrom_single a) as
    exact ⟨first :: rest, hruns⟩

/-- Merging keeps the lengths' sum (05 R86). -/
theorem mergeFrom_lengths (a : RouteStep) (l : List RouteStep) :
    ((mergeFrom a l).map (·.length)).sum = a.length + (l.map (·.length)).sum := by
  induction l generalizing a with
  | nil => simp [mergeFrom]
  | cons b bs ih =>
    rw [mergeFrom]
    split
    · rw [ih, List.map_cons, List.sum_cons, mergeStep, Nat.add_assoc]
    · rw [List.map_cons, List.sum_cons, ih, List.map_cons, List.sum_cons]

/-- Merging keeps the lengths' sum (05 R86). -/
theorem mergeSteps_lengths (l : List RouteStep) : ((mergeSteps l).map (·.length)).sum = (l.map (·.length)).sum := by
  cases l with
  | nil => rfl
  | cons a as => exact mergeFrom_lengths a as

/-! ## Departure (05 R87) -/

/-- The departure test on a list of two steps or more, and its absence on a shorter one (05 R87). -/
theorem departTurn_eq (l : List RouteStep) : departTurn l = (match l with
    | a :: b :: rest => if a.action = .walk ∧ 1 ≤ a.length ∧ a.length ≤ 15 then
        { a with action := .departTurn } :: b :: rest else l
    | _ => l) := by
  obtain _ | ⟨a, _ | ⟨b, rest⟩⟩ := l <;> rfl

/-- The departure keeps every length (05 R87). -/
theorem departTurn_lengths (l : List RouteStep) : (departTurn l).map (·.length) = l.map (·.length) := by
  unfold departTurn
  split
  · split <;> rfl
  · rfl

/-! ## Truncation (05 R88, R89) -/

section
variable (s : State) (before : BitVec 12) {entrance : BitVec 12} {steps : List RouteStep}

/-- Up to 47 steps stay as they are before ARRIVE (05 R88). -/
theorem State.truncateSteps_short (h : steps.length ≤ 47) :
    s.truncateSteps entrance before steps = (steps ++ [s.arriveStep entrance], false) :=
  if_neg (Nat.not_le.mpr (Nat.lt_succ_of_le h))

/-- From 48 steps on 46 are kept, and CONTINUE stands for the others (05 R89). -/
theorem State.truncateSteps_long (h : 48 ≤ steps.length) :
    s.truncateSteps entrance before steps =
      (steps.take 46 ++ [s.continueStep entrance before (steps.drop 46), s.arriveStep entrance], true) :=
  if_pos h

/-- A route has 48 steps where it is cut, and 1 to 48 where it is not (05 R89). -/
theorem State.truncateSteps_length :
    1 ≤ (s.truncateSteps entrance before steps).1.length ∧ (s.truncateSteps entrance before steps).1.length ≤ 48
      ∧ ((s.truncateSteps entrance before steps).2 = true → (s.truncateSteps entrance before steps).1.length = 48) := by
  obtain h | h := Nat.lt_or_ge 47 steps.length
  · rw [s.truncateSteps_long before h]
    simp [List.length_take]
    omega
  · rw [s.truncateSteps_short before h]
    simp
    omega

/-- The last step of a route is ARRIVE (05 R88). -/
theorem State.truncateSteps_getLast : (s.truncateSteps entrance before steps).1.getLast? = some (s.arriveStep entrance) := by
  obtain h | h := Nat.lt_or_ge 47 steps.length
  · rw [s.truncateSteps_long before h]
    simp
  · rw [s.truncateSteps_short before h]
    simp

/-- Truncation keeps the lengths' sum (05 R89). -/
theorem State.truncateSteps_lengths :
    ((s.truncateSteps entrance before steps).1.map (·.length)).sum = (steps.map (·.length)).sum := by
  obtain h | h := Nat.lt_or_ge 47 steps.length
  · have hsplit : ((steps.take 46).map (·.length)).sum + ((steps.drop 46).map (·.length)).sum =
        (steps.map (·.length)).sum := by
      rw [← List.sum_append, ← List.map_append, List.take_append_drop]
    rw [s.truncateSteps_long before h, ← hsplit]
    simp [State.continueStep, State.arriveStep]
  · rw [s.truncateSteps_short before h]
    simp [State.arriveStep]

end

end Sys2Proof.Machine
end

section
/-! PROOFS. Insertion into the route cache (06 R101, R106, R107, R109). -/

namespace Sys2Proof.Machine

/-! ## Groups (06 R101) -/

/-- The positions of a group stand in it. -/
theorem groupEntry_group (g : Fin 64) (k : Fin 8) : (groupEntry g k).val / 8 = g.val := by
  simp only [groupEntry]
  omega

/-- An entry belongs to a group by its index. -/
theorem mem_groupEntries {g : Fin 64} {e : Fin 512} : e ∈ groupEntries g ↔ e.val / 8 = g.val := by
  constructor
  · intro he
    obtain ⟨k, -, rfl⟩ := List.mem_map.mp he
    exact groupEntry_group g k
  · intro he
    have hpositions : ∀ k : Fin 8, k ∈ positions := by decide
    refine List.mem_map.mpr ⟨⟨e.val % 8, by omega⟩, hpositions _, Fin.ext ?_⟩
    simp only [groupEntry]
    omega

/-- The entries of a group stand in the order of their indices. -/
theorem groupEntries_sorted (g : Fin 64) : (groupEntries g).Pairwise (· < ·) := by
  have hpositions : positions.Pairwise (· < ·) := by decide
  refine hpositions.map _ fun a b hab => ?_
  simp only [groupEntry, Fin.lt_def] at hab ⊢
  omega

/-- The primary group of a key as R101 gives it. -/
theorem primaryGroup_val (k : Key) : (primaryGroup k).val =
    (k.origin.toNat ^^^ (3 * k.number.toNat) ^^^ (9 * k.profile.val) ^^^ (if k.kind = .waypoint then 32 else 0)) % 64 := by
  rw [primaryGroup]
  cases k.kind <;> rfl

/-- The first entry of a group that passes a test. -/
theorem find?_groupEntries {p : Fin 512 → Bool} {g : Fin 64} {e : Fin 512} (hmem : e.val / 8 = g.val) (he : p e = true)
    (hfirst : ∀ x < e, x.val / 8 = g.val → p x = false) : (groupEntries g).find? p = some e := by
  obtain ⟨older, younger, hlist⟩ := List.append_of_mem (mem_groupEntries.mpr hmem)
  refine List.find?_eq_some_iff_append.mpr ⟨he, older, younger, hlist, fun x hx => ?_⟩
  have hsorted := groupEntries_sorted g
  rw [hlist, List.pairwise_append] at hsorted
  obtain ⟨-, -, hbefore⟩ := hsorted
  rw [hfirst x (hbefore x hx e List.mem_cons_self), Bool.not_false]
  exact mem_groupEntries.mp (hlist ▸ List.mem_append_left _ hx)

/-- A search of a list in which one element alone has changed its answer, to yes, ends at that element where it ended there
before or went through. -/
theorem find?_of_changed {α : Type} {p q : α → Bool} {l : List α} {e : α}
    (hold : l.find? p = some e ∨ (l.find? p = none ∧ e ∈ l)) (he : q e = true) (hoff : ∀ x ≠ e, q x = p x) :
    l.find? q = some e := by
  induction l with
  | nil => obtain h | ⟨-, h⟩ := hold <;> cases h
  | cons x xs ih =>
    by_cases hx : x = e
    · subst hx
      exact List.find?_cons_of_pos he
    · have hp : p x = false := by
        by_contra hyes
        rw [List.find?_cons_of_pos (by simpa using hyes)] at hold
        obtain h | ⟨h, -⟩ := hold
        · exact hx (Option.some.inj h)
        · cases h
      rw [List.find?_cons_of_neg (by simp [hp]), List.mem_cons, or_iff_right (Ne.symm hx)] at hold
      rw [List.find?_cons_of_neg (by simp [hoff x hx, hp])]
      exact ih hold

/-! ## What a key is found by (06 R103) -/

section
variable {c d : CacheState} {k : Key} {e : Fin 512}

/-- An entry that holds a key is valid, stands in the group it is asked for, and carries the key (06 R103). -/
theorem CacheState.holds_iff {b : Bool} :
    c.holds k b e = true ↔ (c.at e).valid = true ∧ (c.at e).alternate = b ∧ (c.at e).route.key = k := by
  simp [CacheState.holds, and_assoc]

/-- A key that no valid entry carries is not found (06 R103). -/
theorem CacheState.find_eq_none (h : ∀ e, (c.at e).valid = true → (c.at e).route.key ≠ k) : c.find k = none := by
  cases hfind : c.find k with
  | none => rfl
  | some e =>
    obtain ⟨hvalid, hkey, -⟩ := CacheState.find_some hfind
    exact absurd hkey (h e hvalid)

/-- A key that is not found in its primary group is found in its secondary group, if there (06 R103). -/
theorem CacheState.find_of_primary_none (h : (groupEntries (primaryGroup k)).find? (c.holds k false) = none) :
    c.find k = (groupEntries (secondaryGroup k)).find? (c.holds k true) := by
  rw [CacheState.find, h]

/-- A key that is found in its primary group is found there (06 R103). -/
theorem CacheState.find_of_primary_some (h : (groupEntries (primaryGroup k)).find? (c.holds k false) = some e) :
    c.find k = some e := by
  rw [CacheState.find, h]

/-- A valid entry is what its key is found by (06 R102, R103). -/
theorem State.CacheLaw.find {s : State} (h : s.CacheLaw) (hvalid : (s.rcc.at e).valid = true) :
    s.rcc.find (s.rcc.at e).route.key = some e := by
  obtain ⟨hunique, hplaces⟩ := h
  have hfound : s.rcc.find (s.rcc.at e).route.key ≠ none := by
    intro hnone
    cases hprimary : (groupEntries (primaryGroup (s.rcc.at e).route.key)).find?
        (s.rcc.holds (s.rcc.at e).route.key false) with
    | some x =>
      rw [CacheState.find_of_primary_some hprimary] at hnone
      cases hnone
    | none =>
      rw [CacheState.find_of_primary_none hprimary] at hnone
      obtain ⟨halt, hgroup⟩ | ⟨halt, hgroup⟩ := hplaces e hvalid
      · exact List.find?_eq_none.mp hprimary e (mem_groupEntries.mpr hgroup)
          (CacheState.holds_iff.mpr ⟨hvalid, halt, rfl⟩)
      · exact List.find?_eq_none.mp hnone e (mem_groupEntries.mpr hgroup) (CacheState.holds_iff.mpr ⟨hvalid, halt, rfl⟩)
  obtain ⟨x, hx⟩ := Option.ne_none_iff_exists'.mp hfound
  obtain ⟨hxvalid, hxkey, -⟩ := CacheState.find_some hx
  rw [hx, hunique x e hxvalid hvalid hxkey]

/-- The group of a key in which an entry with this alternate bit stands (06 R102). -/
def groupOf (k : Key) (alternate : Bool) : Fin 64 := if alternate then secondaryGroup k else primaryGroup k

/-- An entry that comes to hold a key in one of its groups is found, where none held the key before but that one
(06 R103). -/
theorem CacheState.find_of_written {b : Bool} (hgroup : e.val / 8 = (groupOf k b).val) (hd : d.holds k b e = true)
    (hoff : ∀ x ≠ e, ∀ b, d.holds k b x = c.holds k b x)
    (hold : ∀ x, c.find k = some x → x = e ∧ (c.at e).alternate = b) : d.find k = some e := by
  have hmem := mem_groupEntries.mpr hgroup
  cases b with
  | false =>
    refine CacheState.find_of_primary_some (find?_of_changed (p := c.holds k false) ?_ hd fun x hx => hoff x hx false)
    cases hprimary : (groupEntries (primaryGroup k)).find? (c.holds k false) with
    | none => exact .inr ⟨rfl, hmem⟩
    | some x =>
      obtain ⟨rfl, -⟩ := hold x (CacheState.find_of_primary_some hprimary)
      exact .inl rfl
  | true =>
    have hnone : (groupEntries (primaryGroup k)).find? (c.holds k false) = none := by
      cases hprimary : (groupEntries (primaryGroup k)).find? (c.holds k false) with
      | none => rfl
      | some x =>
        obtain ⟨rfl, halt⟩ := hold x (CacheState.find_of_primary_some hprimary)
        obtain ⟨-, hfalse, -⟩ := CacheState.holds_iff.mp (List.find?_some hprimary)
        rw [hfalse] at halt
        cases halt
    have hnone' : (groupEntries (primaryGroup k)).find? (d.holds k false) = none := by
      refine List.find?_eq_none.mpr fun x hx hyes => ?_
      by_cases hxe : x = e
      · obtain ⟨-, htrue, -⟩ := CacheState.holds_iff.mp hd
        obtain ⟨-, hfalse, -⟩ := CacheState.holds_iff.mp hyes
        rw [hxe, htrue] at hfalse
        cases hfalse
      · exact List.find?_eq_none.mp hnone x hx (hoff x hxe false ▸ hyes)
    rw [CacheState.find_of_primary_none hnone']
    refine find?_of_changed (p := c.holds k true) ?_ hd fun x hx => hoff x hx true
    cases hsecondary : (groupEntries (secondaryGroup k)).find? (c.holds k true) with
    | none => exact .inr ⟨rfl, hmem⟩
    | some x =>
      obtain ⟨rfl, -⟩ := hold x ((CacheState.find_of_primary_none hnone).trans hsecondary)
      exact .inl rfl

end

/-! ## The clock (06 R109) -/

/-- The position that a hand stands at after it has advanced so often. -/
def handAt (h : Fin 8) (m : Nat) : Fin 8 := ⟨(h.val + m) % 8, Nat.mod_lt _ (by decide)⟩

/-- A hand that has not advanced. -/
theorem handAt_zero (h : Fin 8) : handAt h 0 = h := Fin.ext (Nat.mod_eq_of_lt h.isLt)

/-- A hand comes back after eight advances. -/
theorem handAt_eight (h : Fin 8) : handAt h 8 = h := by
  simp [handAt, Nat.mod_eq_of_lt h.isLt]

/-- A hand comes back no sooner. -/
theorem handAt_ne {h : Fin 8} {m : Nat} (hpos : 0 < m) (hm : m < 8) : handAt h m ≠ h := by
  simp only [handAt, ne_eq, Fin.ext_iff]
  omega

/-- The advance behind several. -/
theorem nextHand_handAt (h : Fin 8) (m : Nat) : nextHand (handAt h m) = handAt h (m + 1) := by
  simp [handAt, nextHand, Nat.add_assoc]

/-- The first advance of several. -/
theorem handAt_nextHand (h : Fin 8) (m : Nat) : handAt (nextHand h) m = handAt h (m + 1) := by
  simp [handAt, nextHand]
  omega

/-- Two positions of a group are one entry where they are one position. -/
theorem groupEntry_inj {g : Fin 64} {j k : Fin 8} : groupEntry g j = groupEntry g k ↔ j = k := by
  simp only [groupEntry, Fin.ext_iff]
  omega

/-- An entry with its referenced flag clear. -/
def CacheEntry.passed (e : CacheEntry) : CacheEntry := { e with referenced := false }

/-- A cache after the clock has passed over this many positions of a group from a hand on (06 R109). -/
def CacheState.passing (c : CacheState) (g : Fin 64) : Fin 8 → Nat → CacheState
  | _, 0 => c
  | h, n + 1 => (c.onEntry (groupEntry g h) CacheEntry.passed).passing g (nextHand h) n

section
variable (c : CacheState) (g : Fin 64)

/-- Passing leaves the hands, the sweep list and the scan. -/
theorem CacheState.passing_fields (h : Fin 8) (n : Nat) : (c.passing g h n).hands = c.hands
    ∧ (c.passing g h n).sweep = c.sweep ∧ (c.passing g h n).scan = c.scan := by
  induction n generalizing c h with
  | zero => exact ⟨rfl, rfl, rfl⟩
  | succ n ih => exact ih _ _

/-- Passing clears the referenced flags of the entries passed and leaves the others (06 R109). -/
theorem CacheState.passing_at (h : Fin 8) (n : Nat) (x : Fin 512) : (c.passing g h n).at x =
    if ∃ m < n, x = groupEntry g (handAt h m) then (c.at x).passed else c.at x := by
  induction n generalizing c h with
  | zero => simp [CacheState.passing]
  | succ n ih =>
    rw [CacheState.passing, ih, CacheState.onEntry_at]
    simp only [handAt_nextHand, Nat.exists_lt_succ_left, handAt_zero]
    by_cases hx : x = groupEntry g h
    · simp [hx, CacheEntry.passed]
    · simp [hx]

/-- Passing leaves what every key is held by. -/
theorem CacheState.passing_holds (h : Fin 8) (n : Nat) (k : Key) (b : Bool) (x : Fin 512) :
    (c.passing g h n).holds k b x = c.holds k b x := by
  rw [CacheState.holds, CacheState.passing_at]
  split <;> rfl

/-- The clock passes over referenced entries, up to all eight (06 R109). -/
theorem CacheState.clock_passes {n : Nat} (hn : n ≤ 8) (h : Fin 8) (fuel : Nat)
    (hpassed : ∀ m < n, (c.at (groupEntry g (handAt h m))).referenced = true) :
    c.clock g (n + fuel) h = (c.passing g h n).clock g fuel (handAt h n) := by
  induction n generalizing c h with
  | zero => rw [Nat.zero_add, handAt_zero, CacheState.passing]
  | succ n ih =>
    have hhere := hpassed 0 (Nat.succ_pos n)
    rw [handAt_zero] at hhere
    have hthere : ∀ m < n,
        ((c.onEntry (groupEntry g h) CacheEntry.passed).at (groupEntry g (handAt (nextHand h) m))).referenced = true := by
      intro m hm
      have hne : groupEntry g (handAt h (m + 1)) ≠ groupEntry g h := fun heq =>
        handAt_ne (Nat.succ_pos m) (by omega) (groupEntry_inj.mp heq)
      rw [handAt_nextHand, CacheState.onEntry_at, if_neg hne]
      exact hpassed (m + 1) (Nat.succ_lt_succ hm)
    rw [Nat.add_right_comm, CacheState.clock, if_pos hhere]
    exact (ih _ (by omega) (nextHand h) hthere).trans (by rw [handAt_nextHand]; rfl)

/-- The clock stops at an entry whose referenced flag is clear (06 R109). -/
theorem CacheState.clock_stops (h : Fin 8) (fuel : Nat) (hclear : (c.at (groupEntry g h)).referenced = false) :
    c.clock g fuel h = (c, h) := by
  cases fuel with
  | zero => rfl
  | succ n => rw [CacheState.clock, hclear, if_neg Bool.false_ne_true]

/-- The victim: the clock passes `n` referenced entries, all eight at most, takes the next one, and leaves the hand behind it
(06 R109). -/
theorem CacheState.victim_eq {n : Nat} (hn : n ≤ 8)
    (hpassed : ∀ m < n, (c.at (groupEntry g (handAt c.hands[g.val] m))).referenced = true)
    (hstop : n = 8 ∨ (c.at (groupEntry g (handAt c.hands[g.val] n))).referenced = false) :
    c.victim g = ({ c.passing g c.hands[g.val] n with
      hands := c.hands.set g.val (handAt c.hands[g.val] (n + 1)) }, groupEntry g (handAt c.hands[g.val] n)) := by
  have hclear : ((c.passing g c.hands[g.val] n).at (groupEntry g (handAt c.hands[g.val] n))).referenced = false := by
    rw [CacheState.passing_at]
    split
    · rfl
    next hnot =>
      refine hstop.resolve_left fun hall => hnot ⟨0, by omega, ?_⟩
      rw [hall, handAt_eight, handAt_zero]
  have hclock : c.clock g 9 c.hands[g.val] = (c.passing g c.hands[g.val] n, handAt c.hands[g.val] n) := by
    have hfuel : 9 = n + (9 - n) := by omega
    rw [hfuel, c.clock_passes g hn _ _ hpassed, CacheState.clock_stops _ _ _ _ hclear]
  obtain ⟨hhands, -, -⟩ := c.passing_fields g c.hands[g.val] n
  rw [CacheState.victim, hclock, nextHand_handAt, hhands]

/-- However the referenced flags stand, the clock ends somewhere (06 R109). -/
theorem CacheState.exists_passed (h : Fin 8) : ∃ n ≤ 8, (∀ m < n, (c.at (groupEntry g (handAt h m))).referenced = true)
    ∧ (n = 8 ∨ (c.at (groupEntry g (handAt h n))).referenced = false) := by
  have hex : ∃ n, n = 8 ∨ (c.at (groupEntry g (handAt h n))).referenced = false := ⟨8, .inl rfl⟩
  refine ⟨Nat.find hex, Nat.find_le (.inl rfl), fun m hm => ?_, Nat.find_spec hex⟩
  have hnot := Nat.find_min hex hm
  rw [not_or, Bool.not_eq_false] at hnot
  exact hnot.2

end

/-! ## Insertion (06 R107) -/

section
variable {c : CacheState} {generation : BitVec 16} {r : ComposedRoute} {segments : List Nat} {e : Fin 512}

/-- A key that is found keeps its entry (06 R107). -/
theorem CacheState.insert_held (h : c.find r.key = some e) : c.insert generation r segments =
    c.onEntry e fun _ => newEntry generation (c.at e).alternate r segments := by
  rw [CacheState.insert, h]
  rfl

/-- The first free entry of a group. -/
def CacheState.firstFree (c : CacheState) (g : Fin 64) : Option (Fin 512) := (groupEntries g).find? fun e => !(c.at e).valid

/-- The first free entry of a group is the lowest one that is not valid. -/
theorem CacheState.firstFree_eq_some {g : Fin 64} (hgroup : e.val / 8 = g.val) (hfree : (c.at e).valid = false)
    (hfirst : ∀ x < e, x.val / 8 = g.val → (c.at x).valid = true) : c.firstFree g = some e :=
  find?_groupEntries hgroup (by rw [hfree]; rfl) fun x hx hg => by rw [hfirst x hx hg]; rfl

/-- A group of valid entries has no free one. -/
theorem CacheState.firstFree_eq_none {g : Fin 64} (hfull : ∀ x : Fin 512, x.val / 8 = g.val → (c.at x).valid = true) :
    c.firstFree g = none :=
  List.find?_eq_none.mpr fun x hx => by simp [hfull x (mem_groupEntries.mp hx)]

/-- The first free entry of a group stands in it. -/
theorem CacheState.firstFree_group {g : Fin 64} (h : c.firstFree g = some e) : e.val / 8 = g.val :=
  mem_groupEntries.mp (List.mem_of_find?_eq_some h)

/-- A key that is not found takes the first free entry of its primary group (06 R107). -/
theorem CacheState.insert_primary (hnone : c.find r.key = none) (hfree : c.firstFree (primaryGroup r.key) = some e) :
    c.insert generation r segments = c.onEntry e fun _ => newEntry generation false r segments := by
  unfold CacheState.firstFree at hfree
  rw [CacheState.insert, hnone, hfree]

/-- Behind a full primary group it takes the first free entry of its secondary group (06 R107). -/
theorem CacheState.insert_secondary (hnone : c.find r.key = none) (hfull : c.firstFree (primaryGroup r.key) = none)
    (hfree : c.firstFree (secondaryGroup r.key) = some e) :
    c.insert generation r segments = c.onEntry e fun _ => newEntry generation true r segments := by
  unfold CacheState.firstFree at hfull hfree
  rw [CacheState.insert, hnone, hfull, hfree]

/-- Where both groups are full it takes the place of a victim in its primary group (06 R107). -/
theorem CacheState.insert_victim (hnone : c.find r.key = none) (hfull : c.firstFree (primaryGroup r.key) = none)
    (hfull' : c.firstFree (secondaryGroup r.key) = none) : c.insert generation r segments =
      (c.victim (primaryGroup r.key)).1.onEntry (c.victim (primaryGroup r.key)).2
        fun _ => newEntry generation false r segments := by
  unfold CacheState.firstFree at hfull hfull'
  rw [CacheState.insert, hnone, hfull, hfull']

/-- An insertion leaves the sweep list and the scan (06 R107). -/
theorem CacheState.insert_sweep (c : CacheState) (generation : BitVec 16) (r : ComposedRoute) (segments : List Nat) :
    (c.insert generation r segments).sweep = c.sweep ∧ (c.insert generation r segments).scan = c.scan := by
  obtain ⟨n, hn, hpassed, hstop⟩ := c.exists_passed (primaryGroup r.key) c.hands[(primaryGroup r.key).val]
  obtain ⟨-, hsweep, hscan⟩ := c.passing_fields (primaryGroup r.key) c.hands[(primaryGroup r.key).val] n
  unfold CacheState.insert
  split
  · exact ⟨rfl, rfl⟩
  · split
    · exact ⟨rfl, rfl⟩
    · split
      · exact ⟨rfl, rfl⟩
      · rw [c.victim_eq _ hn hpassed hstop]
        exact ⟨hsweep, hscan⟩

/-- An entry written with a route is found under its key, where none held the key before but that one (06 R103). -/
theorem CacheState.find_onEntry_newEntry {d : CacheState} {b : Bool}
    (hsame : ∀ x b, d.holds r.key b x = c.holds r.key b x) (hgroup : e.val / 8 = (groupOf r.key b).val)
    (hold : ∀ x, c.find r.key = some x → x = e ∧ (c.at e).alternate = b) :
    (d.onEntry e fun _ => newEntry generation b r segments).find r.key = some e
      ∧ (d.onEntry e fun _ => newEntry generation b r segments).at e = newEntry generation b r segments := by
  refine ⟨CacheState.find_of_written hgroup ?_ (fun x hx b => ?_) hold, ?_⟩
  · rw [CacheState.holds_iff, CacheState.onEntry_at, if_pos rfl]
    exact ⟨rfl, rfl, rfl⟩
  · rw [← hsame, CacheState.holds, CacheState.onEntry_at, if_neg hx, CacheState.holds]
  · rw [CacheState.onEntry_at, if_pos rfl]

/-- The victim stands in its group, and the clock changes no entry's key, group or validity (06 R109). -/
theorem CacheState.victim_keeps (c : CacheState) (g : Fin 64) :
    (c.victim g).2.val / 8 = g.val ∧ ∀ k b x, (c.victim g).1.holds k b x = c.holds k b x := by
  obtain ⟨n, hn, hpassed, hstop⟩ := c.exists_passed g c.hands[g.val]
  rw [c.victim_eq g hn hpassed hstop]
  exact ⟨groupEntry_group g _, c.passing_holds g _ n⟩

/-- A route that has been inserted is found under its key (06 R103, R107). -/
theorem CacheState.find_insert (c : CacheState) (generation : BitVec 16) (r : ComposedRoute) (segments : List Nat) :
    ∃ e b, (c.insert generation r segments).find r.key = some e
      ∧ (c.insert generation r segments).at e = newEntry generation b r segments := by
  cases hfind : c.find r.key with
  | some e =>
    obtain ⟨-, -, hplace⟩ := CacheState.find_some hfind
    rw [CacheState.insert_held hfind]
    refine ⟨e, (c.at e).alternate, CacheState.find_onEntry_newEntry (c := c) (fun _ _ => rfl) ?_ fun x hx => ?_⟩
    · obtain ⟨hmem, halt⟩ | ⟨hmem, halt⟩ := hplace <;> rw [halt] <;> exact mem_groupEntries.mp hmem
    · obtain rfl : e = x := Option.some.inj (hfind.symm.trans hx)
      exact ⟨rfl, rfl⟩
  | none =>
    have hold (e : Fin 512) (b : Bool) : ∀ x, c.find r.key = some x → x = e ∧ (c.at e).alternate = b := by
      rw [hfind]
      exact nofun
    cases hprimary : c.firstFree (primaryGroup r.key) with
    | some e =>
      rw [CacheState.insert_primary hfind hprimary]
      exact ⟨e, false, CacheState.find_onEntry_newEntry (fun _ _ => rfl) (CacheState.firstFree_group hprimary)
        (hold e false)⟩
    | none =>
      cases hsecondary : c.firstFree (secondaryGroup r.key) with
      | some e =>
        rw [CacheState.insert_secondary hfind hprimary hsecondary]
        exact ⟨e, true, CacheState.find_onEntry_newEntry (fun _ _ => rfl) (CacheState.firstFree_group hsecondary)
          (hold e true)⟩
      | none =>
        obtain ⟨hgroup, hsame⟩ := c.victim_keeps (primaryGroup r.key)
        rw [CacheState.insert_victim hfind hprimary hsecondary]
        exact ⟨_, false, CacheState.find_onEntry_newEntry (fun x b => hsame r.key b x) hgroup (hold _ false)⟩

end

/-! ## Offers (06 R106) -/

section
variable {s : State} {captured : Option (BitVec 16)} {path : List Nat}

/-- The tests of an offer (06 R106). -/
def State.OfferAllowed (s : State) (captured : Option (BitVec 16)) (path : List Nat) : Prop :=
  1 ≤ path.length ∧ path.length ≤ 128 ∧ captured = some s.map.generation
    ∧ ∀ g ∈ path, (s.segment g).closed = false ∧ g ∉ s.rcc.sweep

/-- The composer's test of an offer is that of R106. -/
theorem State.offerPasses_iff : s.offerPasses captured path = true ↔ s.OfferAllowed captured path := by
  simp only [State.offerPasses, State.OfferAllowed, Config.maxCachedSegments, Bool.and_eq_true, decide_eq_true_eq,
    List.all_eq_true, Bool.not_eq_true', List.contains_eq_mem, decide_eq_false_iff_not, and_assoc, forall_and]

/-- An allowed offer is inserted (06 R106). -/
theorem State.offer_rcc (h : s.OfferAllowed captured path) (r : ComposedRoute) :
    (s.offer captured r path).rcc = s.rcc.insert s.map.generation r path := by
  rw [State.offer, if_pos (State.offerPasses_iff.mpr h)]

/-- Any other offer is declined (06 R106). -/
theorem State.offer_declined (h : ¬ s.OfferAllowed captured path) (r : ComposedRoute) : s.offer captured r path = s := by
  rw [State.offer, if_neg (h ∘ State.offerPasses_iff.mp)]

end

end Sys2Proof.Machine
end

section
/-! PROOFS. The end of a composition (05 R83 to R94, 06 R101, R106, R107, R109). -/

namespace Sys2Proof.Machine

/-! ## COMPOSITION_END (05 R94) -/

section
variable {s : State} {j : Job}

/-- An offer changes the route cache alone (06 R106). -/
theorem State.offer_eq (captured : Option (BitVec 16)) (r : ComposedRoute) (path : List Nat) :
    s.offer captured r path = { s with rcc := (s.offer captured r path).rcc } := by
  unfold State.offer
  split <;> rfl

/-- The end of a composition gives the job its route and offers it to the cache where it is marked cacheable (05 R94). -/
theorem exec_compositionEnd (hlow : s.resetLow = false) (hjob : s.rco.job = some j) (hroute : j.route = none) :
    exec .compositionEnd s = .next { s with
      rco := { s.rco with job := some { j with route := some (s.compose j) } }
      rcc := if j.cacheable then (s.offer j.captured (s.compose j) j.path).rcc else s.rcc } := by
  have hexec : exec .compositionEnd s = whileRunning s State.endComposition := rfl
  rw [hexec, whileRunning_high hlow, State.endComposition]
  simp only [hjob, hroute]
  cases hcacheable : j.cacheable with
  | false => rfl
  | true =>
    rw [if_pos rfl, if_pos rfl, State.offer_eq]
    rfl

/-! ## The steps of the route (05 R83 to R89) -/

/-- The steps of a path before ARRIVE and before any is cut off (05 R83 to R87). -/
def State.stepsBefore (s : State) (gs : List Segment) : List RouteStep := departTurn (mergeSteps (s.provisionals none gs))

/-- Their lengths add up to the total distance (05 R90). -/
theorem State.stepsBefore_lengths (gs : List Segment) : ((s.stepsBefore gs).map (·.length)).sum = pathDistance gs := by
  rw [State.stepsBefore, departTurn_lengths, mergeSteps_lengths, s.provisionals_lengths]

/-- The lengths of a route's steps add up to its total distance (05 R90). -/
theorem State.compose_lengths : ((s.compose j).steps.map (·.length)).sum = (s.compose j).distance :=
  (s.truncateSteps_lengths _).trans (State.stepsBefore_lengths _)

/-- Up to 47 steps are the route's before ARRIVE (05 R88). -/
theorem State.compose_whole (h : (s.stepsBefore (j.path.map s.segment)).length ≤ 47) :
    (s.compose j).truncated = false ∧ (s.compose j).steps.dropLast = s.stepsBefore (j.path.map s.segment) := by
  have hcut := fun before => s.truncateSteps_short before (entrance := j.entrance) h
  exact ⟨congrArg Prod.snd (hcut _), (congrArg (fun cut => cut.1.dropLast) (hcut _)).trans List.dropLast_concat⟩

/-- Of more steps the route holds 46 and CONTINUE before ARRIVE (05 R89). -/
theorem State.compose_cut (h : 48 ≤ (s.stepsBefore (j.path.map s.segment)).length) :
    (s.compose j).truncated = true ∧ ∀ g, (j.path.map s.segment).getLast? = some g →
      (s.compose j).steps.dropLast = (s.stepsBefore (j.path.map s.segment)).take 46 ++
        [s.continueStep j.entrance g.src ((s.stepsBefore (j.path.map s.segment)).drop 46)] := by
  have hcut := fun before => s.truncateSteps_long before (entrance := j.entrance) h
  refine ⟨congrArg Prod.snd (hcut _), fun g hg => (congrArg (fun cut => cut.1.dropLast) (hcut _)).trans ?_⟩
  rw [hg, List.append_cons]
  exact List.dropLast_concat

/-! ## The cache behind the offer (06 R106, R107) -/

/-- A route whose offer is allowed is then found under its key (06 R107). -/
theorem State.find_offer {captured : Option (BitVec 16)} {path : List Nat} (h : s.OfferAllowed captured path)
    (r : ComposedRoute) : ∃ e, (s.offer captured r path).rcc.find r.key = some e
      ∧ (s.offer captured r path).rcc.at e =
        newEntry s.map.generation ((s.offer captured r path).rcc.at e).alternate r path := by
  rw [State.offer_rcc h]
  obtain ⟨e, b, hfind, hat⟩ := s.rcc.find_insert s.map.generation r path
  exact ⟨e, hfind, by rw [hat]; rfl⟩

/-- A route that fails one of the four tests is not allowed (06 R106). -/
theorem State.not_offerAllowed {captured : Option (BitVec 16)} {path : List Nat}
    (h : path = [] ∨ 128 < path.length ∨ captured ≠ some s.map.generation
      ∨ (∃ g ∈ path, (s.segment g).closed = true ∨ g ∈ s.rcc.sweep)) : ¬ s.OfferAllowed captured path := by
  rintro ⟨hmin, hmax, hgeneration, hopen⟩
  obtain rfl | hlong | hother | ⟨g, hg, hclosed | hsweep⟩ := h
  · exact Nat.not_succ_le_zero 0 hmin
  · exact Nat.not_lt.mpr hmax hlong
  · exact hother hgeneration
  · exact Bool.false_ne_true ((hopen g hg).1.symm.trans hclosed)
  · exact (hopen g hg).2 hsweep

end

/-! ## What an insertion leaves in the cache (06 R107, R109) -/

section
variable {c : CacheState} {generation : BitVec 16} {r : ComposedRoute} {segments : List Nat} {g : Fin 64}

/-- A written entry leaves the hands and every other entry. -/
theorem CacheState.onEntry_writes (c : CacheState) (e : Fin 512) (entry : CacheEntry) :
    (c.onEntry e fun _ => entry).hands = c.hands
      ∧ ∀ x, (c.onEntry e fun _ => entry).at x = if x = e then entry else c.at x :=
  ⟨rfl, fun x => c.onEntry_at e x _⟩

/-- The positions that a clock passes are those that its hand advances over. -/
theorem eq_groupEntry_handAt {passed : Nat → Fin 512} {h : Fin 8}
    (hpassed : ∀ m, (passed m).val = 8 * g.val + (h.val + m) % 8) : passed = fun m => groupEntry g (handAt h m) :=
  funext fun m => Fin.ext (hpassed m)

/-- A hand that has been set, and the others. -/
theorem hands_set_val (hands : Vector (Fin 8) 64) (g f : Fin 64) (h : Fin 8) :
    (hands.set g.val h)[f.val].val = if f = g then h.val else hands[f.val].val := by
  by_cases hf : f = g
  · subst hf
    simp
  · have hne : ¬ g.val = f.val := fun heq => hf (Fin.ext heq.symm)
    simp [hf, hne]

/-- An insertion over a victim: the hand stands behind it, the entries passed have their flag clear, and the victim holds
the route (06 R107, R109). -/
theorem CacheState.insert_clock (hnone : c.find r.key = none) (hfull : c.firstFree (primaryGroup r.key) = none)
    (hfull' : c.firstFree (secondaryGroup r.key) = none) (hg : g = primaryGroup r.key) {n : Nat} (hn : n ≤ 8)
    (hpassed : ∀ m < n, (c.at (groupEntry g (handAt c.hands[g.val] m))).referenced = true)
    (hstop : n = 8 ∨ (c.at (groupEntry g (handAt c.hands[g.val] n))).referenced = false) :
    (∀ f : Fin 64, (c.insert generation r segments).hands[f.val].val =
        if f = g then (c.hands[g.val].val + n + 1) % 8 else c.hands[f.val].val)
      ∧ ∀ x, (c.insert generation r segments).at x =
          if x = groupEntry g (handAt c.hands[g.val] n) then newEntry generation false r segments
          else if ∃ m < n, x = groupEntry g (handAt c.hands[g.val] m) then { c.at x with referenced := false }
          else c.at x := by
  subst hg
  rw [CacheState.insert_victim hnone hfull hfull', c.victim_eq _ hn hpassed hstop]
  refine ⟨fun f => hands_set_val _ _ f _, fun x => ?_⟩
  rw [CacheState.onEntry_at]
  exact congrArg (ite _ _) (c.passing_at _ _ n x)

end

/-- Settles O41. The route is the composer's (State.compose), its steps cut by truncateSteps from the runs of
mergeSteps_runs; what the cache holds behind the offer is CacheState.insert, case by case. -/
theorem compositionEnd : Obligations.CompositionEnd := by
  unfold Obligations.CompositionEnd
  refine ⟨?composed, ?time, ?inserted⟩
  case composed =>
    rintro s j _ hlow hjob hroute rfl
    obtain ⟨runs, hflatten, hmerged, happart⟩ := mergeSteps_runs (s.provisionals none (j.path.map s.segment))
    obtain ⟨hmin, hmax, htruncated⟩ := s.truncateSteps_length _ (entrance := j.entrance)
    refine ⟨s.compose j, exec_compositionEnd hlow hjob hroute, ⟨rfl, rfl, rfl, rfl⟩, pathDistance_eq _, rfl, rfl,
      hmin, hmax, htruncated, s.truncateSteps_getLast _, State.compose_lengths,
      ⟨runs, _, _, hflatten.trans (s.provisionals_eq_zipWith _ _), hmerged, happart, departTurn_eq _,
        State.compose_whole, State.compose_cut⟩,
      fun hmin hmax hgeneration hopen => State.find_offer ⟨hmin, hmax, hgeneration, hopen⟩ _, fun hfails => ?_⟩
    rw [State.offer_declined (State.not_offerAllowed hfails)]
  case time =>
    intro p g v hspeed hv
    refine segmentTime_rounds hspeed g (hv.trans ?_)
    unfold speedUsed
    cases g.kind <;> simp only [ride_toNat_eq_zero]
  case inserted =>
    rintro s captured r path _ _ g _ hlaw hmin hmax hgeneration hopen rfl rfl hg rfl
    obtain rfl : g = primaryGroup r.key := Fin.ext (hg.trans (primaryGroup_val r.key).symm)
    rw [State.offer_rcc ⟨hmin, hmax, hgeneration, hopen⟩]
    refine ⟨⟨rfl, rfl, s.rcc.insert_sweep _ _ _⟩, fun e hvalid hkey => ?held, fun habsent => ?absent⟩
    case held =>
      rw [CacheState.insert_held (hkey ▸ hlaw.find hvalid)]
      exact CacheState.onEntry_writes _ _ _
    case absent =>
      have hnone := CacheState.find_eq_none habsent
      refine ⟨fun e hgroup hfree hfirst => ?_, fun hfull => ⟨fun e hgroup hfree hfirst => ?_, fun hfull' => ?_⟩⟩
      · rw [CacheState.insert_primary hnone (CacheState.firstFree_eq_some hgroup hfree hfirst)]
        exact CacheState.onEntry_writes _ _ _
      · rw [CacheState.insert_secondary hnone (CacheState.firstFree_eq_none hfull)
          (CacheState.firstFree_eq_some hgroup hfree hfirst)]
        exact CacheState.onEntry_writes _ _ _
      · intro n hn passed hpositions hpassed hstop
        obtain rfl := eq_groupEntry_handAt hpositions
        exact CacheState.insert_clock hnone (CacheState.firstFree_eq_none hfull) (CacheState.firstFree_eq_none hfull')
          rfl hn hpassed hstop

end Sys2Proof.Machine
end

section
/-! PROOFS. The finalisation of a composed route for one requester (05 R95 to R98, 09 R151, 11 R189). -/

namespace Sys2Proof.Machine

/-! ## The route record (05 R95 to R97) -/

/-- The first step of a route turned for a requester, the others as they are (05 R96). -/
theorem turnFirst_cons_eq (explicit : Bool) (screenHeading heading : BitVec 8) (y : RouteStep) (ys : List RouteStep) :
    turnFirst explicit screenHeading heading (y :: ys) = { y with turn :=
      (if explicit = true ∨ y.action = .arrive then TurnClass.none else turnClass screenHeading heading) } :: ys := by
  rw [turnFirst]
  split <;> rfl

/-- DESTINATION_CLOSED is that of a listing which is not OPEN (05 R97). -/
theorem State.destinationClosed_eq (s : State) (k : Key) : s.destinationClosed k =
    decide (k.kind = .listing ∧ (s.listing k.number.toNat).status ≠ .opened) := by
  unfold State.destinationClosed
  cases k.kind <;> simp

/-- The route record of a requester, its first step turned (05 R95, R96). -/
theorem State.finalise_eq (s : State) (i : Fin 4) (explicit : Bool) {r : ComposedRoute} {y : RouteStep}
    {ys : List RouteStep} (hsteps : r.steps = y :: ys) : s.finalise i explicit false r =
      { fromCache := false, detour := r.detour
        destinationClosed := decide (r.key.kind = .listing ∧ (s.listing r.key.number.toNat).status ≠ .opened)
        truncated := r.truncated, explicitOrigin := explicit, key := r.key, entrance := r.entrance
        distance := r.distance, metres := (r.distance + 5) / 10
        seconds := min ((r.time + 9) / 10) 65535
        minutes := (min ((r.time + 9) / 10) 65535 + 59) / 60, levelChanges := r.levelChanges
        steps := { y with turn :=
          (if explicit = true ∨ y.action = .arrive then TurnClass.none
            else turnClass s.screens[i.val].heading r.heading) } :: ys } := by
  rw [State.finalise, s.destinationClosed_eq, hsteps, turnFirst_cons_eq]
  rfl

/-! ## The requester's entry (09 R150, R151) -/

section
variable {s : State} {ref : Ref} {e : Entry} {older younger : List Entry} {r : EntryResult}

/-- The entry that a reference names says whether its origin was explicit (09 R150). -/
theorem State.explicitOf_eq {k : Key} {explicit : Bool}
    (hlist : s.screens[ref.screen.val].outstanding = older ++ e :: younger) (hid : e.id = ref.id)
    (hask : e.ask = .route k explicit) (hother : ∀ x ∈ older, x.id ≠ ref.id) :
    s.explicitOf ref = explicit := by
  have hfind : (older ++ e :: younger).find? (fun x => decide (x.id = ref.id)) = some e :=
    List.find?_eq_some_iff_append.mpr ⟨by simp [hid], older, younger, rfl, fun x hx => by simp [hother x hx]⟩
  rw [State.explicitOf, hlist, hfind]
  simp only [hask]

/-- A completion marks the one entry that a reference names (09 R150). -/
theorem State.mark_eq (hlist : s.screens[ref.screen.val].outstanding = older ++ e :: younger) (hid : e.id = ref.id)
    (hwaits : e.result = none) (hother : ∀ x ∈ older ++ younger, x.id ≠ ref.id) :
    s.mark ref r = s.withList ref.screen (older ++ { e with result := some r } :: younger) := by
  have hkeep (l : List Entry) (hl : ∀ x ∈ l, x.id ≠ ref.id) :
      (l.map fun x => if x.id = ref.id then x.finish r else x) = l :=
    (List.map_congr_left fun x hx => if_neg (hl x hx)).trans (List.map_id' l)
  have hfinish : e.finish r = { e with result := some r } := by simp [Entry.finish, Entry.done, hwaits]
  rw [State.mark, State.withList, State.onScreen, State.onScreen, hlist, List.map_append, List.map_cons, if_pos hid,
    hfinish, hkeep older fun x hx => hother x (List.mem_append_left _ hx),
    hkeep younger fun x hx => hother x (List.mem_append_right _ hx)]

/-- A completion marks an entry that stands alone on its list (09 R150). -/
theorem State.mark_alone (hlist : s.screens[ref.screen.val].outstanding = [e]) (hid : e.id = ref.id)
    (hwaits : e.result = none) : s.mark ref r = s.withList ref.screen [{ e with result := some r }] :=
  State.mark_eq (older := []) (younger := []) hlist hid hwaits fun _ hx => absurd hx List.not_mem_nil

/-- A list that has been replaced. -/
theorem State.withList_outstanding (i : Fin 4) (l : List Entry) : (s.withList i l).screens[i.val].outstanding = l := by
  rw [State.withList, State.onScreen_get, if_pos rfl]

/-- A completion behind an entry that waits leaves the result in its place (09 R151). -/
theorem State.complete_behind (hlist : s.screens[ref.screen.val].outstanding = older ++ e :: younger)
    (hid : e.id = ref.id) (hwaits : e.result = none) (hother : ∀ x ∈ older ++ younger, x.id ≠ ref.id)
    (holder : older ≠ []) (hhead : s.screens[ref.screen.val].headWaits) :
    s.complete ref r = s.withList ref.screen (older ++ { e with result := some r } :: younger) := by
  rw [State.complete, State.mark_eq hlist hid hwaits hother]
  refine State.release_of_headWaits fun x hx => hhead x ?_
  rw [State.withList_outstanding, List.head?_append_of_ne_nil _ holder] at hx
  rwa [hlist, List.head?_append_of_ne_nil _ holder]

/-- A completion at the head leaves, with the DONE entries that stand right behind it (09 R151). -/
theorem State.complete_head (hlist : s.screens[ref.screen.val].outstanding = e :: younger)
    (hid : e.id = ref.id) (hwaits : e.result = none) (hother : ∀ x ∈ younger, x.id ≠ ref.id) :
    s.complete ref r = s.afterLeaving ref.screen 0
      ({ e with result := some r } :: younger.takeWhile fun x => x.result.isSome)
      (younger.dropWhile fun x => x.result.isSome) := by
  have hsplit : { e with result := some r } :: younger =
      ({ e with result := some r } :: younger.takeWhile fun x => x.result.isSome)
        ++ younger.dropWhile fun x => x.result.isSome := by
    rw [List.cons_append, List.takeWhile_append_dropWhile]
  rw [State.complete, State.mark_eq (older := []) hlist hid hwaits hother, List.nil_append, State.release,
    State.withList_outstanding, hsplit, State.releaseList_done 0]
  · exact State.afterLeaving_onScreen ..
  · rw [List.forall_mem_cons]
    refine ⟨nofun, fun x hx => ?_⟩
    have hdone := List.mem_takeWhile_imp hx
    exact Option.isSome_iff_ne_none.mp hdone
  · intro x hx
    have hhead := List.head?_dropWhile_not (fun x : Entry => x.result.isSome) younger
    rw [hx] at hhead
    simpa using hhead

/-- A panel's entry alone on its list leaves as its report, in the slot reserved for it (09 R151). -/
theorem State.complete_panel_alone {seq : Byte} (hlist : s.screens[ref.screen.val].outstanding = [e])
    (hid : e.id = ref.id) (hwaits : e.result = none) (hasker : e.asker = .panel seq)
    (hmask : s.link.masked e.ask.maskKind = false) :
    s.complete ref r = { s with
      link := { s.link with
        reserved := s.link.reserved - 1
        reports := s.link.reports ++
          [{ cls := e.ask.reportClass, tag := 0, release := some (ref.screen, s.screens[ref.screen.val].released)
             resets := false
             payload := [BitVec.ofNat 8 ref.screen.val, seq] ++ Entry.bytes ref.screen { e with result := some r } r }] }
      screens := s.screens.set ref.screen.val { s.screens[ref.screen.val] with
        outstanding := [], released := s.screens[ref.screen.val].released + 1 } } := by
  rw [State.complete, State.mark_alone hlist hid hwaits,
    State.release_panel_alone (e := { e with result := some r }) (State.withList_outstanding _ _) rfl hasker hmask]
  simp [State.withList, State.onScreen]

/-- Under the mask its report is discarded: its slot is returned and the kind's pending flag is set (11 R189). -/
theorem State.complete_panel_masked {seq : Byte} (hlist : s.screens[ref.screen.val].outstanding = [e])
    (hid : e.id = ref.id) (hwaits : e.result = none) (hasker : e.asker = .panel seq)
    (hmask : s.link.masked e.ask.maskKind = true) :
    s.complete ref r = { s with
      link := { s.link with
        reserved := s.link.reserved - 1, suppressed := setKind s.link.suppressed e.ask.maskKind true }
      screens := s.screens.set ref.screen.val { s.screens[ref.screen.val] with outstanding := [] } } := by
  rw [State.complete, State.mark_alone hlist hid hwaits, State.release, State.withList_outstanding]
  simp [State.releaseList, State.placeResult, hasker, hmask, State.withList, State.onLink, State.onScreen]

end

/-! ## ROUTE_FINALISATION (05 R95, R98) -/

section
variable {s : State} {j : Job} {r : ComposedRoute} {ref : Ref} {others : List Ref}

/-- The finalisation completes the next requester with its record, and the job ends after the last (05 R95, R98). -/
theorem exec_routeFinalisation (hlow : s.resetLow = false) (hjob : s.rco.job = some j) (hroute : j.route = some r)
    (hrefs : j.requesters = ref :: others) (hquiet : others = [] → s.EnginesQuiet) :
    exec .routeFinalisation s = .next
      { s.complete ref (.route (s.finalise ref.screen (s.explicitOf ref) false r)) with
        rco := { s.rco with job := if others = [] then none else some { j with requesters := others } } } := by
  have hexec : exec .routeFinalisation s = whileRunning s State.finaliseNext := rfl
  have hwork (res : EntryResult) (job : Option Job) :
      (s.complete ref res).withJob job = { s.complete ref res with rco := { s.rco with job := job } } := by
    simp only [State.withJob, State.complete_keeps]
  rw [hexec, whileRunning_high hlow, State.finaliseNext]
  simp only [hjob, hroute, hrefs]
  cases others with
  | nil =>
    have hrests (res : EntryResult) : ((s.complete ref res).withJob none).EnginesQuiet := by
      simpa [State.EnginesQuiet] using hquiet rfl
    rw [List.isEmpty_nil, if_pos rfl, State.serve_quiet (hrests _), hwork, if_pos rfl]
  | cons a l =>
    rw [List.isEmpty_cons, if_neg Bool.false_ne_true, hwork, if_neg (List.cons_ne_nil a l)]

end

/-- Settles O42. The finalisation completes the requester's entry with its record (exec_routeFinalisation); what is left is
how a completed entry leaves, or waits in, its place on the list. -/
theorem routeFinalisation : Obligations.RouteFinalisation := by
  unfold Obligations.RouteFinalisation
  rintro s j r ref others c y ys asker k explicit record bytes after e hlow hjob hroute hrefs rfl he hsteps hquiet hrecord
    rfl rfl
  have hid : e.id = ref.id := by rw [he]
  have hwaits : e.result = none := by rw [he]
  have hask : e.ask = .route k explicit := by rw [he]
  have hwho : e.asker = asker := by rw [he]
  have hkind : e.ask.maskKind = .route := by rw [hask]; rfl
  have hexec {older younger : List Entry} (hlist : s.screens[ref.screen.val].outstanding = older ++ e :: younger)
      (hother : ∀ x ∈ older, x.id ≠ ref.id) : exec .routeFinalisation s = .next { s.complete ref (.route record) with
        rco := { s.rco with job := if others = [] then none else some { j with requesters := others } } } := by
    rw [exec_routeFinalisation hlow hjob hroute hrefs hquiet, State.explicitOf_eq hlist hid hask hother,
      s.finalise_eq _ _ hsteps, hrecord]
  have hnone : ∀ x ∈ ([] : List Entry), x.id ≠ ref.id := fun x hx => absurd hx List.not_mem_nil
  refine ⟨fun tag halone hasker => ?reply, fun seq halone hasker hmask => ?report,
    fun seq halone hasker hmask => ?discarded, fun older younger hlist hother => ⟨fun holder hhead => ?behind, ?head⟩⟩
  case reply =>
    rw [hexec (older := []) halone hnone, State.complete_alone (a := e.ask) (tag := tag), hask]
    · rfl
    · rw [halone, he, hasker]
  case report =>
    rw [hexec (older := []) halone hnone,
      State.complete_panel_alone halone hid hwaits (hwho.trans hasker) (hkind.symm ▸ hmask), hask]
    rfl
  case discarded =>
    rw [hexec (older := []) halone hnone,
      State.complete_panel_masked halone hid hwaits (hwho.trans hasker) (hkind.symm ▸ hmask), hask]
    rfl
  case behind =>
    rw [hexec hlist fun x hx => hother x (List.mem_append_left _ hx),
      State.complete_behind hlist hid hwaits hother holder hhead]
    rfl
  case head =>
    rintro rfl
    rw [hexec hlist hnone, State.complete_head hlist hid hwaits hother]
    rfl

end Sys2Proof.Machine
end

section
/-! PROOFS. What lookups, insertions, closures, flushes and the sweep engine do to the route cache (06 R102 to R113). -/

namespace Sys2Proof.Machine

/-! ## Cached routes that stay -/

/-- A cache entry that is valid was valid before, with the same route in the same place. -/
def CacheEntry.KeepsRoute (d c : CacheEntry) : Prop :=
  d.valid = true → c.valid = true ∧ d.alternate = c.alternate ∧ d.route = c.route ∧ d.segments = c.segments

/-- No entry of a cache has come to hold a route. -/
def CacheState.NoNewRoute (d c : CacheState) : Prop := ∀ e, (d.at e).KeepsRoute (c.at e)

section
variable {a b : CacheEntry} {c d m : CacheState} {e : Fin 512} {g : Nat}

/-- An entry keeps its own route. -/
theorem CacheEntry.KeepsRoute.refl (a : CacheEntry) : a.KeepsRoute a := fun h => ⟨h, rfl, rfl, rfl⟩

/-- An entry that is not valid holds no route. -/
theorem CacheEntry.KeepsRoute.of_invalid (h : a.valid = false) : a.KeepsRoute b := fun hv => by
  rw [h] at hv
  cases hv

/-- One event after another. -/
theorem CacheState.NoNewRoute.trans (h : m.NoNewRoute c) (k : d.NoNewRoute m) : d.NoNewRoute c := by
  intro e hd
  obtain ⟨hm, halt, hroute, hsegs⟩ := k e hd
  obtain ⟨hc, halt', hroute', hsegs'⟩ := h e hm
  exact ⟨hc, halt.trans halt', hroute.trans hroute', hsegs.trans hsegs'⟩

/-- A cache of the same entries holds no new route. -/
theorem CacheState.NoNewRoute.of_at (h : ∀ e, d.at e = c.at e) : d.NoNewRoute c := fun e => h e ▸ .refl _

/-- A change of one entry brings no new route where it brings none there. -/
theorem CacheState.onEntry_noNewRoute {f : CacheEntry → CacheEntry} (hf : (f (c.at e)).KeepsRoute (c.at e)) :
    (c.onEntry e f).NoNewRoute c := by
  intro x
  rw [CacheState.onEntry_at]
  split
  · subst_vars
    exact hf
  · exact .refl _

/-- A lookup brings no new route, and leaves the sweep list and the scan (06 R104). -/
theorem CacheState.lookup_keeps (c : CacheState) (generation : BitVec 16) (k : Key) :
    (c.lookup generation k).1.NoNewRoute c ∧ (c.lookup generation k).1.sweep = c.sweep
      ∧ (c.lookup generation k).1.scan = c.scan := by
  obtain ⟨-, h⟩ | ⟨e, -, -, h⟩ | ⟨e, -, -, h⟩ := c.lookup_cases generation k <;> rw [h]
  · exact ⟨.of_at fun _ => rfl, rfl, rfl⟩
  · exact ⟨CacheState.onEntry_noNewRoute fun hv => ⟨hv, rfl, rfl, rfl⟩, rfl, rfl⟩
  · exact ⟨CacheState.onEntry_noNewRoute (.of_invalid rfl), rfl, rfl⟩

/-! ## Flush and hand-over (06 R110, R113) -/

/-- A cache that holds no route and sweeps for nothing. -/
def CacheState.Emptied (c : CacheState) : Prop := (∀ e, (c.at e).valid = false) ∧ c.sweep = [] ∧ c.scan = none

/-- A flush empties the cache (06 R113). -/
theorem CacheState.flush_emptied (c : CacheState) : c.flush.Emptied := ⟨fun e => (c.flush_at e).1, rfl, rfl⟩

/-- The hand-over of a closed segment: it stands in the sweep list already, or joins it with a scan in hand, or flushes the
cache (06 R110). -/
theorem CacheState.handOver_cases (c : CacheState) (g : Nat) :
    (g ∈ c.sweep ∧ c.handOver g = c)
      ∨ (g ∉ c.sweep ∧ c.sweep.length < 8
        ∧ c.handOver g = { c with sweep := c.sweep ++ [g], scan := if c.sweep.isEmpty then some 0 else c.scan })
      ∨ c.handOver g = c.flush := by
  unfold CacheState.handOver
  split
  next hin => exact .inl ⟨List.contains_iff_mem.mp hin, rfl⟩
  next hout =>
    split
    next hroom => exact .inr (.inl ⟨fun h => hout (List.contains_iff_mem.mpr h), hroom, rfl⟩)
    next => exact .inr (.inr rfl)

/-- A hand-over brings no new route (06 R110). -/
theorem CacheState.handOver_noNewRoute (c : CacheState) (g : Nat) : (c.handOver g).NoNewRoute c := by
  obtain ⟨-, h⟩ | ⟨-, -, h⟩ | h := c.handOver_cases g <;> rw [h]
  · exact .of_at fun _ => rfl
  · exact .of_at fun _ => rfl
  · exact fun e => .of_invalid (c.flush_emptied.1 e)

/-! ## The sweep engine (06 R111) -/

/-- What an examination makes of an entry (06 R111). -/
theorem CacheEntry.sweepFor_eq (g : Nat) (a : CacheEntry) : a.sweepFor g =
    if a.valid = true ∧ g ∈ a.segments then { a with valid := false, referenced := false } else a := by
  simp [CacheEntry.sweepFor, CacheEntry.invalidate]

/-- An examination brings no new route. -/
theorem CacheEntry.sweepFor_keepsRoute (g : Nat) (a : CacheEntry) : (a.sweepFor g).KeepsRoute a := by
  rw [CacheEntry.sweepFor_eq]
  split
  · exact .of_invalid rfl
  · exact .refl a

/-- A route that an examination leaves does not use the segment swept for. -/
theorem CacheEntry.not_mem_of_sweepFor (h : (a.sweepFor g).valid = true) : g ∉ (a.sweepFor g).segments := by
  rw [CacheEntry.sweepFor_eq] at h ⊢
  split at h
  · cases h
  next hnot =>
    rw [if_neg hnot]
    exact fun hg => hnot ⟨h, hg⟩

/-- An examination with a scan in hand (06 R111). -/
theorem CacheState.examine_eq {rest : List Nat} {p : Fin 512} (hsweep : c.sweep = g :: rest) (hscan : c.scan = some p) :
    c.examine = { c.onEntry p (CacheEntry.sweepFor g) with
      sweep := if p.val = 511 then rest else c.sweep
      scan := if p.val = 511 then (if rest = [] then none else some 0) else some (Fin.ofNat 512 (p.val + 1)) } := by
  unfold CacheState.examine
  split
  next g' rest' p' hs hp =>
    obtain ⟨rfl, rfl⟩ := List.cons.inj (hs.symm.trans hsweep)
    obtain rfl := Option.some.inj (hp.symm.trans hscan)
    by_cases hlast : p'.val = 511
    · simp [hlast]
    · have hnext : p'.val + 1 < 512 := by omega
      have hpos : Fin.ofNat 512 (p'.val + 1) = ⟨p'.val + 1, hnext⟩ := Fin.ext (Nat.mod_eq_of_lt hnext)
      simp only [hnext, dif_pos, if_neg hlast, hpos]
      rfl
  next hnone => exact absurd hscan (hnone g rest p hsweep)

/-- Without a scan in hand an examination does nothing (06 R111). -/
theorem CacheState.examine_idle (h : c.sweep = [] ∨ c.scan = none) : c.examine = c := by
  unfold CacheState.examine
  split
  next hs hp =>
    obtain h | h := h
    · cases hs.symm.trans h
    · cases hp.symm.trans h
  next => rfl

/-- There is a scan in hand, or an examination does nothing. -/
theorem CacheState.scan_cases (c : CacheState) :
    (∃ g rest p, c.sweep = g :: rest ∧ c.scan = some p) ∨ c.examine = c := by
  cases hs : c.sweep with
  | nil => exact .inr (CacheState.examine_idle (.inl hs))
  | cons g rest =>
    cases hp : c.scan with
    | none => exact .inr (CacheState.examine_idle (.inr hp))
    | some p => exact .inl ⟨g, rest, p, rfl, rfl⟩

/-- An examination brings no new route (06 R111). -/
theorem CacheState.examine_noNewRoute (c : CacheState) : c.examine.NoNewRoute c := by
  obtain ⟨g, rest, p, hsweep, hscan⟩ | h := c.scan_cases
  · rw [CacheState.examine_eq hsweep hscan]
    exact CacheState.onEntry_noNewRoute (CacheEntry.sweepFor_keepsRoute g _)
  · rw [h]
    exact .of_at fun _ => rfl

/-! ## Insertion (06 R107) -/

/-- The clock brings no new route, and leaves the sweep list and the scan (06 R109). -/
theorem CacheState.victim_noNewRoute (c : CacheState) (f : Fin 64) : (c.victim f).1.NoNewRoute c := by
  obtain ⟨n, hn, hpassed, hstop⟩ := c.exists_passed f c.hands[f.val]
  rw [c.victim_eq f hn hpassed hstop]
  intro x
  have hat := c.passing_at f c.hands[f.val] n x
  refine Eq.subst (motive := fun y : CacheEntry => y.KeepsRoute (c.at x)) hat.symm ?_
  split
  · exact fun hv => ⟨hv, rfl, rfl, rfl⟩
  · exact .refl _

/-- A written entry brings no new route anywhere else. -/
theorem CacheState.onEntry_elsewhere (h : d.NoNewRoute c) (n : CacheEntry) :
    (d.onEntry e fun _ => n).at e = n ∧ ∀ x ≠ e, ((d.onEntry e fun _ => n).at x).KeepsRoute (c.at x) := by
  refine ⟨by rw [CacheState.onEntry_at, if_pos rfl], fun x hx => ?_⟩
  rw [CacheState.onEntry_at, if_neg hx]
  exact h x

/-- An insertion writes one entry, in a group of its key and where the key was found if it was, and brings no new route
anywhere else (06 R107). -/
theorem CacheState.insert_writes (c : CacheState) (generation : BitVec 16) (r : ComposedRoute) (segments : List Nat) :
    ∃ (e : Fin 512) (b : Bool), e.val / 8 = (groupOf r.key b).val ∧ (∀ x, c.find r.key = some x → x = e)
      ∧ (c.insert generation r segments).at e = newEntry generation b r segments
      ∧ ∀ x ≠ e, ((c.insert generation r segments).at x).KeepsRoute (c.at x) := by
  have hself : c.NoNewRoute c := .of_at fun _ => rfl
  cases hfind : c.find r.key with
  | some e =>
    obtain ⟨-, -, hplace⟩ := CacheState.find_some hfind
    rw [CacheState.insert_held hfind]
    refine ⟨e, (c.at e).alternate, ?_, fun x hx => (Option.some.inj hx).symm, CacheState.onEntry_elsewhere hself _⟩
    obtain ⟨hmem, halt⟩ | ⟨hmem, halt⟩ := hplace <;> rw [halt] <;> exact mem_groupEntries.mp hmem
  | none =>
    cases hprimary : c.firstFree (primaryGroup r.key) with
    | some e =>
      rw [CacheState.insert_primary hfind hprimary]
      exact ⟨e, false, CacheState.firstFree_group hprimary, nofun, CacheState.onEntry_elsewhere hself _⟩
    | none =>
      cases hsecondary : c.firstFree (secondaryGroup r.key) with
      | some e =>
        rw [CacheState.insert_secondary hfind hprimary hsecondary]
        exact ⟨e, true, CacheState.firstFree_group hsecondary, nofun, CacheState.onEntry_elsewhere hself _⟩
      | none =>
        obtain ⟨hgroup, -⟩ := c.victim_keeps (primaryGroup r.key)
        rw [CacheState.insert_victim hfind hprimary hsecondary]
        exact ⟨_, false, hgroup, nofun, CacheState.onEntry_elsewhere (c.victim_noNewRoute _) _⟩

end

end Sys2Proof.Machine
end

section
/-! PROOFS. The events that at most look up in the route cache (06 R103, R104). -/

namespace Sys2Proof.Machine

/-! ## Events that at most look up -/

/-- At most lookups have been made in the route cache: no route is new, and the sweep list, the scan and the segments are the
same. -/
structure State.OnlyLooksUp (t s : State) : Prop where
  routes : t.rcc.NoNewRoute s.rcc
  sweep : t.rcc.sweep = s.rcc.sweep
  scan : t.rcc.scan = s.rcc.scan
  segments : t.map.segments = s.map.segments

section
variable {s t r : State}

/-- The same cache over the same segments. -/
theorem State.OnlyLooksUp.of_same (h : t.rcc = s.rcc ∧ t.map.segments = s.map.segments) : t.OnlyLooksUp s := by
  obtain ⟨hrcc, hsegments⟩ := h
  exact ⟨hrcc ▸ .of_at fun _ => rfl, by rw [hrcc], by rw [hrcc], hsegments⟩

/-- No event at all. -/
theorem State.OnlyLooksUp.refl (s : State) : s.OnlyLooksUp s := .of_same ⟨rfl, rfl⟩

/-- One event after another. -/
theorem State.OnlyLooksUp.trans (h : t.OnlyLooksUp s) (k : r.OnlyLooksUp t) : r.OnlyLooksUp s where
  routes := h.routes.trans k.routes
  sweep := k.sweep.trans h.sweep
  scan := k.scan.trans h.scan
  segments := k.segments.trans h.segments

/-- An event that is repeated for the members of a list. -/
theorem State.OnlyLooksUp.foldl {α : Type} {f : State → α → State} (hf : ∀ s a, (f s a).OnlyLooksUp s) (l : List α)
    (s : State) : (l.foldl f s).OnlyLooksUp s := by
  induction l generalizing s with
  | nil => exact .refl s
  | cons a l ih => exact (hf s a).trans (ih _)

/-! ## Route requests (09 R153) -/

/-- The dispatch of a route request looks its key up (06 R104). -/
theorem State.dispatchRoute_onlyLooksUp (ref : Ref) (k : Key) (x : Bool) : (s.dispatchRoute ref k x).OnlyLooksUp s := by
  obtain ⟨hroutes, hsweep, hscan⟩ := s.rcc.lookup_keeps s.map.generation k
  have hlookup : ({ s with rcc := (s.rcc.lookup s.map.generation k).1 } : State).OnlyLooksUp s :=
    ⟨hroutes, hsweep, hscan, rfl⟩
  unfold State.dispatchRoute
  split
  · exact .of_same (by simp)
  · simp only
    split
    · exact hlookup.trans (.of_same (by simp))
    · exact hlookup.trans (.of_same (by simp))

/-- A ROUTE_ASK looks its key up. -/
theorem State.askRoute_onlyLooksUp (i : Fin 4) (tag : Byte) (p : List Byte) : (s.askRoute i tag p).OnlyLooksUp s := by
  have hrefuse (c : ResultCode) : (s.refuse 0x0B tag c).OnlyLooksUp s := .of_same (by simp)
  have hjoin (k : Key) (x : Bool) : (s.joinRoute i tag k x).OnlyLooksUp s := by
    have hlist : (s.join i (.host tag) (.route k x) none).OnlyLooksUp s := .of_same (by simp)
    have hleave (u : State) : (u.release i).serve.OnlyLooksUp u := .of_same (by simp)
    exact (hlist.trans (State.dispatchRoute_onlyLooksUp _ k x)).trans (hleave _)
  unfold State.askRoute
  simp only
  split
  · exact hrefuse _
  · split
    · exact hrefuse _
    · split
      · exact hrefuse _
      · split
        · exact hrefuse _
        · split
          · exact hrefuse _
          · exact hjoin _ _

/-- A screen-bound request looks up at most where its body does. -/
theorem State.screenBound_onlyLooksUp {cls tag : Byte} {p : List Byte} {body : State → Fin 4 → State}
    (hbody : ∀ (u : State) i, (body u i).OnlyLooksUp u) : (s.screenBound cls tag p body).OnlyLooksUp s := by
  unfold State.screenBound
  split
  · exact .of_same (by simp)
  next i _ =>
    have htouch : (s.touchSession i).OnlyLooksUp s := .of_same (by simp)
    exact htouch.trans (hbody _ _)

/-! ## Hotspot actions (09 R156 to R161) -/

/-- A panel's request looks up at most where its dispatch does. -/
theorem State.panelRequest_onlyLooksUp (i : Fin 4) (ask : Ask) {dispatch : State → Ref → State}
    (hd : ∀ (u : State) ref, (dispatch u ref).OnlyLooksUp u) : (s.panelRequest i ask dispatch).state.OnlyLooksUp s := by
  have hcreate : (s.createPanelEntry i ask).OnlyLooksUp s := .of_same (by simp)
  unfold State.panelRequest
  split
  · exact .refl s
  · split
    · exact .refl s
    · exact hcreate.trans (hd _ _)

/-- A route action looks its key up at most (09 R157). -/
theorem State.panelRoute_onlyLooksUp (i : Fin 4) (kind : DestKind) (n : BitVec 16) :
    (s.panelRoute i kind n).state.OnlyLooksUp s := by
  refine State.panelRequest_onlyLooksUp i _ fun u ref => ?_
  split
  · exact State.dispatchRoute_onlyLooksUp ..
  · exact .of_same (by simp)

/-- An action looks up at most, in the route it asks for. -/
theorem State.doAction_onlyLooksUp (i : Fin 4) (a : Action) : (s.doAction i a).state.OnlyLooksUp s := by
  cases a with
  | plain => exact .refl s
  | listing n => exact State.panelRoute_onlyLooksUp i .listing n
  | waypoint n => exact State.panelRoute_onlyLooksUp i .waypoint n
  | key b =>
    simp only [State.doAction]
    split
    · exact .refl s
    · split
      · exact .of_same (by simp)
      · exact .refl s
  | backspace | clearText =>
    simp only [State.doAction]
    split
    · exact .refl s
    · exact .of_same (by simp)
  | filter slot term => exact .of_same (by simp [State.doAction])
  | unfilter slot => exact .of_same (by simp [State.doAction])
  | cancel => exact .of_same (by simp [State.doAction, plainOutcome])

/-- A selection looks up at most, in its action. -/
theorem State.select_onlyLooksUp (i : Fin 4) (h : Nat) (n : Byte) (a : Action) : (s.select i h n a).OnlyLooksUp s := by
  have htouch : (s.touchSession i).OnlyLooksUp s := .of_same (by simp)
  have hcarry : (s.carryOut i a).state.OnlyLooksUp s := by
    unfold State.carryOut
    split
    · exact htouch.trans (State.doAction_onlyLooksUp i a)
    · exact .refl s
  have hrest (u : State) (k : MaskKind) (cls : Byte) (p : List Byte) :
      ((u.offerReport k cls p).release i).serve.OnlyLooksUp u := .of_same (by simp)
  exact hcarry.trans (hrest ..)

/-! ## The touch panels -/

/-- The UP of a track looks up at most, in its selection (10 R176). -/
theorem State.goUp_onlyLooksUp (p : Fin 4) (i : Fin 5) (f : Processing) : (s.goUp p i f).OnlyLooksUp s := by
  have hreport : (s.reportContact p i.val .up false (s.track p i).position).OnlyLooksUp s := .of_same (by simp)
  have htrack (u : State) : (u.onTrack p i fun _ => .free).OnlyLooksUp u := .of_same (by simp)
  unfold State.goUp
  simp only
  split
  · exact hreport.trans (htrack _)
  · exact (hreport.trans (State.select_onlyLooksUp ..)).trans (htrack _)

/-- A track brought forward looks up at most, in its UP. -/
theorem State.advanceTrack_onlyLooksUp (p : Fin 4) (f : Processing) (i : Fin 5) (c : Claim) :
    (s.advanceTrack p f i c).OnlyLooksUp s := by
  unfold State.advanceTrack
  split
  case h_7 =>
    split
    · exact .of_same (by simp)
    · exact State.goUp_onlyLooksUp p i f
  all_goals exact .of_same (by simp)

/-- The end of a frame looks up at most, in its selections. -/
theorem State.finishFrame_onlyLooksUp (p : Fin 4) : (s.finishFrame p).OnlyLooksUp s := by
  have hpanel (u : State) (g : Panel → Panel) : (u.onPanel p g).OnlyLooksUp u := .of_same (by simp)
  have hdetect (f : Processing) : (s.detect p f).OnlyLooksUp s := by
    have htracks (u : State) (cs : List Claim) : (u.advanceTracks p f cs).OnlyLooksUp u :=
      .foldl (α := Fin 5 × Claim) (fun _ x => State.advanceTrack_onlyLooksUp p f x.1 x.2) _ u
    exact ((hpanel s _).trans (htracks _ _)).trans (hpanel _ fun q => q.drifted f)
  have hend (t : State) (f : Processing) :
      ((t.onPanel p fun q => { q with processing := none }).answerInject p f.frame.inject .ok).OnlyLooksUp t :=
    .of_same (by simp)
  unfold State.finishFrame
  split
  · exact .refl s
  next f _ =>
    simp only
    split
    · exact (hdetect f).trans (hend _ f)
    · exact .of_same (by simp)
    · exact hend _ f

/-! ## The commands that at most look up -/

/-- What the pin gates looks up at most where its operation does. -/
theorem answers_onlyLooksUp {f : State → State} (hf : (f s).OnlyLooksUp s) :
    Answers (whileRunning s f) fun t => t.OnlyLooksUp s :=
  answers_whileRunning (law := fun t => t.OnlyLooksUp s) (.refl s) hf

/-- A request looks up at most where its owner does. -/
theorem request_onlyLooksUp {cls : Byte} {row : List Byte → Bool} {owner : Byte → List Byte → State → State}
    (howner : ∀ tag p u, (owner tag p u).OnlyLooksUp u) :
    Answers (whileRunning s fun s => s.dispatch cls row owner) fun t => t.OnlyLooksUp s :=
  answers_onlyLooksUp (State.dispatch_law (law := fun t => t.OnlyLooksUp s) (fun _ _ hu => hu.trans (.of_same ⟨rfl, rfl⟩))
    (.refl s) fun tag p u hu => hu.trans (howner tag p u))

/-- The head frame that the dispatcher takes leaves the cache and the segments. -/
theorem State.dispatchHead_onlyLooksUp {f : InFrame} (hd : s.dispatchHead = some (f, t)) : t.OnlyLooksUp s := by
  simp only [State.dispatchHead] at hd
  split at hd
  · cases hd
  · split at hd <;> cases hd
    exact .of_same ⟨rfl, rfl⟩

/-- The commands that may insert, sweep, flush or reset the route cache, or write a segment. -/
def movesCache : Instr → Bool
  | .compositionEnd | .sweepExamination | .segmentSet | .modeSet | .mapCheckEnd | .resetSessions | .transmitComplete
  | .resetPinAssert | .resetPinRelease _ | .loadOpen | .loadWrite => true
  | _ => false

/-- Every other command looks up at most. -/
theorem exec_onlyLooksUp (c : Instr) (hc : movesCache c = false) : Answers (exec c s) fun t => t.OnlyLooksUp s := by
  cases c with
  | compositionEnd | sweepExamination | segmentSet | modeSet | mapCheckEnd | resetSessions | transmitComplete
  | resetPinAssert | resetPinRelease | loadOpen | loadWrite => cases hc
  | frameReceived | receiveGapTimeout | linkByteReceived | transmitStart | directoryExamination | frameProcessingStart
  | routeFinalisation =>
    simp only [exec, execFrameReceived, execReceiveGapTimeout, execLinkByteReceived, execTransmitStart,
      execDirectoryExamination, execFrameProcessingStart, execRouteFinalisation]
    exact answers_onlyLooksUp (.of_same (by simp))
  | settleStep | sessionExpiry | frameTimerExpiry =>
    simp only [exec, execSettleStep, execSessionExpiry, execFrameTimerExpiry]
    exact answers_onlyLooksUp (.of_same (by split <;> simp))
  | frameProcessed p => exact answers_onlyLooksUp (f := fun s => s.finishFrame p) (State.finishFrame_onlyLooksUp p)
  | panelFrameReceived p samples =>
    simp only [exec, execPanelFrameReceived]
    refine answers_onlyLooksUp (.of_same ?_)
    split
    · exact ⟨rfl, rfl⟩
    · split <;> simp
  | unknownClass =>
    simp only [exec, execUnknownClass]
    refine answers_onlyLooksUp ?_
    split
    · exact .refl s
    next hd =>
      split
      · exact .refl s
      · exact (State.dispatchHead_onlyLooksUp hd).trans (.of_same ⟨rfl, rfl⟩)
  | mapCommit => exact request_onlyLooksUp fun tag p u => .of_same ⟨rfl, rfl⟩
  | stateGet | reportMask | loadRead | listingSet =>
    simp only [exec, execStateGet, execReportMask, execLoadRead, execListingSet]
    exact request_onlyLooksUp fun tag p u => .of_same (by simp [MaskKind.all])
  | resetFull | hotspotsSet | unitPeek =>
    simp only [exec, execResetFull, execHotspotsSet, execUnitPeek]
    exact request_onlyLooksUp fun tag p u => .of_same (by split <;> simp)
  | panelSet | panelInject =>
    simp only [exec, execPanelSet, execPanelInject]
    refine request_onlyLooksUp fun tag p u => .of_same ?_
    split
    · simp
    · split
      · simp
      · split <;> simp
  | baselineCapture | screenSet =>
    simp only [exec, execBaselineCapture, execScreenSet]
    refine request_onlyLooksUp fun tag p u => .of_same ?_
    split
    · simp
    · split <;> simp
  | routeAsk => exact request_onlyLooksUp fun tag p u => State.screenBound_onlyLooksUp fun v i =>
      State.askRoute_onlyLooksUp i tag p
  | directoryAsk | cancel =>
    simp only [exec, execDirectoryAsk, execCancel]
    exact request_onlyLooksUp fun tag p u => State.screenBound_onlyLooksUp fun v i => .of_same (by simp)
  | fence =>
    exact request_onlyLooksUp fun tag p u => State.screenBound_onlyLooksUp fun v i => .of_same (by split <;> simp)

/-- A millisecond leaves the cache and the segments. -/
theorem State.tick_onlyLooksUp : s.tick.OnlyLooksUp s := .of_same (by simp)

end

end Sys2Proof.Machine
end

section
/-! PROOFS. The laws of the route cache, kept by every step (06 R102, R110, R111, R116, 07 R118). -/

namespace Sys2Proof.Machine

/-- The sweep law and the coverage of closures, without R26 (06 R110, R116). -/
def State.Swept (s : State) : Prop :=
  s.SweepLaw
    ∧ (∀ e : Fin 512, (s.rcc.at e).valid = true → ∀ g ∈ (s.rcc.at e).segments,
        (s.segment g).closed = true → g ∈ s.rcc.sweep)
    ∧ (∀ e p : Fin 512, ∀ g rest, s.rcc.sweep = g :: rest → s.rcc.scan = some p → (s.rcc.at e).valid = true →
        g ∈ (s.rcc.at e).segments → p.val ≤ e.val)

/-- What every event does to the laws of the cache: R102 is kept, and over a map that rests outside service so is the
coverage of closures. -/
structure State.KeepsCache (t s : State) : Prop where
  law : s.CacheLaw → t.CacheLaw
  swept : s.RestsOutsideService → s.Swept → t.Swept

section
variable {s t r : State}

/-- The coverage of closures is R26 and the rest of it. -/
theorem State.closuresCovered_iff : s.ClosuresCovered ↔ s.RestsOutsideService ∧ s.Swept := Iff.rfl

/-! ## Events that bring no new route -/

/-- Without a new route R102 is kept. -/
theorem State.CacheLaw.of_noNewRoute (h : s.CacheLaw) (hroutes : t.rcc.NoNewRoute s.rcc) : t.CacheLaw := by
  obtain ⟨hunique, hplace⟩ := h
  refine ⟨fun e f he hf hkey => ?_, fun e he => ?_⟩
  · obtain ⟨he', -, hroute, -⟩ := hroutes e he
    obtain ⟨hf', -, hroute', -⟩ := hroutes f hf
    rw [hroute, hroute'] at hkey
    exact hunique e f he' hf' hkey
  · obtain ⟨he', halt, hroute, -⟩ := hroutes e he
    rw [halt, hroute]
    exact hplace e he'

/-- Without a new route the closures stay covered under the same sweep list, where a segment of a cached route that is closed
was closed before or stands in that list. -/
theorem State.Swept.of_noNewRoute (h : s.Swept) (hroutes : t.rcc.NoNewRoute s.rcc) (hsweep : t.rcc.sweep = s.rcc.sweep)
    (hscan : t.rcc.scan = s.rcc.scan)
    (hclosed : ∀ e, (s.rcc.at e).valid = true → ∀ g, (t.segment g).closed = true →
      (s.segment g).closed = true ∨ g ∈ s.rcc.sweep) : t.Swept := by
  obtain ⟨hlaw, hcovered, hbehind⟩ := h
  rw [State.Swept, State.SweepLaw, hsweep, hscan]
  refine ⟨hlaw, fun e he g hg hc => ?_, fun e p g rest hs hp he hg => ?_⟩
  · obtain ⟨he', -, -, hsegs⟩ := hroutes e he
    exact (hclosed e he' g hc).elim (hcovered e he' g (hsegs ▸ hg)) id
  · obtain ⟨he', -, -, hsegs⟩ := hroutes e he
    exact hbehind e p g rest hs hp he' (hsegs ▸ hg)

/-- Lookups keep both laws. -/
theorem State.OnlyLooksUp.keepsCache (h : t.OnlyLooksUp s) : t.KeepsCache s where
  law hs := hs.of_noNewRoute h.routes
  swept _ hs := hs.of_noNewRoute h.routes h.sweep h.scan fun _ _ g hc => .inl <| by
    rwa [State.segment, h.segments] at hc

/-- Lookups, replies and the like behind an event. -/
theorem State.KeepsCache.trans (h : t.KeepsCache s) (k : r.OnlyLooksUp t) : r.KeepsCache s where
  law hs := k.keepsCache.law (h.law hs)
  swept hr hs := (h.swept hr hs).of_noNewRoute k.routes k.sweep k.scan fun _ _ g hc => .inl <| by
    rwa [State.segment, k.segments] at hc

/-- An event that leaves the cache keeps both laws where it writes segments outside service alone: there no cached route is
valid (02 R26). -/
theorem State.keepsCache_of_rcc (hrcc : t.rcc = s.rcc)
    (hsegments : s.mod.mode.serving = true → t.map.segments = s.map.segments) : t.KeepsCache s where
  law hs := hs.of_noNewRoute (.of_at fun e => by rw [hrcc])
  swept hr hs := by
    refine hs.of_noNewRoute (.of_at fun e => by rw [hrcc]) (by rw [hrcc]) (by rw [hrcc]) fun e he g hc => .inl ?_
    cases hm : s.mod.mode.serving with
    | true => rwa [State.segment, hsegments hm] at hc
    | false =>
      obtain ⟨-, -, hinvalid, -⟩ := hr hm
      rw [hinvalid e] at he
      cases he

/-- An emptied cache meets both laws. -/
theorem State.keepsCache_of_emptied (h : t.rcc.Emptied) : t.KeepsCache s := by
  obtain ⟨hinvalid, hsweep, hscan⟩ := h
  have hnot (e : Fin 512) : ¬ (t.rcc.at e).valid = true := by simp [hinvalid e]
  exact ⟨fun _ => ⟨fun e _ he => absurd he (hnot e), fun e he => absurd he (hnot e)⟩,
    fun _ _ => ⟨by simp [State.SweepLaw, hsweep, hscan], fun e he => absurd he (hnot e),
      fun e _ _ _ _ _ he => absurd he (hnot e)⟩⟩

/-- A part after reset has an empty cache (06 R100). -/
theorem State.started_emptied (rate : BitVec 2) (cause : Byte) (pending : List Instr) :
    ({ State.started rate cause with pending := pending } : State).rcc.Emptied := by
  obtain ⟨-, -, hinvalid, -⟩ := State.started_atRest rate cause pending
  exact ⟨hinvalid, rfl, rfl⟩

/-! ## Closures and reopenings (07 R117 to R121) -/

/-- A segment that is closed once a status has been written was closed, or is the one written as closed. -/
theorem MapState.setStatus_closed {m : MapState} {g j : Nat} {b : Bool} (hg : g < m.segments.length)
    (h : ((m.setStatus g b).segments.getD j .reset).closed = true) :
    (m.segments.getD j .reset).closed = true ∨ (j = g ∧ b = true) := by
  rw [m.setStatus_getD g j b hg] at h
  split at h
  next hj => exact .inr ⟨hj, h⟩
  next => exact .inl h

/-- A segment that joins the sweep list keeps the sweep law (06 R110). -/
theorem sweepLaw_append {l : List Nat} {p : Option (Fin 512)} {g : Nat} (hnew : g ∉ l) (hroom : l.length < 8)
    (hnodup : l.Nodup) (hscan : p.isSome = true ↔ l ≠ []) :
    (l ++ [g]).length ≤ 8 ∧ (l ++ [g]).Nodup ∧ ((if l.isEmpty then some 0 else p).isSome = true ↔ l ++ [g] ≠ []) := by
  refine ⟨by simpa using hroom, List.nodup_append.mpr ⟨hnodup, List.nodup_singleton g, ?_⟩, ?_⟩
  · rintro a ha b hb rfl
    exact hnew (List.mem_singleton.mp hb ▸ ha)
  · cases l with
    | nil => simp
    | cons x xs => simpa using hscan

/-- A closure in service keeps both laws: the segment stands in the sweep list from then on, or the cache is flushed
(06 R110, 07 R118). -/
theorem State.closeSegment_keepsCache {g : Nat} (hg : g < s.segmentCount) : (s.closeSegment g).KeepsCache s := by
  have hclosed (j : Nat) (hj : ((s.closeSegment g).segment j).closed = true) : (s.segment j).closed = true ∨ j = g :=
    (MapState.setStatus_closed hg hj).imp_right And.left
  have hrcc : (s.closeSegment g).rcc = s.rcc.handOver g := rfl
  refine ⟨fun hs => hs.of_noNewRoute (s.rcc.handOver_noNewRoute g), fun hr hs => ?_⟩
  obtain ⟨hin, hsame⟩ | ⟨hout, hroom, hjoin⟩ | hflush := s.rcc.handOver_cases g
  · refine hs.of_noNewRoute (s.rcc.handOver_noNewRoute g) (by rw [hrcc, hsame]) (by rw [hrcc, hsame]) fun e _ j hj => ?_
    exact (hclosed j hj).imp_right fun (h : j = g) => h ▸ hin
  · obtain ⟨⟨-, hnodup, hscan⟩, hcovered, hbehind⟩ := hs
    rw [State.Swept, State.SweepLaw, hrcc, hjoin]
    refine ⟨sweepLaw_append hout hroom hnodup hscan, fun e he j hj hc => ?_, fun e p j rest hsweep hp he hj => ?_⟩
    · obtain hc | rfl := hclosed j hc
      · exact List.mem_append_left _ (hcovered e he j hj hc)
      · exact List.mem_append_right _ (List.mem_singleton_self j)
    · cases hl : s.rcc.sweep with
      | nil =>
        obtain rfl : 0 = p := by simpa [hl] using hp
        exact Nat.zero_le _
      | cons x xs =>
        rw [hl] at hsweep
        obtain ⟨rfl, -⟩ := List.cons.inj hsweep
        exact hbehind e p x xs hl (by simpa [hl] using hp) he hj
  · exact (State.keepsCache_of_emptied (s := s) (hrcc.trans hflush ▸ s.rcc.flush_emptied)).swept hr hs

/-- A reopening in service keeps both laws: it closes nothing, and at the wrap the cache is flushed (07 R119 to R121). -/
theorem State.reopenSegment_keepsCache {g : Nat} (hg : g < s.segmentCount) : (s.reopenSegment g).KeepsCache s := by
  simp only [State.reopenSegment]
  split
  · exact State.keepsCache_of_emptied s.rcc.flush_emptied
  · refine ⟨fun hs => hs, fun _ hs => hs.of_noNewRoute (.of_at fun _ => rfl) rfl rfl fun e _ j hj => ?_⟩
    exact (MapState.setStatus_closed hg hj).imp_right fun h => Bool.noConfusion h.2

/-- A SEGMENT_SET keeps both laws (07 R117). -/
theorem State.segmentSet_keepsCache (g n : Nat) : (s.segmentSet g n).1.KeepsCache s := by
  have hrefused : s.KeepsCache s := (State.OnlyLooksUp.refl s).keepsCache
  unfold State.segmentSet
  split
  · exact hrefused
  · split
    · exact hrefused
    · split
      · exact hrefused
      next hg =>
        split
        · exact hrefused
        · split
          next hm => exact State.keepsCache_of_rcc rfl fun hserving => by rw [hm] at hserving; cases hserving
          next =>
            split
            · exact State.closeSegment_keepsCache (Nat.not_le.mp hg)
            · exact State.reopenSegment_keepsCache (Nat.not_le.mp hg)

/-! ## The load stream (01 R12 to R17) -/

/-- A clear of another table leaves the segments. -/
theorem State.clearTable_segments {k : TableId} (h : k ≠ .segments) : (s.clearTable k).map.segments = s.map.segments := by
  cases k with
  | segments => exact absurd rfl h
  | _ => rfl

/-- In service a LOAD_OPEN clears no segment (01 R13). -/
theorem State.loadOpen_segments (hm : s.mod.mode.serving = true) (p : List Byte) :
    (s.loadOpen p).1.map.segments = s.map.segments := by
  have hclear (k : TableId) (h : s.clearAllowed k = true) : k ≠ .segments := by
    rintro rfl
    have hloading : s.mod.mode = .loading := by simpa [State.clearAllowed, TableId.inService] using h
    rw [hloading] at hm
    cases hm
  unfold State.loadOpen
  split
  · rfl
  · split
    · rfl
    · split
      · rfl
      · split
        · split
          next h => exact State.clearTable_segments (hclear _ h)
          next => rfl
        · rfl

/-- In service a LOAD_WRITE writes no segment (01 R16). -/
theorem State.loadWrite_segments (hm : s.mod.mode.serving = true) (p : List Byte) :
    (s.loadWrite p).state.map.segments = s.map.segments := by
  have hwrite (k : TableId) (h : ¬ s.writeDiscarded k = true) : k ≠ .segments := by
    rintro rfl
    exact h (by simp [State.writeDiscarded, TableId.inService, hm])
  unfold State.loadWrite
  split
  · rfl
  · split
    · rfl
    · simp only
      split
      · rfl
      · split
        · rfl
        next h => exact (s.writeTable_segments _ _ (hwrite _ h)).1

/-! ## The sweep engine (06 R111) -/

/-- A route that still uses the segment swept for after an examination lies ahead of the scan position, where before none lay
behind it. -/
theorem CacheState.lt_of_examine_uses {c : CacheState} {g : Nat} {rest : List Nat} {p e : Fin 512}
    (hsweep : c.sweep = g :: rest) (hscan : c.scan = some p)
    (hbehind : ∀ x : Fin 512, (c.at x).valid = true → g ∈ (c.at x).segments → p.val ≤ x.val)
    (he : (c.examine.at e).valid = true) (hg : g ∈ (c.examine.at e).segments) : p.val < e.val := by
  obtain ⟨he', -, -, hsegs⟩ := c.examine_noNewRoute e he
  refine Nat.lt_of_le_of_ne (hbehind e he' (hsegs ▸ hg)) fun heq => ?_
  obtain rfl : p = e := Fin.ext heq
  have hat : c.examine.at p = (c.at p).sweepFor g := by
    rw [CacheState.examine_eq hsweep hscan]
    exact (c.onEntry_at p p _).trans (if_pos rfl)
  rw [hat] at he hg
  exact CacheEntry.not_mem_of_sweepFor he hg

/-- A sweep examination keeps both laws: every route that uses the segment swept for lies ahead of the scan, until the
segment leaves the list. -/
theorem State.examine_keepsCache : ({ s with rcc := s.rcc.examine } : State).KeepsCache s := by
  refine ⟨fun hs => hs.of_noNewRoute s.rcc.examine_noNewRoute, fun _ hs => ?_⟩
  obtain ⟨g, rest, p, hsweep, hscan⟩ | hidle := s.rcc.scan_cases
  · obtain ⟨⟨hlength, hnodup, -⟩, hcovered, hbehind⟩ := hs
    have hroutes := s.rcc.examine_noNewRoute
    have hahead (e : Fin 512) (he : (s.rcc.examine.at e).valid = true) (hg : g ∈ (s.rcc.examine.at e).segments) :
        p.val < e.val :=
      CacheState.lt_of_examine_uses hsweep hscan (fun e' => hbehind e' p g rest hsweep hscan) he hg
    have hsweep' : s.rcc.examine.sweep = if p.val = 511 then rest else g :: rest := by
      rw [CacheState.examine_eq hsweep hscan, hsweep]
    have hscan' : s.rcc.examine.scan =
        if p.val = 511 then (if rest = [] then none else some 0) else some (Fin.ofNat 512 (p.val + 1)) := by
      rw [CacheState.examine_eq hsweep hscan]
    rw [hsweep] at hlength hnodup
    rw [State.Swept, State.SweepLaw]
    simp only [hsweep', hscan']
    by_cases hlast : p.val = 511
    · simp only [if_pos hlast]
      refine ⟨⟨by simp at hlength; omega, (List.nodup_cons.mp hnodup).2, by cases rest <;> simp⟩,
        fun e he j hj hc => ?_, fun e q j rest' hrest hq _ _ => ?_⟩
      · obtain ⟨he', -, -, hsegs⟩ := hroutes e he
        have hin := hcovered e he' j (hsegs ▸ hj) hc
        rw [hsweep] at hin
        refine (List.mem_cons.mp hin).resolve_left ?_
        rintro rfl
        have := hahead e he hj
        omega
      · rw [hrest, if_neg (List.cons_ne_nil j rest')] at hq
        obtain rfl := Option.some.inj hq
        exact Nat.zero_le _
    · simp only [if_neg hlast]
      refine ⟨⟨hlength, hnodup, by simp⟩, fun e he j hj hc => ?_, fun e q j rest' hrest hq he hj => ?_⟩
      · obtain ⟨he', -, -, hsegs⟩ := hroutes e he
        exact hsweep ▸ hcovered e he' j (hsegs ▸ hj) hc
      · obtain ⟨rfl, -⟩ := List.cons.inj hrest
        obtain rfl := Option.some.inj hq
        have hnext : (Fin.ofNat 512 (p.val + 1)).val = p.val + 1 := Nat.mod_eq_of_lt (by omega)
        rw [hnext]
        exact hahead e he hj
  · rw [hidle]
    exact hs

/-! ## Offers (06 R106, R107) -/

/-- An insertion keeps R102: the entry stands in a group of its key, and no other entry holds the key (06 R107). -/
theorem State.CacheLaw.insert (h : s.CacheLaw) (generation : BitVec 16) (route : ComposedRoute) (segments : List Nat)
    (ht : t.rcc = s.rcc.insert generation route segments) : t.CacheLaw := by
  obtain ⟨e, b, hgroup, hfound, hnew, hothers⟩ := s.rcc.insert_writes generation route segments
  rw [← ht] at hnew hothers
  have halone (x : Fin 512) (hx : (t.rcc.at x).valid = true) (hkey : (t.rcc.at x).route.key = route.key) : x = e := by
    by_contra hne
    obtain ⟨hx', -, hroute, -⟩ := hothers x hne hx
    have hfind := h.find hx'
    rw [← hroute, hkey] at hfind
    exact hne (hfound x hfind)
  have hkey : (t.rcc.at e).route.key = route.key := by rw [hnew]; rfl
  obtain ⟨hunique, hplace⟩ := h
  refine ⟨fun x y hx hy hxy => ?_, fun x hx => ?_⟩
  · by_cases hye : y = e
    · subst hye
      exact halone x hx (hxy.trans hkey)
    · by_cases hxe : x = e
      · subst hxe
        exact (halone y hy (hxy.symm.trans hkey)).symm
      · obtain ⟨hx', -, hroute, -⟩ := hothers x hxe hx
        obtain ⟨hy', -, hroute', -⟩ := hothers y hye hy
        rw [hroute, hroute'] at hxy
        exact hunique x y hx' hy' hxy
  · by_cases hxe : x = e
    · subst hxe
      rw [hnew]
      cases b with
      | false => exact .inl ⟨rfl, hgroup⟩
      | true => exact .inr ⟨rfl, hgroup⟩
    · obtain ⟨hx', halt, hroute, -⟩ := hothers x hxe hx
      rw [halt, hroute]
      exact hplace x hx'

/-- An offer keeps both laws: a route that is inserted uses no closed segment and none of the sweep list (06 R106). -/
theorem State.offer_keepsCache (captured : Option (BitVec 16)) (route : ComposedRoute) (path : List Nat) :
    (s.offer captured route path).KeepsCache s := by
  by_cases hallowed : s.OfferAllowed captured path
  · have hrcc := State.offer_rcc hallowed route
    have hmap : (s.offer captured route path).map = s.map := by simp
    refine ⟨fun hs => hs.insert _ _ _ hrcc, fun _ hs => ?_⟩
    obtain ⟨hlaw, hcovered, hbehind⟩ := hs
    obtain ⟨-, -, -, hopen⟩ := hallowed
    obtain ⟨e, b, -, -, hnew, hothers⟩ := s.rcc.insert_writes s.map.generation route path
    obtain ⟨hsweep, hscan⟩ := s.rcc.insert_sweep s.map.generation route path
    simp only [State.Swept, State.SweepLaw, State.segment, hmap, hrcc, hsweep, hscan]
    refine ⟨hlaw, fun x hx g hg hc => ?_, fun x p g rest hs hp hx hg => ?_⟩
    · by_cases hxe : x = e
      · rw [hxe, hnew] at hg
        exact absurd hc (Bool.eq_false_iff.mp (hopen g hg).1)
      · obtain ⟨hx', -, -, hsegs⟩ := hothers x hxe hx
        exact hcovered x hx' g (hsegs ▸ hg) hc
    · by_cases hxe : x = e
      · rw [hxe, hnew] at hg
        exact absurd (hs ▸ List.mem_cons_self) (hopen g hg).2
      · obtain ⟨hx', -, -, hsegs⟩ := hothers x hxe hx
        exact hbehind x p g rest hs hp hx' (hsegs ▸ hg)
  · rw [State.offer_declined hallowed]
    exact (State.OnlyLooksUp.refl s).keepsCache

/-- The end of a composition keeps both laws (05 R94). -/
theorem State.endComposition_keepsCache : s.endComposition.KeepsCache s := by
  have hrefl : s.KeepsCache s := (State.OnlyLooksUp.refl s).keepsCache
  have hjob (u : State) (j : Option Job) : (u.withJob j).OnlyLooksUp u := .of_same ⟨rfl, rfl⟩
  unfold State.endComposition
  split
  · exact hrefl
  · split
    · exact hrefl
    · simp only
      split
      · exact (State.offer_keepsCache ..).trans (hjob _ _)
      · exact hrefl.trans (hjob _ _)

/-! ## Mode control -/

/-- A MODE_SET keeps both laws: an entry to LOADING flushes the cache (02 R25). -/
theorem State.modeSet_keepsCache (tag : Byte) (n : Nat) : (s.modeSet tag n).KeepsCache s := by
  have hreply (u : State) (c : ResultCode) : (u.modeReply tag c).OnlyLooksUp u := .of_same (by simp)
  have hloading : (s.enterLoading.modeReply tag .ok).KeepsCache s := by
    obtain ⟨-, -, hrcc, -⟩ := ({ s with mod := { s.mod with
      mode := .loading, label := 0, findings := [], findingCount := 0 } } : State).abortWork_empties
    have hemptied : s.enterLoading.rcc.Emptied := by
      rw [State.enterLoading, hrcc]
      exact CacheState.flush_emptied _
    exact (State.keepsCache_of_emptied hemptied).trans (hreply _ _)
  unfold State.modeSet
  split
  case h_4 | h_5 => exact hloading
  case h_7 => exact State.OnlyLooksUp.keepsCache (.of_same (by simp))
  case h_8 => exact State.OnlyLooksUp.keepsCache (.of_same (by simp))
  all_goals exact (hreply s _).keepsCache

/-- The end of a map check keeps both laws: a check that passes flushes the cache (02 R33). -/
theorem State.endCheck_keepsCache : s.endCheck.KeepsCache s := by
  unfold State.endCheck
  split
  · split
    · exact State.keepsCache_of_emptied s.rcc.flush_emptied
    · exact State.OnlyLooksUp.keepsCache (.of_same (by simp))
  · exact (State.OnlyLooksUp.refl s).keepsCache

/-- RESET SESSIONS flushes the cache (02 R39). -/
theorem State.resetSessions_emptied : s.resetSessions.rcc.Emptied := by
  have hrcc : s.resetSessions.rcc = s.rcc.flush := by simp [State.resetSessions, four, s.abortWork_empties]
  exact hrcc ▸ s.rcc.flush_emptied

/-! ## Every command and every step -/

/-- What the pin gates keeps both laws where its operation does. -/
theorem answers_keepsCache {f : State → State} (hf : (f s).KeepsCache s) :
    Answers (whileRunning s f) fun t => t.KeepsCache s :=
  answers_whileRunning (law := fun t => t.KeepsCache s) (State.OnlyLooksUp.refl s).keepsCache hf

/-- A request keeps both laws where its owner does. -/
theorem request_keepsCache {cls : Byte} {row : List Byte → Bool} {owner : Byte → List Byte → State → State}
    (howner : ∀ tag p u, (owner tag p u).KeepsCache u) :
    Answers (whileRunning s fun s => s.dispatch cls row owner) fun t => t.KeepsCache s := by
  have hlink (l : LinkState) : ({ s with link := l } : State).OnlyLooksUp s := .of_same ⟨rfl, rfl⟩
  refine answers_keepsCache ?_
  obtain hd | ⟨tag, p, rest, -, -, -, -, ⟨-, hd⟩ | ⟨-, -, hd⟩ | ⟨-, -, hd⟩⟩ := s.dispatch_cases cls row owner <;>
    rw [hd]
  · exact (State.OnlyLooksUp.refl s).keepsCache
  · exact (hlink _).keepsCache
  · exact (hlink _).keepsCache
  · obtain ⟨hlaw, hswept⟩ := howner tag p (s.taken rest)
    exact ⟨hlaw, hswept⟩

/-- Every command keeps both laws. -/
theorem exec_keepsCache (c : Instr) : Answers (exec c s) fun t => t.KeepsCache s := by
  have hreply (u : State) (cls tag : Byte) (p : List Byte) : (u.reply cls tag p).OnlyLooksUp u := .of_same (by simp)
  have hrefl : s.KeepsCache s := (State.OnlyLooksUp.refl s).keepsCache
  cases hc : movesCache c with
  | false =>
    obtain ⟨t, ht, hlooks⟩ := exec_onlyLooksUp (s := s) c hc
    exact ⟨t, ht, hlooks.keepsCache⟩
  | true =>
    cases c with
    | compositionEnd => exact answers_keepsCache State.endComposition_keepsCache
    | sweepExamination => exact answers_keepsCache (f := fun s => { s with rcc := s.rcc.examine }) State.examine_keepsCache
    | mapCheckEnd => exact answers_keepsCache State.endCheck_keepsCache
    | segmentSet => exact request_keepsCache fun tag p u => (State.segmentSet_keepsCache _ _).trans (hreply ..)
    | modeSet => exact request_keepsCache fun tag p u => State.modeSet_keepsCache tag _
    | resetSessions =>
      refine request_keepsCache fun tag p u => ?_
      split
      · exact (State.keepsCache_of_emptied State.resetSessions_emptied).trans (hreply ..)
      · exact (hreply ..).keepsCache
    | loadOpen =>
      exact request_keepsCache fun tag p u =>
        (State.keepsCache_of_rcc (by simp) fun hm => State.loadOpen_segments hm p).trans (hreply ..)
    | loadWrite =>
      exact request_keepsCache fun tag p u =>
        (State.keepsCache_of_rcc (by simp) fun hm => State.loadWrite_segments hm p).trans (hreply ..)
    | transmitComplete =>
      rw [exec, execTransmitComplete]
      refine answers_keepsCache ?_
      split
      · exact hrefl
      · split
        · exact State.keepsCache_of_emptied (State.started_emptied ..)
        · exact State.OnlyLooksUp.keepsCache (.of_same ⟨rfl, rfl⟩)
    | resetPinAssert => exact ⟨_, rfl, State.keepsCache_of_emptied (State.started_emptied s.link.rate 0 s.pending)⟩
    | resetPinRelease straps =>
      refine ⟨_, rfl, ?_⟩
      split
      · exact State.keepsCache_of_emptied (State.started_emptied ..)
      · exact hrefl
    | _ => cases hc

/-! ## Hits (06 R104, R116) -/

/-- A route that a lookup hands out is a valid entry's, found under its key, none of whose segments stands in the sweep
list (06 R104). -/
theorem CacheState.lookup_hit {c : CacheState} {generation : BitVec 16} {k : Key} {route : ComposedRoute}
    (h : (c.lookup generation k).2 = some route) :
    ∃ e, (c.at e).valid = true ∧ (c.at e).route = route ∧ route.key = k ∧ ∀ g ∈ (c.at e).segments, g ∉ c.sweep := by
  obtain ⟨-, hl⟩ | ⟨e, hfind, husable, hl⟩ | ⟨e, -, -, hl⟩ := c.lookup_cases generation k <;> rw [hl] at h
  · cases h
  · obtain rfl := Option.some.inj h
    obtain ⟨hvalid, hkey, -⟩ := CacheState.find_some hfind
    refine ⟨e, hvalid, rfl, hkey, fun g hg hin => ?_⟩
    rw [CacheState.usable_eq_false (.inr ⟨g, hg, hin⟩)] at husable
    cases husable
  · cases h

end

/-- Settles O56: no event brings a new route but an insertion, which writes one entry where its key belongs. -/
theorem cacheLawKept : Obligations.CacheLawKept :=
  keptByEveryStep_of_exec (fun _ _ hu => hu)
    (fun c u hu => by
      obtain ⟨t, ht, hkeeps⟩ := exec_keepsCache (s := u) c
      exact ⟨t, ht, hkeeps.law hu⟩)
    (fun _ hu => State.tick_onlyLooksUp.keepsCache.law hu)

/-- Settles O57: the closures of cached routes stay covered by the sweep list, and a hit uses no segment of it. -/
theorem noHitUsesClosedSegment : Obligations.NoHitUsesClosedSegment := by
  refine ⟨keptByEveryStep_of_exec (fun _ _ hu => hu) (fun c u hu => ?_) (fun u hu => ?_), fun s k route hs hhit => ?_⟩
  · obtain ⟨hrests, hswept⟩ := State.closuresCovered_iff.mp hu
    obtain ⟨t, ht, hkeeps⟩ := exec_keepsCache (s := u) c
    obtain ⟨t', ht', hrests'⟩ := exec_restsOutsideService hrests c
    cases ht.symm.trans ht'
    exact ⟨t, ht, hrests', hkeeps.swept hrests hswept⟩
  · obtain ⟨hrests, hswept⟩ := State.closuresCovered_iff.mp hu
    exact ⟨State.tick_settles.restsOutsideService hrests, State.tick_onlyLooksUp.keepsCache.swept hrests hswept⟩
  · obtain ⟨-, -, hcovered, -⟩ := hs
    obtain ⟨e, hvalid, hroute, hkey, hclear⟩ := CacheState.lookup_hit hhit
    refine ⟨e, hvalid, hroute, hkey, fun g hg => ?_⟩
    by_contra hclosed
    exact hclear g hg (hcovered e hvalid g hg (Bool.eq_true_of_not_eq_false hclosed))

end Sys2Proof.Machine
end

section
/-! PROOFS. The sweep engine: one examination, and 512 of them (06 R111). -/

namespace Sys2Proof.Machine

/-- The cache with its first entries examined for the segment swept for, and the scan at the next one. -/
structure CacheState.SweptUpTo (d c : CacheState) (g n : Nat) : Prop where
  sweep : d.sweep = c.sweep
  hands : d.hands = c.hands
  entries : ∀ e : Fin 512, d.at e = if e.val < n then (c.at e).sweepFor g else c.at e

section
variable {c d : CacheState} {g n : Nat} {rest : List Nat} {p : Fin 512}

/-- Before the first examination nothing has been examined. -/
theorem CacheState.SweptUpTo.zero (c : CacheState) (g : Nat) : c.SweptUpTo c g 0 :=
  ⟨rfl, rfl, fun e => (if_neg (Nat.not_lt_zero e.val)).symm⟩

/-- An examination adds the entry at the scan position to those examined. -/
theorem CacheState.SweptUpTo.onEntry (h : d.SweptUpTo c g p.val) :
    (d.onEntry p (CacheEntry.sweepFor g)).SweptUpTo c g (p.val + 1) := by
  refine ⟨h.sweep, h.hands, fun e => ?_⟩
  have hat := h.entries e
  rw [CacheState.onEntry_at]
  by_cases he : e = p
  · subst he
    rw [if_pos rfl, if_pos (Nat.lt_succ_self _), hat, if_neg (Nat.lt_irrefl _)]
  · have hlt : e.val < p.val + 1 ↔ e.val < p.val := by
      have hne : e.val ≠ p.val := fun h => he (Fin.ext h)
      omega
    simp only [if_neg he, hlt, hat]

/-- Fewer than 512 examinations from the start of a scan keep its segment at the head of the list (06 R111). -/
theorem CacheState.examine_iterate (hsweep : c.sweep = g :: rest) (hscan : c.scan = some 0) (hn : n < 512) :
    (CacheState.examine^[n] c).scan = some ⟨n, hn⟩ ∧ (CacheState.examine^[n] c).SweptUpTo c g n := by
  induction n with
  | zero => exact ⟨hscan, .zero c g⟩
  | succ n ih =>
    obtain ⟨hpos, hswept⟩ := ih (by omega)
    have hlast : ¬ n = 511 := by omega
    have hnext : Fin.ofNat 512 (n + 1) = ⟨n + 1, hn⟩ := Fin.ext (Nat.mod_eq_of_lt hn)
    rw [Function.iterate_succ_apply', CacheState.examine_eq (hswept.sweep.trans hsweep) hpos]
    simp only [if_neg hlast, hnext]
    obtain ⟨hsweep', hhands, hentries⟩ := CacheState.SweptUpTo.onEntry (p := ⟨n, by omega⟩) hswept
    exact ⟨trivial, hsweep', hhands, hentries⟩

/-- 512 examinations from the start of a scan examine every entry, and the segment leaves the list (06 R111). -/
theorem CacheState.examine_iterate_all (hsweep : c.sweep = g :: rest) (hscan : c.scan = some 0) :
    (CacheState.examine^[512] c).sweep = rest ∧ (CacheState.examine^[512] c).hands = c.hands
      ∧ (CacheState.examine^[512] c).scan = (if rest = [] then none else some 0)
      ∧ ∀ e : Fin 512, (CacheState.examine^[512] c).at e = (c.at e).sweepFor g := by
  obtain ⟨hpos, hswept⟩ := CacheState.examine_iterate (n := 511) hsweep hscan (by omega)
  rw [Function.iterate_succ_apply']
  generalize CacheState.examine^[511] c = d at hpos hswept
  rw [CacheState.examine_eq (hswept.sweep.trans hsweep) hpos]
  obtain ⟨-, hhands, hentries⟩ := CacheState.SweptUpTo.onEntry (p := ⟨511, by omega⟩) hswept
  simp only [if_true]
  exact ⟨trivial, hhands, trivial, fun e => (hentries e).trans (if_pos e.isLt)⟩

end

/-- Settles O43: an examination is CacheState.examine_eq, and 512 of them pass over all entries. -/
theorem sweepExamination : Obligations.SweepExamination := by
  unfold Obligations.SweepExamination
  refine ⟨?one, fun c g rest hsweep hscan => ?all⟩
  case one =>
    rintro s p g rest x hlow hsweep hscan rfl
    have hexec : exec .sweepExamination s = whileRunning s fun s => { s with rcc := s.rcc.examine } := rfl
    rw [hexec, whileRunning_high hlow, CacheState.examine_eq hsweep hscan, ← CacheEntry.sweepFor_eq]
    rfl
  case all =>
    obtain ⟨hrest, hhands, hscan', hentries⟩ := CacheState.examine_iterate_all hsweep hscan
    exact ⟨hrest, hhands, hscan', fun e => (hentries e).trans (CacheEntry.sweepFor_eq g _)⟩

end Sys2Proof.Machine
end

section
/-! PROOFS. A ROUTE_ASK that is answered at once (06 R104, R105, 07 R126, 09 R151 to R153). -/

namespace Sys2Proof.Machine

section
variable {s : State} {i : Fin 4} {tag : Byte} {kind : DestKind} {number : Nat} {options profile : Byte} {origin : Nat}
  {rest : List InFrame} {k : Key} {c : Screen}

/-! ## A ROUTE_ASK that passes its tests (09 R153) -/

/-- The screen's session is restarted and the head frame has left the inbound queue (09 R148). -/
def State.askTouched (s : State) (i : Fin 4) (rest : List InFrame) : State :=
  { s.taken rest with screens := s.screens.set i.val { s.screens[i.val] with active := true, idle := some 0 } }

/-- The screen whose session has been restarted. -/
theorem State.askTouched_screen (s : State) (i : Fin 4) (rest : List InFrame) :
    (s.askTouched i rest).screens[i.val] = { s.screens[i.val] with active := true, idle := some 0 } :=
  Vector.getElem_set_self i.isLt

/-- A ROUTE_ASK that passes every test but for the room: BUSY on a full list, and else it joins under its key (09 R152,
R153). -/
theorem State.routeAsked.exec_eq (h : s.routeAsked i tag kind number options profile origin rest) :
    exec .routeAsk s = .next (if (s.askTouched i rest).hasRoom i = false then (s.askTouched i rest).refuse 0x0B tag .busy
      else (s.askTouched i rest).joinRoute i tag (s.screens[i.val].askedKey kind number options profile origin)
        (options.getLsbD 1)) := by
  obtain ⟨hhead, hm, henabled, hnumber, horigin, hlisting, hwaypoint, hprofile, hexplicit⟩ := h
  obtain ⟨hi, hkind, hdest, hoptions, hprof, horig⟩ := routeAsk_fields i kind.code options profile hnumber horigin
  refine (whileRunning_dispatch _ hhead rfl rfl (modeGate_serving hm (by decide))).trans ?_
  rw [State.screenBound_enabled (s := s.taken rest) _ hi henabled, State.touchSession_enabled (s := s.taken rest) henabled]
  have hdestKind : destKindOf kind.code.toNat = some kind := by cases kind <;> rfl
  have hexists : (s.askTouched i rest).destinationExists kind number = true := by
    cases kind with
    | listing => exact decide_eq_true (hlisting rfl)
    | waypoint => exact decide_eq_true (hwaypoint rfl)
  have hprofile' : ¬ (options.getLsbD 0 = true ∧ 8 ≤ profile.toNat) := fun ⟨hset, hle⟩ =>
    Nat.not_lt.mpr hle (hprofile hset)
  have hexplicit' : ¬ (options.getLsbD 1 = true ∧ (s.askTouched i rest).waypointCount ≤ origin) := fun ⟨hset, hle⟩ =>
    Nat.not_lt.mpr hle (hexplicit hset)
  refine congrArg Host.Outcome.next (?_ : (s.askTouched i rest).askRoute i tag _ = _)
  unfold State.askRoute
  simp only [hkind, hdest, hoptions, hprof, horig, hdestKind, hexists, Bool.true_eq_false, if_false, hprofile', hexplicit']
  split
  · rfl
  · congr 1
    simp only [State.askTouched_screen, Screen.routeKey, Screen.askedKey]
    split <;> split <;> rfl

/-! ## Answers in the same event -/

/-- The state in which the route request is dispatched: its entry has joined the screen's list (09 R150). -/
def State.askJoined (s : State) (i : Fin 4) (tag : Byte) (k : Key) (explicit : Bool) (rest : List InFrame) : State :=
  (s.askTouched i rest).join i (.host tag) (.route k explicit) none

/-- The reference that the entry takes. -/
def Screen.askRef (c : Screen) (i : Fin 4) : Ref := { screen := i, id := c.nextId }

/-- The screens once the entry has joined. -/
theorem State.askJoined_eq (explicit : Bool) (hc : c = s.screens[i.val]) :
    s.askJoined i tag k explicit rest = { s.taken rest with
      screens := s.screens.set i.val { c with
        active := true, idle := some 0, nextId := c.nextId + 1
        outstanding := c.outstanding ++
          [{ id := c.nextId, asker := .host tag, ask := .route k explicit, result := none }] } } := by
  subst hc
  simp [State.askJoined, State.askTouched, State.join, State.onScreen]

/-- A ROUTE_ASK alone on its screen's list whose dispatch completes it leaves as its reply in the same event (09 R151). -/
theorem State.routeAsked.answered (h : s.routeAsked i tag kind number options profile origin rest)
    (hc : c = s.screens[i.val]) (hk : k = c.askedKey kind number options profile origin) (hempty : c.outstanding = [])
    (hquiet : s.EnginesQuiet) {m : CacheState} {r : EntryResult}
    (hdispatch : (s.askJoined i tag k (options.getLsbD 1) rest).dispatchRoute (c.askRef i) k (options.getLsbD 1) =
      ({ s.askJoined i tag k (options.getLsbD 1) rest with rcc := m } : State).mark (c.askRef i) r) :
    exec .routeAsk s = .next { s with
      link := { s.link with
        inbound := rest
        replies := s.link.replies ++
          [{ cls := 0x8B, tag := tag, resets := false, release := some (i, c.released)
             payload := Entry.bytes i
              { id := c.nextId, asker := .host tag, ask := .route k (options.getLsbD 1), result := some r } r }] }
      rcc := m
      screens := s.screens.set i.val
        { c with active := true, idle := some 0, nextId := c.nextId + 1, released := c.released + 1 } } := by
  have hscreen : (s.askTouched i rest).screens[i.val] = { c with active := true, idle := some 0 } := by
    rw [State.askTouched_screen, hc]
  have hroom : ¬ (s.askTouched i rest).hasRoom i = false := by
    simp [State.hasRoom, hscreen, hempty, Config.outstandingCapacity]
  have href : (s.askTouched i rest).nextRef i = c.askRef i := by rw [State.nextRef, hscreen]; rfl
  have hjoin : (s.askTouched i rest).joinRoute i tag k (options.getLsbD 1) =
      (({ s.askJoined i tag k (options.getLsbD 1) rest with rcc := m } : State).complete (c.askRef i) r).serve := by
    rw [State.joinRoute, href]
    exact congrArg (fun t : State => (t.release i).serve) hdispatch
  rw [h.exec_eq, if_neg hroom, ← hc, ← hk, hjoin, State.askJoined_eq _ hc, hempty, List.nil_append,
    State.complete_alone (a := .route k (options.getLsbD 1)) (tag := tag)]
  · rw [State.serve_quiet]
    · simp only [Screen.askRef, Vector.getElem_set_self, Vector.set_set]
      rfl
    · exact hquiet
  · exact congrArg Screen.outstanding (Vector.getElem_set_self i.isLt)

/-- The record of a cached route for the requester: that of R105, its first step turned (05 R95, R96). -/
theorem State.askJoined_finalise (explicit : Bool) {r : ComposedRoute} {y : RouteStep} {ys : List RouteStep}
    (hsteps : r.steps = y :: ys) :
    (s.askJoined i tag k explicit rest).finalise i explicit true r =
      { fromCache := true, detour := r.detour
        destinationClosed := decide (r.key.kind = .listing ∧ (s.listing r.key.number.toNat).status ≠ .opened)
        truncated := r.truncated, explicitOrigin := explicit, key := r.key, entrance := r.entrance
        distance := r.distance, metres := (r.distance + 5) / 10
        seconds := min ((r.time + 9) / 10) 65535
        minutes := (min ((r.time + 9) / 10) 65535 + 59) / 60, levelChanges := r.levelChanges
        steps := { y with turn :=
          (if explicit = true ∨ y.action = .arrive then TurnClass.none
            else turnClass s.screens[i.val].heading r.heading) } :: ys } := by
  have hsame : (s.askJoined i tag k explicit rest).finalise i explicit true r =
      { s.finalise i explicit false r with fromCache := true } := by
    have hheading : (s.askJoined i tag k explicit rest).screens[i.val].heading = s.screens[i.val].heading := by
      simp only [State.askJoined_eq explicit rfl, Vector.getElem_set_self]
    rw [State.finalise, hheading]
    rfl
  rw [hsame, State.finalise_eq s i explicit hsteps]

/-- The number of an asked key is the one that the request carries (09 R153). -/
theorem Screen.askedKey_number (c : Screen) (kind : DestKind) (options profile : Byte) (origin : Nat)
    (hnumber : number < 65536) : (c.askedKey kind number options profile origin).number.toNat = number :=
  Nat.mod_eq_of_lt hnumber

end

/-- Settles O29: a hit, and a HIDDEN listing, are answered by the dispatch itself (State.routeAsked.answered). -/
theorem routeAskAtOnce : Obligations.RouteAskAtOnce := by
  unfold Obligations.RouteAskAtOnce
  intro s i tag kind number options profile origin rest
  refine ⟨fun h c k hc hk => ?served, ?disabled⟩
  case served =>
    have hnumber : k.number.toNat = number := by
      obtain ⟨-, -, -, hnumber, -⟩ := h
      rw [hk, c.askedKey_number kind options profile origin hnumber]
    have hkind : k.kind = kind := by rw [hk]; rfl
    refine ⟨?hit, ?hidden, fun hfull => ?busy⟩
    case hit =>
      rintro e x y ys hempty hquiet hshown hfind rfl hg hclear hsteps
      obtain ⟨-, hkey, -⟩ := CacheState.find_some hfind
      have hnotHidden : ¬ (k.kind = .listing ∧ (s.listing k.number.toNat).status = .hidden) := by
        rw [hkind, hnumber]
        exact fun ⟨hk, hhidden⟩ => hshown hk hhidden
      rw [h.answered hc hk hempty hquiet
        (State.dispatchRoute_hit (s := s.askJoined i tag k (options.getLsbD 1) rest) hnotHidden hfind hg hclear)]
      have hrecord := State.askJoined_finalise (s := s) (i := i) (tag := tag) (k := k) (rest := rest) (options.getLsbD 1) hsteps
      rw [hkey, hkind, hnumber, ← hc] at hrecord
      rw [← hrecord]
      rfl
    case hidden =>
      rintro hempty hquiet hlisting hhidden
      have hhidden' : k.kind = .listing ∧ (s.listing k.number.toNat).status = .hidden := by
        rw [hkind, hnumber]
        exact ⟨hlisting, hhidden⟩
      rw [h.answered hc hk hempty hquiet (m := s.rcc)
        (State.dispatchRoute_hidden (s := s.askJoined i tag k (options.getLsbD 1) rest) hhidden')]
      have hcode : k.kind.code = 0 := by rw [hhidden'.1]; rfl
      simp only [Entry.bytes, routeHeadBytes, hcode, hnumber]
      rfl
    case busy =>
      have hroom : (s.askTouched i rest).hasRoom i = false := by
        rw [State.hasRoom, State.askTouched_screen, ← hc]
        exact decide_eq_false (Nat.not_lt.mpr hfull)
      rw [h.exec_eq, if_pos hroom, hc]
      rfl
  case disabled =>
    intro b p hhead hlen hm hb
    refine whileRunning_screenBound_refused _ hhead (by rw [List.length_cons, hlen]; rfl) (modeGate_serving hm (by decide)) ?_
    rw [field_cons_zero]
    exact State.screenTest_none (hb.imp_right fun ⟨hi, hdisabled⟩ => ⟨i, hi, hdisabled⟩)

end Sys2Proof.Machine
end

section
/-! PROOFS. SEGMENT_SET and LISTING_SET (07 R117 to R124). -/

namespace Sys2Proof.Machine

/-! ## Records of a table replaced (01 R6) -/

/-- To modify a record is to set it to what becomes of the record that is read there (01 R6). -/
theorem modify_eq_set_getD {α : Type} (l : List α) (i : Nat) (f : α → α) (r : α) :
    l.modify i f = l.set i (f (l.getD i r)) := by
  rw [List.modify_eq_set_getElem?, List.getD_eq_getElem?_getD]
  cases hi : l[i]? with
  | none => exact (List.set_eq_of_length_le (List.getElem?_eq_none_iff.mp hi)).symm
  | some x => rfl

/-- A status written is the record of that segment replaced, and the count moved with it (07 R118, R119, R122). -/
theorem MapState.setStatus_eq (m : MapState) (g : Nat) (b : Bool) :
    m.setStatus g b = { m with
      segments := m.segments.set g { m.segments.getD g .reset with closed := b }
      closedCount := if b then m.closedCount + 1 else m.closedCount - 1 } := by
  rw [MapState.setStatus, modify_eq_set_getD _ _ _ .reset]

/-- The hand-over of a closed segment, case by case (06 R110). -/
theorem CacheState.handOver_eq (c : CacheState) (g : Nat) :
    c.handOver g =
      if g ∈ c.sweep then c
      else if c.sweep.length < 8 then
        { c with sweep := c.sweep ++ [g], scan := if c.sweep = [] then some 0 else c.scan }
      else c.flush := by
  simp only [CacheState.handOver, List.contains_iff_mem, List.isEmpty_iff, Config.sweepCapacity]

/-! ## The states after a closure, a reopening and a new listing status -/

section
variable (s : State)

/-- The state after a SEGMENT_SET CLOSED on an OPEN segment: in LOADING without the hand-over (07 R117, R118). -/
def State.afterClosing (g : Nat) : State :=
  { s with
    map := s.map.setStatus g true
    rcc := if s.mod.mode = .loading then s.rcc else s.rcc.handOver g }

/-- The state after a SEGMENT_SET OPEN on a CLOSED segment: in LOADING the generation stays (07 R117, R119 to R121). -/
def State.afterReopening (g : Nat) : State :=
  { s with
    map := { s.map.setStatus g false with
      generation := if s.mod.mode = .loading then s.map.generation else s.map.generation + 1 }
    rcc := if s.mod.mode ≠ .loading ∧ s.map.generation = 65535 then s.rcc.flush else s.rcc
    search := { s.search with
      units := if s.mod.mode ≠ .loading ∧ s.map.generation = 65535 then s.search.units.map SearchUnit.void
        else s.search.units } }

/-- The state with a listing's status replaced (07 R124). -/
def State.withListingStatus (n : Nat) (st : ListingStatus) : State :=
  { s with dir := { s.dir with listings := s.dir.listings.set n { s.listing n with status := st } } }

end

section
variable {s : State} {tag b : Byte} {g n : Nat} {rest : List InFrame} {st : ListingStatus}

/-- A segment closed reads as CLOSED (07 R118). -/
theorem State.afterClosing_closed (hg : g < s.segmentCount) : ((s.afterClosing g).segment g).closed = true := by
  rw [State.segment, State.afterClosing, s.map.setStatus_getD g g true hg, if_pos rfl]

/-- A segment reopened reads as OPEN (07 R119). -/
theorem State.afterReopening_closed (hg : g < s.segmentCount) : ((s.afterReopening g).segment g).closed = false := by
  rw [State.segment, State.afterReopening, s.map.setStatus_getD g g false hg, if_pos rfl]

/-- A reopening in service raises the generation, and at the wrap voids the cache and the units (07 R119 to R121). -/
theorem State.reopenSegment_eq (hm : s.mod.mode ≠ .loading) : s.reopenSegment g = s.afterReopening g := by
  simp only [State.reopenSegment, State.afterReopening, if_neg hm]
  by_cases hwrap : s.map.generation = 65535
  · rw [if_pos hwrap, if_pos ⟨hm, hwrap⟩, if_pos ⟨hm, hwrap⟩]
    rfl
  · rw [if_neg hwrap, if_neg fun h => hwrap h.2, if_neg fun h => hwrap h.2]
    rfl

/-- The status written is the one read (07 R124). -/
theorem State.withListingStatus_status (hn : n < s.listingCount) :
    ((s.withListingStatus n st).listing n).status = st := by
  have hset : n < (s.withListingStatus n st).dir.listings.length := by
    rw [State.withListingStatus, List.length_set]
    exact hn
  rw [State.listing, List.getD_eq_getElem _ _ hset]
  simp only [State.withListingStatus, List.getElem_set_self]

/-- A status that a listing has already changes nothing (07 R124). -/
theorem State.withListingStatus_same (hn : n < s.listingCount) (h : (s.listing n).status = st) :
    s.withListingStatus n st = s := by
  subst h
  have hrecord : s.listing n = s.dir.listings[n]'hn := List.getD_eq_getElem _ _ hn
  have hlistings : s.dir.listings.set n (s.listing n) = s.dir.listings := by
    rw [hrecord]
    exact List.set_getElem_self hn
  exact congrArg (fun l => ({ s with dir := { s.dir with listings := l } } : State)) hlistings

/-! ## What a SEGMENT_SET answers (07 R117) -/

/-- A SEGMENT_SET outside the table or of no status is refused (07 R117). -/
theorem State.segmentSet_badArgument {target : Nat} (hm : s.mod.mode ≠ .checking)
    (h : s.segmentCount ≤ g ∨ 1 < target) : s.segmentSet g target = (s, .badArgument, false) := by
  rw [State.segmentSet, if_neg hm]
  split
  next => rfl
  next htarget => rw [if_pos (h.resolve_right htarget)]

/-- A SEGMENT_SET of the status that the segment has changes nothing (07 R117). -/
theorem State.segmentSet_same (hm : s.mod.mode ≠ .checking) (hg : g < s.segmentCount) {closed : Bool}
    (h : (s.segment g).closed = closed) : s.segmentSet g closed.toNat = (s, .ok, true) := by
  have hcode : closed = (closed.toNat == 1) := by cases closed <;> rfl
  rw [State.segmentSet, if_neg hm, if_neg (Nat.not_lt.mpr closed.toNat_le), if_neg (Nat.not_le.mpr hg),
    if_pos (h.trans hcode)]

/-- A SEGMENT_SET CLOSED on an OPEN segment (07 R117, R118). -/
theorem State.segmentSet_closing (hm : s.mod.mode ≠ .checking) (hg : g < s.segmentCount)
    (h : (s.segment g).closed = false) : s.segmentSet g 1 = (s.afterClosing g, .ok, false) := by
  rw [State.segmentSet, if_neg hm, if_neg (by decide), if_neg (Nat.not_le.mpr hg), if_neg (by rw [h]; decide),
    State.afterClosing]
  split <;> rfl

/-- A SEGMENT_SET OPEN on a CLOSED segment (07 R117, R119 to R121). -/
theorem State.segmentSet_reopening (hm : s.mod.mode ≠ .checking) (hg : g < s.segmentCount)
    (h : (s.segment g).closed = true) : s.segmentSet g 0 = (s.afterReopening g, .ok, false) := by
  rw [State.segmentSet, if_neg hm, if_neg (by decide), if_neg (Nat.not_le.mpr hg), if_neg (by rw [h]; decide)]
  split
  next hloading => simp [State.afterReopening, hloading, MapState.setStatus]
  next hservice => rw [if_neg (by decide), State.reopenSegment_eq hservice]

/-- The reply to a SEGMENT_SET that is not refused carries the segment's status (07 R123). -/
theorem State.segmentSetReply_ok {closed : Bool} (h : (s.segment g).closed = closed) (noChange : Bool) :
    s.segmentSetReply .ok noChange g = [0, noChangeFlags noChange] ++ le 2 g ++ [flagsByte [closed]]
      ++ le 2 s.map.closedCount ++ le 2 s.map.generation.toNat := by
  rw [State.segmentSetReply, h]
  rfl

/-! ## What a LISTING_SET answers (07 R124) -/

/-- The flags byte is 1 where nothing changes, else 0 (07 R123, R124). -/
theorem noChangeFlags_decide (p : Prop) [Decidable p] : noChangeFlags (decide p) = if p then 1 else 0 := by
  split
  next h => rw [decide_eq_true h]; rfl
  next h => rw [decide_eq_false h]; rfl

/-- A status is read back from its code (07 R124). -/
theorem ListingStatus.ofCode_code (st : ListingStatus) : ListingStatus.ofCode st.code = st := by cases st <;> rfl

/-- No status has a code above 2 (07 R124). -/
theorem ListingStatus.code_le (st : ListingStatus) : st.code ≤ 2 := by cases st <;> decide

/-- A LISTING_SET outside the table or of no status is refused (07 R124). -/
theorem State.listingSet_badArgument {target : Nat} (hm : s.mod.mode ≠ .checking)
    (h : s.listingCount ≤ n ∨ 2 < target) : s.listingSet n target = (s, .badArgument, false) := by
  rw [State.listingSet, if_neg hm]
  split
  next => rfl
  next htarget => rw [if_pos (h.resolve_right htarget)]

/-- A LISTING_SET of a status gives the listing that status, with NO_CHANGE where it has it already (07 R124). -/
theorem State.listingSet_replacing (hm : s.mod.mode ≠ .checking) (hn : n < s.listingCount) :
    s.listingSet n st.code = (s.withListingStatus n st, .ok, decide ((s.listing n).status = st)) := by
  rw [State.listingSet, if_neg hm, if_neg (Nat.not_lt.mpr st.code_le), if_neg (Nat.not_le.mpr hn), st.ofCode_code]
  split
  next hsame => rw [State.withListingStatus_same hn hsame, decide_eq_true hsame]
  next hother => rw [modify_eq_set_getD _ _ _ .reset, decide_eq_false hother]; rfl

/-! ## The two requests (07 R117, R124) -/

/-- SEGMENT_SET and LISTING_SET pass the mode gate in every mode (02 R22). -/
theorem modeGate_statusSet (m : Mode) {cls : Byte} (h : cls ∈ ([0x08, 0x09] : List Byte)) : modeGate m cls = true := by
  fin_cases h <;> cases m <;> rfl

/-- The number and the status byte of a SEGMENT_SET or a LISTING_SET. -/
theorem statusSet_fields (b : Byte) (h : n < 65536) :
    field (le 2 n ++ [b]) 0 2 = n ∧ field (le 2 n ++ [b]) 2 1 = b.toNat :=
  ⟨field_le_zero [b] h, field_cons_zero b []⟩

/-- A SEGMENT_SET is answered with what its operation gives (07 R117). -/
theorem exec_segmentSet (h : s.headIs 0x08 tag (le 2 g ++ [b]) rest) (hg : g < 65536) {t : State} {r : ResultCode}
    {noChange : Bool} (hset : (s.taken rest).segmentSet g b.toNat = (t.taken rest, r, noChange)) :
    exec .segmentSet s = .next (t.answered rest 0x88 tag (t.segmentSetReply r noChange g)) := by
  obtain ⟨hnumber, hstatus⟩ := statusSet_fields b hg
  refine (whileRunning_dispatch _ h rfl (by simp [sizeAllowed]) (modeGate_statusSet _ (by decide))).trans ?_
  simp only [hnumber, hstatus, hset]
  rfl

/-- A LISTING_SET is answered with what its operation gives (07 R124). -/
theorem exec_listingSet (h : s.headIs 0x09 tag (le 2 n ++ [b]) rest) (hn : n < 65536) {t : State} {r : ResultCode}
    {noChange : Bool} (hset : (s.taken rest).listingSet n b.toNat = (t.taken rest, r, noChange)) :
    exec .listingSet s = .next (t.answered rest 0x89 tag (listingSetReply s t r noChange n)) := by
  obtain ⟨hnumber, hstatus⟩ := statusSet_fields b hn
  refine (whileRunning_dispatch _ h rfl (by simp [sizeAllowed]) (modeGate_statusSet _ (by decide))).trans ?_
  simp only [hnumber, hstatus, hset]
  rfl

/-- A SEGMENT_SET of the status that the segment has is answered NO_CHANGE (07 R117, R123). -/
theorem exec_segmentSet_same {closed : Bool} (h : s.headIs 0x08 tag (le 2 g ++ [b]) rest) (hg : g < 65536)
    (hb : b.toNat = closed.toNat) (hm : s.mod.mode ≠ .checking) (hcount : g < s.segmentCount)
    (hc : (s.segment g).closed = closed) :
    exec .segmentSet s = .next (s.answered rest 0x88 tag ([0, 1] ++ le 2 g ++ [flagsByte [closed]]
      ++ le 2 s.map.closedCount ++ le 2 s.map.generation.toNat)) := by
  have hset : (s.taken rest).segmentSet g b.toNat = (s.taken rest, .ok, true) := by
    rw [hb]
    exact State.segmentSet_same (s := s.taken rest) hm hcount hc
  rw [exec_segmentSet h hg hset, State.segmentSetReply_ok hc]
  rfl

end

/-- Settles O24: the state after a closure, with the hand-over's three cases written out (CacheState.handOver_eq). -/
theorem segmentClosed : Obligations.SegmentClosed := by
  unfold Obligations.SegmentClosed
  intro s tag g rest h hg hcount hm
  refine ⟨fun hopen => ?closing, fun hclosed => exec_segmentSet_same h hg rfl hm hcount hclosed⟩
  case closing =>
    have hset : (s.taken rest).segmentSet g 1 = ((s.afterClosing g).taken rest, .ok, false) :=
      State.segmentSet_closing (s := s.taken rest) hm hcount hopen
    have hcache : (s.afterClosing g).rcc =
        if s.mod.mode = .loading ∨ g ∈ s.rcc.sweep then s.rcc
        else if s.rcc.sweep.length < 8 then
          { s.rcc with sweep := s.rcc.sweep ++ [g], scan := if s.rcc.sweep = [] then some 0 else s.rcc.scan }
        else s.rcc.flush := by
      rw [State.afterClosing, CacheState.handOver_eq, ite_or]
    have hmap : (s.afterClosing g).map = _ := s.map.setStatus_eq g true
    rw [exec_segmentSet h hg hset, State.segmentSetReply_ok (State.afterClosing_closed hcount), State.answered, hmap,
      hcache]
    rfl

/-- Settles O25: the state after a reopening, NO_CHANGE, and the two refusals. -/
theorem segmentReopened : Obligations.SegmentReopened := by
  unfold Obligations.SegmentReopened
  intro s tag g st rest h hg
  refine ⟨?reopening, ?same, fun hm hbad => ?badArgument, fun hm => ?wrongMode⟩
  case reopening =>
    rintro hm hcount rfl hclosed
    have hset : (s.taken rest).segmentSet g 0 = ((s.afterReopening g).taken rest, .ok, false) :=
      State.segmentSet_reopening (s := s.taken rest) hm hcount hclosed
    rw [exec_segmentSet h hg hset, State.segmentSetReply_ok (State.afterReopening_closed hcount), State.afterReopening,
      MapState.setStatus_eq]
    rfl
  case same =>
    rintro hm hcount rfl hopen
    exact exec_segmentSet_same h hg rfl hm hcount hopen
  case badArgument =>
    exact exec_segmentSet h hg (State.segmentSet_badArgument (s := s.taken rest) hm hbad)
  case wrongMode =>
    exact exec_segmentSet h hg (if_pos hm)

/-- Settles O26: the listing has the status asked for afterwards, and a refusal leaves it. -/
theorem listingSet : Obligations.ListingSet := by
  unfold Obligations.ListingSet
  intro s tag n b rest h hn
  refine ⟨?replacing, fun hm hbad => ?badArgument, fun hm => ?wrongMode⟩
  case replacing =>
    rintro st hm hcount rfl
    have hcode : (BitVec.ofNat 8 st.code).toNat = st.code := by cases st <;> rfl
    have hset : (s.taken rest).listingSet n (BitVec.ofNat 8 st.code).toNat
        = ((s.withListingStatus n st).taken rest, .ok, decide ((s.listing n).status = st)) := by
      rw [hcode]
      exact State.listingSet_replacing (s := s.taken rest) hm hcount
    rw [exec_listingSet h hn hset, listingSetReply, State.withListingStatus_status hcount, noChangeFlags_decide]
    rfl
  case badArgument =>
    exact exec_listingSet h hn (State.listingSet_badArgument (s := s.taken rest) hm hbad)
  case wrongMode =>
    exact exec_listingSet h hn (if_pos hm)

end Sys2Proof.Machine
end

section
/-! PROOFS. The prefix range of the listing table, and the directory's taking of queries (08 R130, R137, R138). -/

namespace Sys2Proof.Machine

/-! ## The prefix range (08 R138) -/

section
variable {s : State} {pfx : List Byte} {ls : List Listing} {j : Nat}

/-- No listing before the range starts with the prefix. -/
theorem startsWith_before_range (h : j < rangeStart pfx ls) : startsWith pfx (ls.getD j .reset) = false := by
  have hj : j < ls.length := Nat.lt_of_lt_of_le h List.findIdx_le_length
  rw [List.getD_eq_getElem _ _ hj]
  simpa using List.not_of_lt_findIdx h

/-- The range stops inside the table. -/
theorem rangeStop_le_length (pfx : List Byte) (ls : List Listing) : rangeStop pfx ls ≤ ls.length := by
  have htake := (List.takeWhile_prefix (startsWith pfx) (l := ls.drop (rangeStart pfx ls))).length_le
  have hstart : rangeStart pfx ls ≤ ls.length := List.findIdx_le_length
  rw [List.length_drop] at htake
  rw [rangeStop]
  omega

/-- Every listing of the range starts with the prefix. -/
theorem startsWith_in_range (hstart : rangeStart pfx ls ≤ j) (hstop : j < rangeStop pfx ls) :
    startsWith pfx (ls.getD j .reset) = true := by
  have hj : j < ls.length := Nat.lt_of_lt_of_le hstop (rangeStop_le_length pfx ls)
  have hplace : j - rangeStart pfx ls < ((ls.drop (rangeStart pfx ls)).takeWhile (startsWith pfx)).length := by
    rw [rangeStop] at hstop
    omega
  have htaken := List.mem_takeWhile_imp (List.getElem_mem hplace)
  rw [(List.takeWhile_prefix _).getElem hplace, List.getElem_drop] at htaken
  rw [List.getD_eq_getElem _ _ hj]
  simpa only [Nat.add_sub_cancel' hstart] using htaken

/-- The listing at which the range stops does not start with the prefix. -/
theorem startsWith_at_rangeStop (h : rangeStop pfx ls < ls.length) :
    startsWith pfx (ls.getD (rangeStop pfx ls) .reset) = false := by
  have hsplit : ls.drop (rangeStop pfx ls) = (ls.drop (rangeStart pfx ls)).dropWhile (startsWith pfx) := by
    rw [rangeStop, ← List.drop_drop]
    exact (congrArg (List.drop _) List.takeWhile_append_dropWhile.symm).trans List.drop_left
  have hhead := List.head?_dropWhile_not (startsWith pfx) (ls.drop (rangeStart pfx ls))
  rw [← hsplit, List.head?_drop, List.getElem?_eq_getElem h] at hhead
  rw [List.getD_eq_getElem _ _ h]
  simpa using hhead

/-- Where a listing starts with the prefix the range begins at such a listing. -/
theorem range_nonempty (h : ∃ l ∈ ls, startsWith pfx l = true) : rangeStart pfx ls < rangeStop pfx ls := by
  have hlt : rangeStart pfx ls < ls.length := List.findIdx_lt_length_of_exists h
  have hfirst : startsWith pfx (ls[rangeStart pfx ls]'hlt) = true := List.findIdx_getElem
  rw [rangeStop, List.drop_eq_getElem_cons hlt, List.takeWhile_cons_of_pos hfirst, List.length_cons]
  omega

/-- The range is the run of listings from the first whose key starts with the prefix (08 R138). -/
theorem State.prefixRun_range (h : ∃ l ∈ s.dir.listings, startsWith pfx l = true) :
    s.PrefixRun pfx (rangeStart pfx s.dir.listings) (rangeStop pfx s.dir.listings) :=
  ⟨range_nonempty h, rangeStop_le_length _ _, fun _ hj => startsWith_before_range hj,
    fun _ hstart hstop => startsWith_in_range hstart hstop, startsWith_at_rangeStop⟩

/-- A prefix run depends on the listing table alone. -/
theorem State.PrefixRun.of_listings {t : State} {a b : Nat} (h : s.PrefixRun pfx a b)
    (hlistings : t.dir.listings = s.dir.listings) : t.PrefixRun pfx a b := by
  simpa only [State.PrefixRun, State.listingCount, State.listing, hlistings] using h

end

/-! ## The query that becomes the scan (08 R137) -/

section
variable {s : State} {q : Query} {waiting : List Query} {a b : Nat}

/-- A query taken as the scan over the listings from `a` to before `b`. -/
def Query.scanOver (q : Query) (a b : Nat) : Scan :=
  { query := q, position := a, stop := b, total := 0, kept := [], nextSymbols := 0, detached := false }

/-- The scan that a query becomes runs over its prefix run. -/
theorem scanOf_eq_scanOver (hrun : s.PrefixRun q.pfx a b) : scanOf q s.dir.listings = q.scanOver a b := by
  rw [scanOf, rangeStart_eq hrun, rangeStop_eq hrun, Query.scanOver]

/-- A directory without a scan takes the oldest query whose range holds a listing, and the others wait on. -/
theorem State.takeQueries_taken (hscan : s.dir.scan = none) (hrun : s.PrefixRun q.pfx a b) :
    s.takeQueries (q :: waiting) =
      { s with dir := { s.dir with queue := waiting, scan := some (q.scanOver a b) } } := by
  have hpos : (q.scanOver a b).position < (q.scanOver a b).stop := hrun.1
  simp only [State.takeQueries, hscan, scanOf_eq_scanOver hrun, if_pos hpos]
  rw [State.takeQueries_busy _ waiting (q.scanOver a b) rfl]

/-- The content of a query that no listing matches. -/
def Query.noMatch (q : Query) : MatchList := { total := 0, offset := q.offset, nextSymbols := 0, records := [] }

/-- A directory without a scan completes a query whose range is empty at once, and goes on to the next. -/
theorem State.takeQueries_emptyRange (hscan : s.dir.scan = none)
    (hnone : ∀ l ∈ s.dir.listings, startsWith q.pfx l = false) :
    s.takeQueries (q :: waiting) = (s.complete q.ref (.matched q.noMatch)).takeQueries waiting := by
  have hpos : ¬ (scanOf q s.dir.listings).position < (scanOf q s.dir.listings).stop := range_empty hnone
  simp only [State.takeQueries, hscan, if_neg hpos]
  rfl

/-- What becomes of the queue and the scan where the scan has ended: no query waits, or the oldest one's range holds a
listing and it becomes the scan (08 R137). -/
def State.TakesNext (s : State) (waiting : List Query) (next : Option Scan) : Prop :=
  (s.dir.queue = [] ∧ waiting = [] ∧ next = none)
    ∨ ∃ q a b, s.dir.queue = q :: waiting ∧ s.PrefixRun q.pfx a b ∧ next = some (q.scanOver a b)

/-- A directory whose scan has ended takes the next query. -/
theorem State.serveDirectory_next {next : Option Scan} (hscan : s.dir.scan = none) (h : s.TakesNext waiting next) :
    s.serveDirectory = { s with dir := { s.dir with queue := waiting, scan := next } } := by
  obtain ⟨hqueue, rfl, rfl⟩ | ⟨q, a, b, hqueue, hrun, rfl⟩ := h
  · rw [State.serveDirectory, hqueue, State.takeQueries, ← hscan]
  · rw [State.serveDirectory, hqueue, State.takeQueries_taken hscan hrun]

end

end Sys2Proof.Machine
end

section
/-! PROOFS. DIRECTORY_EXAMINATION (08 R139 to R143). -/

namespace Sys2Proof.Machine

section
variable {s : State} {c : Scan}

/-- The state whose directory holds no scan. -/
def State.unscanned (s : State) : State := { s with dir := { s.dir with scan := none } }

/-- The row is the model's examination of one listing. -/
theorem exec_directoryExamination (hlow : s.resetLow = false) :
    exec .directoryExamination s = .next s.examineListing := by
  have hexec : exec .directoryExamination s = whileRunning s State.examineListing := rfl
  rw [hexec, whileRunning_high hlow]

/-- A detached scan is abandoned at its examination (08 R143). -/
theorem State.examineListing_detached (hscan : s.dir.scan = some c) (h : c.detached = true) :
    s.examineListing = s.unscanned.serveDirectory := by
  simp only [State.examineListing, hscan, h, if_true]
  rfl

/-- An examination that is not the last of the range leaves the scan in hand (08 R139). -/
theorem State.examineListing_goesOn (hscan : s.dir.scan = some c) (h : c.detached = false)
    (hmore : c.position + 1 < c.stop) :
    s.examineListing = { s with dir := { s.dir with scan := some (c.examine (s.listing c.position)) } } := by
  have hpos : (c.examine (s.listing c.position)).position < (c.examine (s.listing c.position)).stop := by
    simp only [Scan.examine]
    split <;> exact hmore
  simp only [State.examineListing, hscan, h, Bool.false_eq_true, if_false, if_pos hpos]

/-- The last examination of the range completes the query (08 R141). -/
theorem State.examineListing_ends (hscan : s.dir.scan = some c) (h : c.detached = false)
    (hlast : c.stop ≤ c.position + 1) :
    s.examineListing =
      (s.unscanned.complete c.query.ref (.matched (c.examine (s.listing c.position)).content)).serveDirectory := by
  have hpos : ¬ (c.examine (s.listing c.position)).position < (c.examine (s.listing c.position)).stop := by
    simp only [Scan.examine]
    split <;> exact Nat.not_lt.mpr hlast
  simp only [State.examineListing, hscan, h, Bool.false_eq_true, if_false, if_neg hpos]
  rfl

/-- An examination changes no scan's query. -/
theorem Scan.examine_query (c : Scan) (l : Listing) : (c.examine l).query = c.query := by
  simp only [Scan.examine]
  split <;> rfl

end

/-- Settles O31: the examination goes on, completes the query or abandons the scan, and then the directory takes the next
query (State.serveDirectory_next). -/
theorem directoryExamination : Obligations.DirectoryExamination := by
  unfold Obligations.DirectoryExamination
  rintro s c d l hlow hscan rfl hd
  obtain rfl : d = c.examine (s.listing c.position) := by
    rw [hd, Scan.examine]
    split <;> rfl
  rw [exec_directoryExamination hlow]
  refine ⟨fun hheld hmore => ?goesOn, ?ends, ?abandoned, ?emptyRange⟩
  case goesOn =>
    rw [State.examineListing_goesOn hscan hheld hmore]
  case ends =>
    intro tag off waiting next hheld hlast hnext hlist
    rw [State.examineListing_ends hscan hheld hlast, State.complete_alone (s := s.unscanned) _ hlist,
      State.serveDirectory_next (waiting := waiting) (next := next)]
    · simp only [Entry.bytes, MatchList.toBytes, Scan.content, Scan.examine_query]
      rfl
    · rfl
    · exact hnext
  case abandoned =>
    intro waiting next hleft hnext
    rw [State.examineListing_detached hscan hleft, State.serveDirectory_next (waiting := waiting) (next := next)]
    · rfl
    · rfl
    · exact hnext
  case emptyRange =>
    rintro q tag off x hleft hqueue hnone rfl hlist
    have hqueue' : s.unscanned.dir.queue = [q] := hqueue
    rw [State.examineListing_detached hscan hleft, State.serveDirectory, hqueue',
      State.takeQueries_emptyRange (s := s.unscanned) rfl hnone, State.complete_alone (s := s.unscanned) _ hlist]
    simp only [State.takeQueries, Entry.bytes, MatchList.toBytes, Query.noMatch]
    rfl

end Sys2Proof.Machine
end

section
/-! PROOFS. DIRECTORY_ASK (08 R132, R133). -/

namespace Sys2Proof.Machine

section
variable {s : State} {i : Fin 4} {tag o len m : Byte} {symbols terms : List Byte} {off : Nat} {rest : List InFrame}
  {c d : Screen} {q : Query}

/-! ## The request (08 R132) -/

/-- A field behind a list in front is a field of what follows. -/
theorem field_append_skip (l p : List Byte) (n k : Nat) : field (l ++ p) (l.length + n) k = field p n k := by
  rw [field, field, List.drop_length_add_append]

/-- The payload of a DIRECTORY_ASK. -/
def directoryPayload (i : Fin 4) (o len : Byte) (symbols : List Byte) (off : Nat) (m : Byte) (terms : List Byte) :
    List Byte :=
  [BitVec.ofNat 8 i.val, o, len] ++ symbols ++ le 2 off ++ [m] ++ terms

/-- The fields of a DIRECTORY_ASK (11 R191). -/
theorem directoryPayload_fields (i : Fin 4) (o len m : Byte) (terms : List Byte) (hsymbols : symbols.length = 16)
    (hoff : off < 65536) :
    let p := directoryPayload i o len symbols off m terms
    field p 0 1 = i.val ∧ byteAt p 1 = o ∧ field p 2 1 = len.toNat ∧ p.drop 3 = symbols ++ (le 2 off ++ m :: terms)
      ∧ field p 19 2 = off ∧ field p 21 1 = m.toNat ∧ p.drop 22 = terms := by
  have hp : directoryPayload i o len symbols off m terms =
      BitVec.ofNat 8 i.val :: o :: len :: (symbols ++ (le 2 off ++ m :: terms)) := by
    simp [directoryPayload]
  have hi : (BitVec.ofNat 8 i.val).toNat = i.val := Nat.mod_eq_of_lt (by omega)
  have hbehind (n k : Nat) : field (symbols ++ (le 2 off ++ m :: terms)) (16 + n) k = field (le 2 off ++ m :: terms) n k := by
    rw [← hsymbols, field_append_skip]
  rw [hp]
  refine ⟨(field_cons_zero _ _).trans hi, rfl, field_cons_zero _ _, rfl, (hbehind 0 2).trans (field_le_zero _ hoff),
    (hbehind 2 1).trans (field_cons_zero _ _), ?_⟩
  have hdrop := List.drop_length_add_append (l₁ := symbols) (l₂ := le 2 off ++ m :: terms) 3
  rwa [hsymbols] at hdrop

/-- A DIRECTORY_ASK for an enabled screen stands at the head of the inbound queue in SERVICE or FROZEN. -/
structure State.QueryAsked (s : State) (i : Fin 4) (tag o len m : Byte) (symbols terms : List Byte) (off : Nat)
    (rest : List InFrame) : Prop where
  head : s.headIs 0x0C tag (directoryPayload i o len symbols off m terms) rest
  symbols_length : symbols.length = 16
  terms_length : terms.length = 16
  offset_lt : off < 65536
  serving : s.mod.mode.serving = true
  enabled : s.screens[i.val].enabled = true

/-- The query that a DIRECTORY_ASK makes for a screen (08 R133). -/
def Screen.askedQuery (c : Screen) (i : Fin 4) (o len m : Byte) (symbols terms : List Byte) (off : Nat) : Query :=
  { ref := { screen := i, id := c.nextId }, pfx := symbols.take len.toNat
    terms := if o.getLsbD 0 then c.terms else termsOfBytes terms
    offset := BitVec.ofNat 16 off, maximum := m.toNat }

/-- A DIRECTORY_ASK restarts the session of its screen and is judged by the directory's tests (09 R148, R152). -/
theorem State.QueryAsked.exec_eq (h : s.QueryAsked i tag o len m symbols terms off rest) :
    exec .directoryAsk s = .next ((s.askTouched i rest).askDirectory i tag (directoryPayload i o len symbols off m terms)) := by
  obtain ⟨hhead, hsymbols, hterms, hoff, hserving, henabled⟩ := h
  obtain ⟨hi, -⟩ := directoryPayload_fields i o len m terms hsymbols hoff
  have hsize : sizeAllowed 0x0C (directoryPayload i o len symbols off m terms).length = true := by
    simp [directoryPayload, hsymbols, hterms, le, sizeAllowed]
  refine (whileRunning_dispatch _ hhead rfl hsize (modeGate_serving hserving (by decide))).trans ?_
  rw [State.screenBound_enabled (s := s.taken rest) _ hi henabled, State.touchSession_enabled (s := s.taken rest) henabled]
  rfl

/-- A prefix symbol is valid from 1 to 40 (08 R132). -/
theorem symbolValid_iff (b : Byte) : symbolValid b = true ↔ 1 ≤ b.toNat ∧ b.toNat ≤ 40 := decide_eq_true_iff

/-- A prefix or a maximum out of range is refused (08 R132). -/
theorem State.QueryAsked.refused (h : s.QueryAsked i tag o len m symbols terms off rest)
    (hbad : 16 < len.toNat ∨ (∃ b ∈ symbols.take len.toNat, b.toNat = 0 ∨ 40 < b.toNat) ∨ m.toNat = 0 ∨ 16 < m.toNat) :
    exec .directoryAsk s = .next ((s.askTouched i rest).refuse 0x0C tag .badArgument) := by
  obtain ⟨-, -, hlen, hdrop, -, hmax, -⟩ := directoryPayload_fields i o len m terms h.symbols_length h.offset_lt
  rw [h.exec_eq, State.askDirectory]
  simp only [hlen, hdrop, hmax]
  by_cases hlong : 16 < len.toNat
  · rw [if_pos hlong]
  rw [if_neg hlong, List.take_append_of_le_length (by rw [h.symbols_length]; omega)]
  obtain ⟨b, hb, hout⟩ | hmax := hbad.resolve_left hlong
  · rw [if_pos]
    refine List.all_eq_false.mpr ⟨b, hb, ?_⟩
    rw [symbolValid_iff]
    omega
  · rw [if_pos (show ¬ (1 ≤ m.toNat ∧ m.toNat ≤ 16) by omega), ite_self]

/-- The state in which the query is dispatched: its entry has joined the screen's list (09 R150). -/
def State.queryJoined (s : State) (i : Fin 4) (tag : Byte) (off : Nat) (rest : List InFrame) : State :=
  (s.askTouched i rest).join i (.host tag) (.directory (BitVec.ofNat 16 off)) none

/-- The prefix and the maximum of a DIRECTORY_ASK are in range (08 R132). -/
def QueryInRange (len m : Byte) (symbols : List Byte) : Prop :=
  len.toNat ≤ 16 ∧ (∀ b ∈ symbols.take len.toNat, 1 ≤ b.toNat ∧ b.toNat ≤ 40) ∧ 1 ≤ m.toNat ∧ m.toNat ≤ 16

/-- A query whose prefix and maximum are in range: BUSY on a full list, and else it joins and is dispatched (08 R132). -/
theorem State.QueryAsked.accepted (h : s.QueryAsked i tag o len m symbols terms off rest)
    (hrange : QueryInRange len m symbols) :
    exec .directoryAsk s = .next (if (s.askTouched i rest).hasRoom i = false then (s.askTouched i rest).refuse 0x0C tag .busy
      else (((s.queryJoined i tag off rest).dispatchQuery
        (s.screens[i.val].askedQuery i o len m symbols terms off)).release i).serve) := by
  obtain ⟨hlong, hpfx, hmin, hmost⟩ := hrange
  obtain ⟨-, hoptions, hlen, hdrop, hoff, hmax, hterms⟩ :=
    directoryPayload_fields i o len m terms h.symbols_length h.offset_lt
  have hvalid : ¬ (symbols.take len.toNat).all symbolValid = false := by
    rw [Bool.not_eq_false, List.all_eq_true]
    exact fun b hb => (symbolValid_iff b).mpr (hpfx b hb)
  rw [h.exec_eq, State.askDirectory]
  simp only [hoptions, hlen, hdrop, hoff, hmax, hterms, State.askedTerms, State.nextRef, State.askTouched_screen]
  rw [List.take_append_of_le_length (by rw [h.symbols_length]; omega), if_neg (by omega), if_neg hvalid,
    if_neg (not_not.mpr ⟨hmin, hmost⟩)]
  rfl

/-! ## The entry that has joined (09 R150, R151) -/

/-- The screen whose list the query's entry has joined. -/
def Screen.askingQuery (c : Screen) (tag : Byte) (off : Nat) : Screen :=
  { c with active := true, idle := some 0, nextId := c.nextId + 1
           outstanding := c.outstanding ++
            [{ id := c.nextId, asker := .host tag, ask := .directory (BitVec.ofNat 16 off), result := none }] }

/-- The head frame has left the inbound queue, with this screen and this directory after it. -/
def State.queryPlaced (s : State) (i : Fin 4) (d : Screen) (rest : List InFrame) (x : DirState) : State :=
  { s.taken rest with screens := s.screens.set i.val d, dir := x }

/-- The screens once the entry has joined. -/
theorem State.queryJoined_eq (hc : c = s.screens[i.val]) (hd : d = c.askingQuery tag off) :
    s.queryJoined i tag off rest = s.queryPlaced i d rest s.dir := by
  subst hc hd
  simp [State.queryJoined, State.queryPlaced, State.askTouched, State.join, State.onScreen, Screen.askingQuery]

/-- An entry that is not DONE, at the young end of a list whose head waits, leaves the head waiting. -/
theorem Screen.headWaits_append {e : Entry} (hwaits : c.headWaits) (he : e.result = none)
    (hlist : d.outstanding = c.outstanding ++ [e]) : d.headWaits := by
  intro x hx
  rw [hlist] at hx
  cases hl : c.outstanding with
  | nil =>
    rw [hl, List.nil_append, List.head?_cons, Option.some.injEq] at hx
    rw [← hx, he]
  | cons y ys =>
    rw [hl, List.cons_append, List.head?_cons] at hx
    exact hwaits x (by rw [hl, List.head?_cons, hx])

/-- A query that finds room in its screen's list joins it and is dispatched (08 R132). -/
theorem State.QueryAsked.joins (h : s.QueryAsked i tag o len m symbols terms off rest)
    (hrange : QueryInRange len m symbols) (hc : c = s.screens[i.val])
    (hq : q = c.askedQuery i o len m symbols terms off) (hd : d = c.askingQuery tag off)
    (hroom : c.outstanding.length < 4) :
    exec .directoryAsk s = .next (((s.queryPlaced i d rest s.dir).dispatchQuery q).release i).serve := by
  rw [h.accepted hrange, ← hc, ← hq, State.queryJoined_eq hc hd, if_neg]
  simpa [State.hasRoom, State.askTouched_screen, ← hc, Config.outstandingCapacity] using hroom

/-- A query of valid terms joins the query queue, no result of its screen is released, and the directory takes what it can
(08 R133, R137). -/
theorem State.QueryAsked.queued (h : s.QueryAsked i tag o len m symbols terms off rest)
    (hrange : QueryInRange len m symbols) (hc : c = s.screens[i.val])
    (hq : q = c.askedQuery i o len m symbols terms off) (hd : d = c.askingQuery tag off)
    (hroom : c.outstanding.length < 4) (hwaits : c.headWaits) (hvalid : termsValid q.terms = true)
    (hrco : s.rco.queue = []) (hsearch : ∀ e ∈ s.search.queue, e.unit ≠ none) :
    exec .directoryAsk s = .next ((s.queryPlaced i d rest { s.dir with queue := s.dir.queue ++ [q] }).takeQueries
      (s.dir.queue ++ [q])) := by
  obtain ⟨t, ht⟩ : ∃ t, t = s.queryPlaced i d rest { s.dir with queue := s.dir.queue ++ [q] } := ⟨_, rfl⟩
  have hjoin : (s.queryPlaced i d rest s.dir).dispatchQuery q = t := by
    rw [State.dispatchQuery, if_pos hvalid, ht]
    rfl
  have hrelease : t.release i = t := by
    have hscreen : t.screens[i.val] = d := by rw [ht, State.queryPlaced, Vector.getElem_set_self]
    refine State.release_of_headWaits ?_
    rw [hscreen, hd]
    exact Screen.headWaits_append
      (e := { id := c.nextId, asker := .host tag, ask := .directory (BitVec.ofNat 16 off), result := none }) hwaits rfl rfl
  have hserve : t.serve = t.takeQueries t.dir.queue := by
    refine State.serve_queries ?_ ?_
    · rw [ht]
      exact hrco
    · rw [ht]
      exact hsearch
  rw [h.joins hrange hc hq hd hroom, hjoin, hrelease, hserve, ht]
  rfl

/-- The query's entry, alone on its list, is completed: it leaves as its reply (09 R151). -/
theorem State.queryPlaced_complete (hd : d = c.askingQuery tag off) (hempty : c.outstanding = [])
    (hq : q.ref = { screen := i, id := c.nextId }) (x : DirState) (r : EntryResult) :
    (s.queryPlaced i d rest x).complete q.ref r = { s with
      link := { s.link with
        inbound := rest
        replies := s.link.replies ++
          [{ cls := 0x8C, tag := tag, resets := false, release := some (i, c.released)
             payload := Entry.bytes i
              { id := c.nextId, asker := .host tag, ask := .directory (BitVec.ofNat 16 off), result := some r } r }] }
      dir := x
      screens := s.screens.set i.val
        { c with active := true, idle := some 0, nextId := c.nextId + 1, released := c.released + 1 } } := by
  have hlist : (s.queryPlaced i d rest x).screens[i.val].outstanding =
      [{ id := c.nextId, asker := .host tag, ask := .directory (BitVec.ofNat 16 off), result := none }] := by
    rw [State.queryPlaced, Vector.getElem_set_self, hd, Screen.askingQuery, hempty, List.nil_append]
  rw [hq, State.complete_alone r hlist]
  simp only [State.queryPlaced, Vector.getElem_set_self, Vector.set_set, hd, Screen.askingQuery, hempty]
  rfl

end

/-- Settles O30: a query in range joins and the directory takes what it can (State.QueryAsked.queued), but for one of an
invalid term, whose entry is DONE as it joins. -/
theorem directoryAsk : Obligations.DirectoryAsk := by
  unfold Obligations.DirectoryAsk
  rintro s i tag o len m symbols terms off rest hhead hsymbols hterms hoff hserving henabled c d q hc hq rfl
  have h : s.QueryAsked i tag o len m symbols terms off rest := ⟨hhead, hsymbols, hterms, hoff, hserving, henabled⟩
  have hpfx : q.pfx = symbols.take len.toNat := by rw [hq]
  have href : q.ref = { screen := i, id := c.nextId } := by rw [hq]
  refine ⟨fun hbad => ?refused, fun hlong hvalid hmin hmost => ?_⟩
  case refused =>
    rw [h.refused (hpfx ▸ hbad), hc]
    rfl
  have hrange : QueryInRange len m symbols := ⟨hlong, hpfx ▸ hvalid, hmin, hmost⟩
  refine ⟨fun hfull => ?busy, fun hroom hwaits hterms hscan hrco hsearch => ?waits,
    fun hroom hwaits hterms hscan ⟨hrco, hdir, hsearch⟩ hsome => ?scans, fun r hempty hscan hquiet hr => ?atOnce⟩
  case busy =>
    rw [h.accepted hrange, if_pos, hc]
    · rfl
    · simpa [State.hasRoom, State.askTouched_screen, ← hc, Config.outstandingCapacity] using hfull
  case waits =>
    obtain ⟨z, hz⟩ := Option.ne_none_iff_exists'.mp hscan
    rw [h.queued hrange hc hq rfl hroom hwaits hterms hrco hsearch, State.takeQueries_busy _ _ z]
    · rfl
    · exact hz
  case scans =>
    have hrun := State.prefixRun_range hsome
    refine ⟨_, _, hrun, ?_⟩
    rw [h.queued hrange hc hq rfl hroom hwaits hterms hrco hsearch, hdir, List.nil_append,
      State.takeQueries_taken (a := rangeStart q.pfx s.dir.listings) (b := rangeStop q.pfx s.dir.listings), ← hdir]
    · rfl
    · exact hscan
    · exact hrun.of_listings rfl
  case atOnce =>
    have hroom : c.outstanding.length < 4 := by rw [hempty]; decide
    have hwaits : c.headWaits := by simp [Screen.headWaits, hempty]
    have hoffset : (BitVec.ofNat 16 off).toNat = off := Nat.mod_eq_of_lt hoff
    obtain ⟨hterms, hnone, rfl⟩ | ⟨hterms, rfl⟩ := hr
    · obtain ⟨hrco, hdir, hsearch⟩ := hquiet
      have hoff' : q.offset.toNat = off := by rw [hq, hoffset]
      rw [h.queued hrange hc hq rfl hroom hwaits hterms hrco hsearch, hdir, List.nil_append,
        State.takeQueries_emptyRange, State.queryPlaced_complete rfl hempty href, State.takeQueries,
        ← hdir]
      · simp only [Entry.bytes, MatchList.toBytes, Query.noMatch, hoff']
        rfl
      · exact hscan
      · exact hnone
    · have hdone : ((s.queryPlaced i (c.askingQuery tag off) rest s.dir).dispatchQuery q).release i =
          (s.queryPlaced i (c.askingQuery tag off) rest s.dir).complete q.ref (.bare .badFilter) := by
        rw [State.dispatchQuery, if_neg (by simp [hterms]), State.complete, href]
      rw [h.joins hrange hc hq rfl hroom, hdone, State.queryPlaced_complete rfl hempty href,
        State.serve_quiet]
      · simp only [Entry.bytes, emptyMatchBytes, hoffset]
        rfl
      · exact hquiet

end Sys2Proof.Machine
end

section
/-! PROOFS. What a directory scan finds (08 R130, R134 to R140). -/

namespace Sys2Proof.Machine

/-! ## The order of the keys (08 R130) -/

section
variable {pfx lo mid hi : List Byte} {ls : List Listing}

/-- One key sorts before another where its codes come first in the order of lists. -/
theorem sortsBefore_iff (as bs : List Byte) :
    sortsBefore as bs = true ↔ as.map (·.toNat) < bs.map (·.toNat) := by
  induction as generalizing bs with
  | nil => cases bs <;> simp [sortsBefore]
  | cons a as ih =>
    cases bs with
    | nil => simp [sortsBefore]
    | cons b bs => simp [sortsBefore, ih, List.cons_lt_cons_iff, BitVec.toNat_inj]

/-- A key that does not sort before another stands at it or behind it. -/
theorem sortsBefore_eq_false_iff (as bs : List Byte) :
    sortsBefore as bs = false ↔ bs.map (·.toNat) ≤ as.map (·.toNat) := by
  rw [← Bool.not_eq_true, sortsBefore_iff, not_lt]

/-- A key that stands between two keys with a prefix has it too. -/
theorem prefix_between (hlo : pfx <+: lo) (hhi : pfx <+: hi) (hbelow : sortsBefore mid lo = false)
    (habove : sortsBefore hi mid = false) : pfx <+: mid := by
  induction pfx generalizing lo mid hi with
  | nil => exact List.nil_prefix
  | cons x xs ih =>
    obtain ⟨lo', rfl, hlo'⟩ := List.cons_prefix_iff.mp hlo
    obtain ⟨hi', rfl, hhi'⟩ := List.cons_prefix_iff.mp hhi
    cases mid with
    | nil => simp [sortsBefore] at hbelow
    | cons y ys =>
      simp only [sortsBefore, Bool.or_eq_false_iff, decide_eq_false_iff_not] at hbelow habove
      obtain rfl : x = y := BitVec.eq_of_toNat_eq (by omega)
      simp only [BEq.rfl, Bool.true_and] at hbelow habove
      exact List.cons_prefix_cons.mpr ⟨rfl, ih hlo' hhi' hbelow.2 habove.2⟩

/-- The listing table holds its records in key order (08 R130). -/
def KeysInOrder (ls : List Listing) : Prop :=
  ∀ n, n + 1 < ls.length →
    sortsBefore (keySymbols (ls.getD (n + 1) .reset).key) (keySymbols (ls.getD n .reset).key) = false

/-- In a table in key order no record sorts before an earlier one. -/
theorem KeysInOrder.not_before (h : KeysInOrder ls) {i j : Nat} (hij : i ≤ j) (hj : j < ls.length) :
    sortsBefore (keySymbols (ls.getD j .reset).key) (keySymbols (ls.getD i .reset).key) = false := by
  induction j, hij using Nat.le_induction with
  | base =>
    rw [sortsBefore_eq_false_iff]
  | succ j hij ih =>
    have hstep := h j hj
    have hbefore := ih (by omega)
    rw [sortsBefore_eq_false_iff] at hstep hbefore ⊢
    exact hbefore.trans hstep

/-- A listing between two whose keys start with a prefix starts with it too, in a table in key order (08 R130). -/
theorem KeysInOrder.startsWith_between (h : KeysInOrder ls) {i j k : Nat} (hij : i ≤ j) (hjk : j ≤ k)
    (hk : k < ls.length) (hi : startsWith pfx (ls.getD i .reset) = true) (hend : startsWith pfx (ls.getD k .reset) = true) :
    startsWith pfx (ls.getD j .reset) = true := by
  rw [startsWith, List.isPrefixOf_iff_prefix] at hi hend ⊢
  exact prefix_between hi hend (h.not_before hij (by omega)) (h.not_before hjk hk)

/-- In a table in key order the range holds every listing whose key starts with the prefix, and no other (08 R138). -/
theorem KeysInOrder.startsWith_iff_in_range (h : KeysInOrder ls) {j : Nat} (hj : j < ls.length) :
    startsWith pfx (ls.getD j .reset) = true ↔ rangeStart pfx ls ≤ j ∧ j < rangeStop pfx ls := by
  refine ⟨fun hstarts => ?_, fun ⟨hstart, hstop⟩ => startsWith_in_range hstart hstop⟩
  have hstart : rangeStart pfx ls ≤ j := by
    by_contra hbefore
    rw [startsWith_before_range (by omega)] at hstarts
    exact Bool.false_ne_true hstarts
  refine ⟨hstart, ?_⟩
  by_contra hbehind
  have hsome : ∃ l ∈ ls, startsWith pfx l = true :=
    ⟨ls.getD j .reset, by rw [List.getD_eq_getElem _ _ hj]; exact List.getElem_mem hj, hstarts⟩
  have hnonempty := range_nonempty hsome
  have hfirst := startsWith_in_range (Nat.le_refl _) hnonempty
  have hat := h.startsWith_between hnonempty.le (by omega) hj hfirst hstarts
  rw [startsWith_at_rangeStop (by omega)] at hat
  exact Bool.false_ne_true hat

end

/-! ## The examinations of a range (08 R139, R140) -/

section
variable {c : Scan} {q : Query} {l : Listing} {ls : List Listing} {found : List Nat}

/-- A listing counts for a query: it is not HIDDEN and passes the query's terms (08 R139). -/
def Query.finds (q : Query) (l : Listing) : Bool := decide (l.status ≠ .hidden) && passesTerms q.terms l

/-- An examination of a listing that counts. -/
theorem Scan.examine_found (h : c.query.finds l = true) :
    c.examine l = { c.count c.position l with position := c.position + 1 } := by
  have h' : l.status ≠ .hidden ∧ passesTerms c.query.terms l = true := by simpa [Query.finds] using h
  simp only [Scan.examine, if_pos h', Scan.count]

/-- An examination of a listing that does not count. -/
theorem Scan.examine_passed (h : c.query.finds l = false) : c.examine l = { c with position := c.position + 1 } := by
  have h' : ¬ (l.status ≠ .hidden ∧ passesTerms c.query.terms l = true) := by simpa [Query.finds] using h
  simp only [Scan.examine, if_neg h']

/-- No symbol of a key is 0 (08 R130). -/
theorem ne_zero_of_mem_keySymbols {k : Vector Byte 16} {b : Byte} (h : b ∈ keySymbols k) : b ≠ 0 := by
  simpa using List.mem_takeWhile_imp h

/-- The set with a next symbol added has that symbol's flag, and those that it had (08 R140). -/
theorem addNextSymbol_getLsbD (set : BitVec 40) (n : Nat) (l : Listing) (k : Fin 40) :
    (addNextSymbol set n l).getLsbD k.val = true ↔
      set.getLsbD k.val = true ∨ (keySymbols l.key)[n]? = some (BitVec.ofNat 8 (k.val + 1)) := by
  unfold addNextSymbol
  cases hsymbol : (keySymbols l.key)[n]? with
  | none => simp
  | some b =>
    have hpos : 0 < b.toNat := by
      have hb := ne_zero_of_mem_keySymbols (List.mem_of_getElem? hsymbol)
      exact Nat.pos_of_ne_zero fun hzero => hb (BitVec.eq_of_toNat_eq hzero)
    have hflag : (1#40 <<< (b.toNat - 1)).getLsbD k.val = true ↔ b = BitVec.ofNat 8 (k.val + 1) := by
      have hcode : (BitVec.ofNat 8 (k.val + 1)).toNat = k.val + 1 := Nat.mod_eq_of_lt (by omega)
      rw [← BitVec.toNat_inj, hcode]
      simp
      omega
    simp only [BitVec.getLsbD_or, Bool.or_eq_true, hflag, Option.some.injEq]

/-- The window of a list that is one longer: the new element is in it where its place is. -/
theorem window_concat {α : Type} (l : List α) (x : α) (off n : Nat) :
    ((l ++ [x]).drop off).take n =
      if off ≤ l.length ∧ l.length < off + n then (l.drop off).take n ++ [x] else (l.drop off).take n := by
  split
  next h =>
    rw [List.drop_append_of_le_length h.1, List.take_of_length_le (by simp; omega), List.take_of_length_le (by simp; omega)]
  next h =>
    by_cases hoff : off ≤ l.length
    · rw [List.drop_append_of_le_length hoff, List.take_append_of_le_length (by simp; omega)]
    · rw [List.drop_of_length_le (by simp; omega), List.drop_of_length_le (by omega)]

/-- A scan of a query has found these listings of a table: it has counted them, kept the window of them that the query
asks for, and holds the symbols that follow the prefix in their keys (08 R139, R140). -/
structure Scan.HasFound (c : Scan) (q : Query) (ls : List Listing) (found : List Nat) : Prop where
  query : c.query = q
  total : c.total = found.length
  window : c.kept.map (·.index) = (found.drop q.offset.toNat).take q.maximum
  records : ∀ m ∈ c.kept, m.key = (ls.getD m.index .reset).key ∧ m.tenant = (ls.getD m.index .reset).tenant
  symbols : ∀ k : Fin 40, c.nextSymbols.getLsbD k.val = true ↔
    ∃ j ∈ found, (keySymbols (ls.getD j .reset).key)[q.pfx.length]? = some (BitVec.ofNat 8 (k.val + 1))

/-- A scan that begins has found nothing. -/
theorem Query.scanOver_hasFound (q : Query) (a b : Nat) : (q.scanOver a b).HasFound q ls [] :=
  ⟨rfl, rfl, by simp [Query.scanOver], by simp [Query.scanOver], by simp [Query.scanOver]⟩

/-- An examination of a listing that counts finds it. -/
theorem Scan.HasFound.examine_found (h : c.HasFound q ls found) (hfinds : q.finds (ls.getD c.position .reset) = true) :
    (c.examine (ls.getD c.position .reset)).HasFound q ls (found ++ [c.position]) := by
  obtain ⟨rfl, htotal, hwindow, hrecords, hsymbols⟩ := h
  rw [Scan.examine_found hfinds]
  refine ⟨rfl, ?total, ?window, ?records, fun k => ?symbols⟩
  case total => simp [Scan.count, htotal]
  case window =>
    rw [window_concat, ← htotal, ← hwindow]
    simp only [Scan.count]
    split
    · rw [List.map_append]
      rfl
    · rfl
  case records =>
    intro m hm
    simp only [Scan.count] at hm
    split at hm
    · obtain hm | hm := List.mem_append.mp hm
      · exact hrecords m hm
      · rw [List.mem_singleton.mp hm]
        exact ⟨rfl, rfl⟩
    · exact hrecords m hm
  case symbols =>
    simp only [Scan.count, addNextSymbol_getLsbD, hsymbols, List.mem_append, List.mem_singleton, or_and_right, exists_or,
      exists_eq_left]

/-- An examination of a listing that does not count leaves what has been found. -/
theorem Scan.HasFound.examine_passed (h : c.HasFound q ls found) (hpasses : q.finds l = false) :
    (c.examine l).HasFound q ls found := by
  obtain ⟨rfl, htotal, hwindow, hrecords, hsymbols⟩ := h
  rw [Scan.examine_passed hpasses]
  exact ⟨rfl, htotal, hwindow, hrecords, hsymbols⟩

/-- Every examination moves on to the next listing. -/
theorem Scan.examine_position (c : Scan) (l : Listing) : (c.examine l).position = c.position + 1 := by
  cases h : c.query.finds l with
  | true => rw [Scan.examine_found h]
  | false => rw [Scan.examine_passed h]

/-- The scan of a query after its first `n` examinations, made over one table. -/
def Query.scanAfter (q : Query) (ls : List Listing) (a b n : Nat) : Scan :=
  (List.range' a n).foldl (fun c j => c.examine (ls.getD j .reset)) (q.scanOver a b)

/-- The listings that count among the first `n` from `a` on. -/
def Query.foundIn (q : Query) (ls : List Listing) (a n : Nat) : List Nat :=
  (List.range' a n).filter fun j => q.finds (ls.getD j .reset)

/-- The examinations of a range find the listings of it that count (08 R139, R140). -/
theorem Query.scanAfter_hasFound (q : Query) (ls : List Listing) (a b n : Nat) :
    (q.scanAfter ls a b n).position = a + n ∧ (q.scanAfter ls a b n).HasFound q ls (q.foundIn ls a n) := by
  induction n with
  | zero => exact ⟨rfl, q.scanOver_hasFound a b⟩
  | succ n ih =>
    obtain ⟨hposition, hfound⟩ := ih
    have hscan : q.scanAfter ls a b (n + 1) = (q.scanAfter ls a b n).examine (ls.getD (a + n) .reset) := by
      simp [Query.scanAfter, List.range'_concat]
    have hlist : q.foundIn ls a (n + 1) =
        q.foundIn ls a n ++ if q.finds (ls.getD (a + n) .reset) = true then [a + n] else [] := by
      simp only [Query.foundIn, List.range'_concat, Nat.one_mul, List.filter_append, List.filter_cons, List.filter_nil]
    rw [hscan, hlist]
    refine ⟨by rw [Scan.examine_position, hposition, Nat.add_assoc], ?_⟩
    rw [← hposition]
    cases hfinds : q.finds (ls.getD (q.scanAfter ls a b n).position .reset) with
    | true => exact hfound.examine_found hfinds
    | false =>
      rw [if_neg Bool.false_ne_true, List.append_nil]
      exact hfound.examine_passed hfinds

end

/-! ## Filter terms (08 R134 to R136) -/

section
variable {t : Term} {l : Listing}

/-- A test that every empty slot passes is a test of the terms, each by the number of its slot. -/
theorem slots_all_iff (ts : Terms) {slot : Option Term → Bool} {p : Term → Bool} (hnone : slot none = true)
    (hsome : ∀ t, slot (some t) = p t) :
    ts.toList.all slot = true ↔ ∀ (k : Fin 4) (t : Term), ts[k.val] = some t → p t = true := by
  rw [List.all_eq_true]
  constructor
  · intro h k t ht
    rw [← hsome]
    exact h _ (ht ▸ Vector.mem_toList_iff.mpr (Vector.getElem_mem k.isLt))
  · intro h x hx
    obtain ⟨k, hk, rfl⟩ := Vector.mem_iff_getElem.mp (Vector.mem_toList_iff.mp hx)
    cases hslot : ts[k] with
    | none => exact hnone
    | some t => rw [hsome, h ⟨k, hk⟩ t hslot]

/-- The fields, conditions and operands of a valid term (08 R134). -/
theorem Term.valid_iff (t : Term) : t.valid = true ↔
    ((t.field = 1 ∨ t.field = 2) ∧ t.condition.toNat ≤ 5)
      ∨ (t.field = 3 ∧ t.condition.toNat ≤ 1 ∧ t.operand.toNat ≤ 1)
      ∨ (t.field = 4 ∧ 6 ≤ t.condition.toNat ∧ t.condition.toNat ≤ 8) := by
  have hfield (b : Byte) : t.field = b ↔ t.field.toNat = b.toNat := BitVec.toNat_inj.symm
  simp only [hfield, BitVec.toNat_ofNat, BitVec.ofNat_eq_ofNat]
  unfold Term.valid
  split
  next h => simp [h]
  next h => simp [h]
  next h => simp [h]
  next h => simp [h]
  next h1 h2 h3 h4 =>
    simp only [Bool.false_eq_true, false_iff]
    rintro (⟨h | h, -⟩ | ⟨h, -⟩ | ⟨h, -⟩)
    exacts [h1 h, h2 h, h3 h, h4 h]

/-- A CATEGORY, LEVEL or STATUS term compares the listing's value with its operand (08 R135, R136). -/
theorem Term.holds_numeric {x y : Int}
    (h : (t.field = 1 ∧ x = l.category.toNat ∧ y = t.operand.toNat)
      ∨ (t.field = 2 ∧ x = l.level ∧ y = t.operand.toInt)
      ∨ (t.field = 3 ∧ x = l.status.code ∧ y = t.operand.toNat)) :
    t.holds l = compareBy t.condition.toNat x y := by
  obtain ⟨hfield, rfl, rfl⟩ | ⟨hfield, rfl, rfl⟩ | ⟨hfield, rfl, rfl⟩ := h <;> rw [Term.holds, hfield] <;> rfl

/-- An ATTRIBUTES term compares the listing's flags with its mask (08 R136). -/
theorem Term.holds_mask (h : t.field = 4) : t.holds l = maskBy t.condition.toNat l.attributes t.operand := by
  rw [Term.holds, h]
  rfl

/-- Two words of flags are equal where their flags are. -/
theorem flags_eq_iff (x y : BitVec 16) : x = y ↔ ∀ k : Fin 16, x.getLsbD k.val = y.getLsbD k.val :=
  ⟨fun h _ => by rw [h], fun h => BitVec.eq_of_getLsbD_eq fun k hk => h ⟨k, hk⟩⟩

/-- ALL: every flag of the mask is set (08 R136). -/
theorem maskBy_all (flags mask : BitVec 16) : maskBy 6 flags mask = true ↔
    ∀ k : Fin 16, mask.getLsbD k.val = true → flags.getLsbD k.val = true := by
  simp [maskBy, flags_eq_iff]

/-- No flag is common to two words of flags. -/
theorem flags_and_eq_zero_iff (flags mask : BitVec 16) : flags &&& mask = 0 ↔
    ∀ k : Fin 16, mask.getLsbD k.val = true → flags.getLsbD k.val = false := by
  have hzero (k : Fin 16) : (0 : BitVec 16).getLsbD k.val = false := by simp
  simp only [flags_eq_iff, hzero, BitVec.and_comm flags, BitVec.getLsbD_and, Bool.and_eq_false_imp]

/-- NONE: no flag of the mask is set (08 R136). -/
theorem maskBy_none (flags mask : BitVec 16) : maskBy 8 flags mask = true ↔
    ∀ k : Fin 16, mask.getLsbD k.val = true → flags.getLsbD k.val = false := by
  rw [← flags_and_eq_zero_iff]
  exact beq_iff_eq

/-- ANY: a flag of the mask is set (08 R136). -/
theorem maskBy_any (flags mask : BitVec 16) : maskBy 7 flags mask = true ↔
    ∃ k : Fin 16, mask.getLsbD k.val = true ∧ flags.getLsbD k.val = true := by
  have hany : maskBy 7 flags mask = true ↔ ¬ flags &&& mask = 0 := bne_iff_ne
  rw [hany, flags_and_eq_zero_iff]
  simp

end

/-- Settles O32: the range by the order of the keys, the findings by induction on the examinations, and the terms each by
its field and condition. -/
theorem directoryFindsAllMatches : Obligations.DirectoryFindsAllMatches := by
  unfold Obligations.DirectoryFindsAllMatches
  refine ⟨fun pfx ls hordered j hj => ?range, ?findings, fun ts => ?valid, fun ts l => ?passes,
    fun t l => ⟨fun x y hvalues => ?numeric, fun hfield => ?mask⟩⟩
  case range =>
    have hordered' : KeysInOrder ls := hordered
    exact hordered'.startsWith_iff_in_range hj
  case findings =>
    rintro q ls a n c found rfl rfl
    obtain ⟨hposition, hfound⟩ := q.scanAfter_hasFound ls a (a + n) n
    exact ⟨hfound.total, hposition, hfound.window, hfound.records, hfound.symbols⟩
  case valid =>
    simp only [← Term.valid_iff]
    exact slots_all_iff ts rfl fun _ => rfl
  case passes =>
    exact slots_all_iff ts rfl fun _ => rfl
  case numeric =>
    have hholds : t.holds l = compareBy t.condition.toNat x y := Term.holds_numeric (by
      obtain h | h | ⟨hfield, hx, hy⟩ := hvalues
      · exact .inl h
      · exact .inr (.inl h)
      · refine .inr (.inr ⟨hfield, ?_, hy⟩)
        rw [hx]
        cases l.status <;> rfl)
    rw [hholds]
    refine ⟨?_, ?_, ?_, ?_, ?_, ?_⟩ <;> intro hcondition <;> simp [hcondition, compareBy]
  case mask =>
    rw [Term.holds_mask hfield]
    refine ⟨fun hcondition => ?_, fun hcondition => ?_, fun hcondition => ?_⟩ <;> rw [hcondition]
    · exact maskBy_all _ _
    · exact maskBy_any _ _
    · exact maskBy_none _ _

end Sys2Proof.Machine
end

section
/-! PROOFS. What replies, reports, releases and changes of a session keep of the release order, of the report slots and of the
laws of the sessions (09 R146 to R151, 11 R186, R187). -/

namespace Sys2Proof.Machine

/-! ## What is kept -/

/-- From one state to another the release order, the reservation of report slots and the laws of the sessions are kept, and
so is the waiting of the lists' heads, but on the screen `x` whose release is still to come. -/
structure State.KeepsResults (x : Option (Fin 4)) (t s : State) : Prop where
  order : s.ReleaseOrder → t.ReleaseOrder
  slots : s.ReportSlotLaw → t.ReportSlotLaw
  sessions : s.SessionLaw → t.SessionLaw
  heads : ∀ j : Fin 4, x ≠ some j → s.screens[j.val].headWaits → t.screens[j.val].headWaits

/-- Two links hold the same in both outbound queues, on TXD and in reserved report slots. -/
def LinkState.SameOutbound (a b : LinkState) : Prop :=
  a.replies = b.replies ∧ a.reports = b.reports ∧ a.reserved = b.reserved ∧ a.sending = b.sending

section
variable {s t r : State} {x : Option (Fin 4)} {i : Fin 4}

/-- Nothing is lost where nothing happens. -/
theorem State.KeepsResults.refl (s : State) : s.KeepsResults x s := ⟨id, id, id, fun _ _ => id⟩

/-- One event after another. -/
theorem State.KeepsResults.trans (h : t.KeepsResults x s) (k : r.KeepsResults x t) : r.KeepsResults x s :=
  ⟨k.order ∘ h.order, k.slots ∘ h.slots, k.sessions ∘ h.sessions, fun j hj => k.heads j hj ∘ h.heads j hj⟩

/-- Where every head is kept, those of the other screens are. -/
theorem State.KeepsResults.weaken (h : t.KeepsResults none s) : t.KeepsResults x s :=
  ⟨h.order, h.slots, h.sessions, fun j _ => h.heads j nofun⟩

/-- An event that is repeated for the members of a list. -/
theorem State.KeepsResults.foldl {α : Type} {f : State → α → State} (hf : ∀ s a, (f s a).KeepsResults x s) (l : List α)
    (s : State) : (l.foldl f s).KeepsResults x s := by
  induction l generalizing s with
  | nil => exact .refl s
  | cons a l ih => exact (hf s a).trans (ih _)

/-! ## The release order (11 R186) -/

/-- Items that join the queues keep the release order, where each of them holds a place of its screen that is given out with
it, in the order of the places. -/
theorem State.ReleaseOrder.append (h : s.ReleaseOrder) (xs : List (OutQueue × OutItem))
    (hreplies : t.link.replies = s.link.replies ++ itemsOf .replies xs)
    (hreports : t.link.reports = s.link.reports ++ itemsOf .reports xs)
    (hordered : xs.Pairwise fun y z => y.2.before z.2)
    (hplaces : ∀ y ∈ xs, ∀ j n, y.2.release = some (j, n) → s.screens[j.val].released ≤ n ∧ n < t.screens[j.val].released)
    (hreleased : ∀ j : Fin 4, s.screens[j.val].released ≤ t.screens[j.val].released) : t.ReleaseOrder := by
  obtain ⟨⟨history, hr, hp, hpairs⟩, hbound⟩ := h
  have hqueue (q : OutQueue) : itemsOf q (history ++ xs) = itemsOf q history ++ itemsOf q xs := by
    rw [itemsOf, List.filter_append, List.map_append, itemsOf, itemsOf]
  have hmem {y : OutQueue × OutItem} {l : List (OutQueue × OutItem)} (hy : y ∈ l) :
      y.2 ∈ itemsOf .replies l ++ itemsOf .reports l := by
    rw [List.mem_append]
    cases hq : y.1 with
    | replies => exact .inl (List.mem_map_of_mem (List.mem_filter.mpr ⟨hy, decide_eq_true hq⟩))
    | reports => exact .inr (List.mem_map_of_mem (List.mem_filter.mpr ⟨hy, decide_eq_true hq⟩))
  have hold (y : OutQueue × OutItem) (hy : y ∈ history) : ∀ j n, y.2.release = some (j, n) →
      n < s.screens[j.val].released := by
    refine hbound y.2 ?_
    rw [← hr, ← hp]
    exact hmem hy
  refine ⟨⟨history ++ xs, (hqueue _).trans (by rw [hreplies, ← hr]; rfl), (hqueue _).trans (by rw [hreports, ← hp]; rfl),
    List.pairwise_append.mpr ⟨hpairs, hordered, fun y hy z hz j m n hm hn => ?_⟩⟩, fun a ha j n hn => ?_⟩
  · exact (hold y hy j m hm).trans_le (hplaces z hz j n hn).1
  · have hcases : a ∈ s.link.replies ++ s.link.reports ∨ a ∈ itemsOf .replies xs ++ itemsOf .reports xs := by
      rw [hreplies, hreports] at ha
      simp only [List.mem_append] at ha ⊢
      tauto
    obtain ha | ha := hcases
    · exact (hbound a ha j n hn).trans_le (hreleased j)
    · obtain ⟨q, hq⟩ : ∃ q, a ∈ itemsOf q xs := (List.mem_append.mp ha).elim (⟨_, ·⟩) (⟨_, ·⟩)
      obtain ⟨y, hy, rfl⟩ := List.mem_map.mp hq
      exact (hplaces y (List.mem_of_mem_filter hy) j n hn).2

/-! ## Changes that no queue sees -/

/-- The same outbound queues hold as many reports. -/
theorem LinkState.SameOutbound.reportsHeld {a b : LinkState} (h : a.SameOutbound b) : a.reportsHeld = b.reportsHeld := by
  obtain ⟨-, hreports, -, hsending⟩ := h
  rw [LinkState.reportsHeld, hreports, hsending, LinkState.reportsHeld]

/-- Screens that hold as many panel entries each hold as many together. -/
theorem State.panelEntries_congr (h : ∀ j : Fin 4, t.screens[j.val].panelEntries = s.screens[j.val].panelEntries) :
    t.panelEntries = s.panelEntries := by
  rw [State.panelEntries_eq, State.panelEntries_eq]
  exact congrArg₂ _ (congrArg₂ _ (congrArg₂ _ (h 0) (h 1)) (h 2)) (h 3)

/-- Screens that keep their release places, their panel entries and their laws. -/
theorem State.KeepsResults.of_screens (hlink : t.link.SameOutbound s.link)
    (hreleased : ∀ j : Fin 4, t.screens[j.val].released = s.screens[j.val].released)
    (hpanel : ∀ j : Fin 4, t.screens[j.val].panelEntries = s.screens[j.val].panelEntries)
    (hlaw : ∀ j : Fin 4, s.screens[j.val].Law → t.screens[j.val].Law)
    (hheads : ∀ j : Fin 4, x ≠ some j → s.screens[j.val].headWaits → t.screens[j.val].headWaits) : t.KeepsResults x s where
  order h := by
    obtain ⟨hreplies, hreports, -, -⟩ := hlink
    exact h.append [] (by rw [hreplies]; exact (List.append_nil _).symm) (by rw [hreports]; exact (List.append_nil _).symm)
      List.Pairwise.nil nofun fun j => (hreleased j).ge
  slots := fun ⟨hcount, hroom⟩ => by
    obtain ⟨-, -, hreserved, -⟩ := id hlink
    refine ⟨?_, by rwa [hlink.reportsHeld, hreserved]⟩
    rw [hreserved, hcount]
    exact (State.panelEntries_congr hpanel).symm
  sessions h j := hlaw j (h j)
  heads := hheads

/-- The same outbound queues and the same screens. -/
theorem State.KeepsResults.of_same (hlink : t.link.SameOutbound s.link) (hscreens : t.screens = s.screens) :
    t.KeepsResults x s :=
  .of_screens hlink (fun j => by rw [hscreens]) (fun j => by rw [hscreens]) (fun j h => by rwa [hscreens])
    fun j _ h => by rwa [hscreens]

/-- The same link and the same screens. -/
theorem State.KeepsResults.of_eq (hlink : t.link = s.link) (hscreens : t.screens = s.screens) : t.KeepsResults x s :=
  .of_same (by rw [hlink]; exact ⟨rfl, rfl, rfl, rfl⟩) hscreens

/-- An event that begins with a change which no link and no screen sees. -/
theorem State.KeepsResults.from_eq (k : r.KeepsResults x t) (hlink : t.link = s.link) (hscreens : t.screens = s.screens) :
    r.KeepsResults x s := (State.KeepsResults.of_eq hlink hscreens).trans k

/-- A change of one screen that keeps its release place, its panel entries and its laws. -/
theorem State.KeepsResults.onScreen {f : Screen → Screen}
    (hreleased : (f s.screens[i.val]).released = s.screens[i.val].released)
    (hpanel : (f s.screens[i.val]).panelEntries = s.screens[i.val].panelEntries)
    (hlaw : s.screens[i.val].Law → (f s.screens[i.val]).Law)
    (hhead : x ≠ some i → s.screens[i.val].headWaits → (f s.screens[i.val]).headWaits) :
    (s.onScreen i f).KeepsResults x s := by
  have hscreen (j : Fin 4) : (j = i ∧ (s.onScreen i f).screens[j.val] = f s.screens[i.val])
      ∨ (s.onScreen i f).screens[j.val] = s.screens[j.val] := by
    rw [State.onScreen_get]
    by_cases hj : j = i
    · exact .inl ⟨hj, if_pos hj⟩
    · exact .inr (if_neg hj)
  refine .of_screens ⟨rfl, rfl, rfl, rfl⟩ (fun j => ?_) (fun j => ?_) (fun j h => ?_) fun j hj h => ?_ <;>
    obtain ⟨rfl, heq⟩ | heq := hscreen j <;> rw [heq]
  · exact hreleased
  · exact hpanel
  · exact hlaw h
  · exact h
  · exact hhead hj h
  · exact h

/-- A change of a screen that leaves its list and its release place. -/
theorem State.KeepsResults.onSession {f : Screen → Screen}
    (hout : (f s.screens[i.val]).outstanding = s.screens[i.val].outstanding)
    (hreleased : (f s.screens[i.val]).released = s.screens[i.val].released)
    (hlaw : s.screens[i.val].Law → (f s.screens[i.val]).Law) : (s.onScreen i f).KeepsResults x s :=
  .onScreen hreleased (by rw [Screen.panelEntries, hout, Screen.panelEntries]) hlaw fun _ h => by
    rwa [Screen.headWaits, hout]

/-- A change of the link that leaves what is outbound. -/
theorem State.KeepsResults.onLink {f : LinkState → LinkState} (h : (f s.link).SameOutbound s.link) :
    (s.onLink f).KeepsResults x s := .of_same h rfl

/-! ## Replies and reports (11 R186) -/

/-- An item that is no released result joins its queue, a report in a slot that is left. -/
theorem State.KeepsResults.of_item {q : OutQueue} {item : OutItem} (hitem : item.release = none)
    (hlink : t.link.replies = s.link.replies ++ itemsOf .replies [(q, item)]
      ∧ t.link.reports = s.link.reports ++ itemsOf .reports [(q, item)] ∧ t.link.reserved = s.link.reserved
      ∧ t.link.sending = s.link.sending)
    (hroom : q = .reports → s.link.reportsHeld + s.link.reserved < 32) (hscreens : t.screens = s.screens) :
    t.KeepsResults x s where
  order h := by
    obtain ⟨hreplies, hreports, -, -⟩ := hlink
    refine h.append _ hreplies hreports (List.pairwise_singleton ..) (fun y hy j n hn => ?_) fun j => by rw [hscreens]
    rw [List.mem_singleton.mp hy, hitem] at hn
    cases hn
  slots := fun ⟨hcount, hheld⟩ => by
    obtain ⟨-, hreports, hreserved, hsending⟩ := hlink
    refine ⟨by rw [hreserved, hscreens]; exact hcount, ?_⟩
    rw [LinkState.reportsHeld, hreports, hreserved, hsending, List.length_append]
    rw [LinkState.reportsHeld] at hheld hroom
    cases q with
    | replies => simpa [itemsOf] using hheld
    | reports =>
      have := hroom rfl
      simp only [itemsOf, List.filter_cons, decide_true, if_true, List.filter_nil, List.map_cons, List.map_nil,
        List.length_singleton]
      omega
  sessions h j := by rw [hscreens]; exact h j
  heads j _ h := by rwa [hscreens]

/-- A reply that is no released result. -/
theorem State.queueReply_keepsResults {item : OutItem} (hitem : item.release = none) :
    (s.queueReply item).KeepsResults x s :=
  .of_item (q := .replies) hitem ⟨rfl, (List.append_nil _).symm, rfl, rfl⟩ nofun rfl

/-- A reply. -/
theorem State.reply_keepsResults (cls tag : Byte) (p : List Byte) : (s.reply cls tag p).KeepsResults x s :=
  State.queueReply_keepsResults rfl

/-- A report takes a free slot, or none. -/
theorem State.queueReport_keepsResults (cls : Byte) (p : List Byte) : (s.queueReport cls p).KeepsResults x s := by
  obtain ⟨hfree, hlink⟩ | ⟨-, hlink⟩ := s.queueReport_link cls p
  · refine .of_item (q := .reports) (item := { cls := cls, tag := 0, payload := p, release := none, resets := false }) rfl
      ?_ (fun _ => by simpa [LinkState.reportSlotFree, Config.reportSlots] using hfree) (by simp)
    rw [hlink]
    exact ⟨(List.append_nil _).symm, rfl, rfl, rfl⟩
  · exact .of_same (by rw [hlink]; exact ⟨rfl, rfl, rfl, rfl⟩) (by simp)

/-- An offered report takes a free slot, or none. -/
theorem State.offerReport_keepsResults (k : MaskKind) (cls : Byte) (p : List Byte) :
    (s.offerReport k cls p).KeepsResults x s := by
  obtain ⟨-, hlink⟩ | ⟨-, heq⟩ := s.offerReport_cases k cls p
  · exact .of_same (by rw [hlink]; exact ⟨rfl, rfl, rfl, rfl⟩) (by simp)
  · rw [heq]
    exact State.queueReport_keepsResults cls p

/-! ## Releases (09 R151) -/

/-- What leaves takes the places of its screen's release order one after another. -/
theorem leavingFrom_places (l : LinkState) (i : Fin 4) (code : Byte) (n : Nat) (es : List Entry) :
    (leavingFrom l i code n es).Pairwise (fun y z => y.2.before z.2)
      ∧ ∀ y ∈ leavingFrom l i code n es, ∃ m, y.2.release = some (i, m) ∧ n ≤ m
        ∧ m < n + (leavingFrom l i code n es).length := by
  induction es generalizing n with
  | nil => exact ⟨List.Pairwise.nil, nofun⟩
  | cons e es ih =>
    rw [leavingFrom]
    split
    · exact ih n
    · obtain ⟨hpairs, hplaces⟩ := ih (n + 1)
      have hplace : (e.leavesAt i code n).2.release = some (i, n) := by
        rw [Entry.leavesAt]
        split <;> rfl
      refine ⟨List.pairwise_cons.mpr ⟨fun y hy j a b ha hb => ?_, hpairs⟩, List.forall_mem_cons.mpr ⟨?_, fun y hy => ?_⟩⟩
      · obtain ⟨m, hm, hle, -⟩ := hplaces y hy
        rw [hplace, Option.some.injEq, Prod.mk.injEq] at ha
        rw [hm, Option.some.injEq, Prod.mk.injEq] at hb
        omega
      · exact ⟨n, hplace, Nat.le_refl n, by rw [List.length_cons]; omega⟩
      · obtain ⟨m, hm, hle, hlt⟩ := hplaces y hy
        exact ⟨m, hm, by omega, by rw [List.length_cons]; omega⟩

/-- The screen whose entries have left, and the other screens. -/
theorem State.afterLeaving_screens (code : Byte) (es rest : List Entry) (j : Fin 4) :
    (s.afterLeaving i code es rest).screens[j.val] = if j = i then { s.screens[i.val] with
      outstanding := rest, released := s.screens[i.val].released + (s.leaving i code es).length }
    else s.screens[j.val] :=
  s.onScreen_get i j fun c => { c with outstanding := rest, released := c.released + (s.leaving i code es).length }

/-- Entries that leave a list in order keep the laws (09 R151, 11 R186). -/
theorem State.afterLeaving_keepsResults (code : Byte) {es rest : List Entry}
    (hlist : s.screens[i.val].outstanding = es ++ rest) :
    (s.afterLeaving i code es rest).KeepsResults (some i) s where
  order h := by
    have hplaces := leavingFrom_places s.link i code s.screens[i.val].released es
    rw [← State.leaving_eq] at hplaces
    refine h.append (s.leaving i code es) rfl rfl hplaces.1 (fun y hy j n hn => ?_) fun j => ?_
    · obtain ⟨m, hm, hle, hlt⟩ := hplaces.2 y hy
      obtain ⟨rfl, rfl⟩ : i = j ∧ m = n := by simpa using hm.symm.trans hn
      rw [State.afterLeaving_screens, if_pos rfl]
      exact ⟨hle, hlt⟩
    · rw [State.afterLeaving_screens]
      split
      · subst j
        exact Nat.le_add_right ..
      · exact Nat.le_refl _
  slots := fun ⟨hcount, hheld⟩ => by
    have hcount : s.link.reserved = s.panelEntries := hcount
    have hleft : (s.afterLeaving i code es rest).panelEntries + es.countP Entry.ofPanel = s.panelEntries := by
      refine State.panelEntries_add (i := i) ?_ fun j hj => by rw [State.afterLeaving_screens, if_neg hj]
      rw [State.afterLeaving_screens, if_pos rfl, Screen.panelEntries, Screen.panelEntries, hlist, List.countP_append,
        Nat.add_comm]
    have hslots := State.afterLeaving_slots (s := s) i code es rest (by omega)
    refine ⟨?_, hslots.trans hheld⟩
    have hreserved : (s.afterLeaving i code es rest).link.reserved = s.link.reserved - es.countP Entry.ofPanel := rfl
    have hgoal : (s.afterLeaving i code es rest).link.reserved = (s.afterLeaving i code es rest).panelEntries := by omega
    exact hgoal
  sessions h j := by
    rw [State.afterLeaving_screens]
    split
    · obtain ⟨hlen, htext, hsymbols, hactive, hmin, hmax, hdisabled⟩ := h i
      rw [hlist, List.length_append] at hlen
      refine ⟨by simp only; omega, htext, hsymbols, hactive, hmin, hmax, fun he => ?_⟩
      obtain ⟨ha, hi, ht, hterms, hout⟩ := hdisabled he
      rw [hlist, List.append_eq_nil_iff] at hout
      exact ⟨ha, hi, ht, hterms, hout.2⟩
    · exact h j
  heads j hj h := by
    rwa [State.afterLeaving_screens, if_neg fun e => hj (congrArg some e.symm)]

/-- A release lets the DONE entries at the head of its list leave (09 R151). -/
theorem State.release_eq (code : Byte) (i : Fin 4) :
    s.release i = s.afterLeaving i code (s.screens[i.val].outstanding.takeWhile Entry.done)
      (s.screens[i.val].outstanding.dropWhile Entry.done) := by
  have hhead (e : Entry) (he : (s.screens[i.val].outstanding.dropWhile Entry.done).head? = some e) : e.result = none := by
    have hnot := List.head?_dropWhile_not Entry.done s.screens[i.val].outstanding
    rw [he] at hnot
    simpa [Entry.done] using hnot
  have hdone (e : Entry) (he : e ∈ s.screens[i.val].outstanding.takeWhile Entry.done) : e.result ≠ none := by
    have hd : e.done = true := List.mem_takeWhile_imp he
    exact Option.isSome_iff_ne_none.mp hd
  rw [← State.releaseList_done code _ _ hdone hhead, List.takeWhile_append_dropWhile, State.release]

/-- After its release the head of a list waits (09 R151). -/
theorem State.release_headWaits (i : Fin 4) : (s.release i).screens[i.val].headWaits := by
  intro e he
  rw [State.release_outstanding, if_pos rfl] at he
  exact (undone_head _).2 e he

/-- A release keeps the laws, and lets the head of its list wait. -/
theorem State.KeepsResults.release (h : t.KeepsResults (some i) s) : (t.release i).KeepsResults x s := by
  have hrelease : (t.release i).KeepsResults (some i) t := by
    rw [State.release_eq 0]
    exact State.afterLeaving_keepsResults 0 List.takeWhile_append_dropWhile.symm
  have hall := h.trans hrelease
  refine State.KeepsResults.weaken ⟨hall.order, hall.slots, hall.sessions, fun j _ hj => ?_⟩
  by_cases he : j = i
  · subst j
    exact State.release_headWaits i
  · exact hall.heads j (fun e => he (Option.some.inj e).symm) hj

/-! ## Entries completed (09 R150) -/

/-- Entries of a list that are marked. -/
theorem State.markAll_keepsResults {g : Entry → Entry} (hg : ∀ e, (g e).ofPanel = e.ofPanel) :
    (s.onScreen i fun c => { c with outstanding := c.outstanding.map g }).KeepsResults (some i) s := by
  refine .onScreen rfl ?_ (fun ⟨hlen, htext, hsymbols, hactive, hmin, hmax, hdisabled⟩ => ?_) fun h => absurd rfl h
  · rw [Screen.panelEntries, Screen.panelEntries, List.countP_map]
    exact List.countP_congr fun e _ => by rw [Function.comp_apply, hg]
  · refine ⟨by simpa using hlen, htext, hsymbols, hactive, hmin, hmax, fun he => ?_⟩
    obtain ⟨ha, hi, ht, hterms, hout⟩ := hdisabled he
    exact ⟨ha, hi, ht, hterms, by rw [hout, List.map_nil]⟩

/-- An entry that is marked. -/
theorem State.mark_keepsResults (ref : Ref) (e : EntryResult) : (s.mark ref e).KeepsResults (some ref.screen) s := by
  refine State.markAll_keepsResults fun y => ?_
  split
  · exact (y.finish_keeps e).2.2.2
  · rfl

/-- An entry that is completed. -/
theorem State.complete_keepsResults (ref : Ref) (e : EntryResult) : (s.complete ref e).KeepsResults x s :=
  (State.mark_keepsResults ref e).release

/-- Entries that are completed. -/
theorem State.completeAll_keepsResults (refs : List Ref) (c : ResultCode) : (s.completeAll refs c).KeepsResults x s :=
  .foldl (fun _ ref => State.complete_keepsResults ref (.bare c)) refs s

/-! ## Entries that join (09 R150, R156) -/

/-- A screen whose list takes one entry more. -/
theorem Screen.Law.join {c : Screen} (h : c.Law) (henabled : c.enabled = true) (hroom : c.outstanding.length < 4) (e : Entry)
    (seq : Byte) (n : Nat) :
    ({ c with outstanding := c.outstanding ++ [e], seq := seq, nextId := n } : Screen).Law := by
  obtain ⟨-, htext, hsymbols, hactive, hmin, hmax, -⟩ := h
  exact ⟨by simpa using hroom, htext, hsymbols, hactive, hmin, hmax, fun hd => by rw [henabled] at hd; cases hd⟩

/-- A host's entry joins a list that has room. -/
theorem State.join_keepsResults (henabled : s.screens[i.val].enabled = true) (hroom : s.hasRoom i = true) (tag : Byte)
    (ask : Ask) (e : Option EntryResult) : (s.join i (.host tag) ask e).KeepsResults (some i) s := by
  refine .onScreen rfl ?_ (fun h => h.join henabled (of_decide_eq_true hroom) _ _ _) fun h => absurd rfl h
  simp [Screen.panelEntries, Entry.ofPanel]

/-- A panel's entry joins a list that has room, with a report slot reserved for it (09 R156). -/
theorem State.createPanelEntry_keepsResults (henabled : s.screens[i.val].enabled = true) (hroom : s.hasRoom i = true)
    (hfree : s.link.reportSlotFree = true) (ask : Ask) : (s.createPanelEntry i ask).KeepsResults (some i) s := by
  have hscreen (j : Fin 4) : (s.createPanelEntry i ask).screens[j.val] =
      if j = i then s.screens[i.val].asking ask else s.screens[j.val] := by
    simp only [State.createPanelEntry, State.join, State.onScreen_get, State.onLink_fields]
    by_cases hj : j = i
    · simp [hj, Screen.asking]
    · simp [hj]
  have hfree : s.link.reportsHeld + s.link.reserved < 32 := of_decide_eq_true hfree
  have hlink : (s.createPanelEntry i ask).link = { s.link with reserved := s.link.reserved + 1 } := rfl
  refine ⟨fun h => h.append [] (List.append_nil _).symm (List.append_nil _).symm List.Pairwise.nil nofun fun j => ?_,
    fun ⟨hcount, hheld⟩ => ?_, fun h j => ?_, fun j hj h => ?_⟩
  · rw [hscreen]
    split
    · subst j
      exact Nat.le_refl _
    · exact Nat.le_refl _
  · have hadd : s.panelEntries + 1 = (s.createPanelEntry i ask).panelEntries := by
      refine State.panelEntries_add (i := i) ?_ fun j hj => by rw [hscreen, if_neg hj]
      rw [hscreen, if_pos rfl]
      simp [Screen.panelEntries, Screen.asking, Entry.ofPanel]
    have hcount : s.link.reserved = s.panelEntries := hcount
    refine ⟨?_, ?_⟩
    · have hgoal : (s.createPanelEntry i ask).link.reserved = (s.createPanelEntry i ask).panelEntries := by
        rw [hlink]
        simp only
        omega
      exact hgoal
    · rw [hlink]
      have hsame : ({ s.link with reserved := s.link.reserved + 1 } : LinkState).reportsHeld = s.link.reportsHeld := rfl
      simp only [hsame]
      omega
  · rw [hscreen]
    split
    · exact (h i).join henabled (of_decide_eq_true hroom) _ _ _
    · exact h j
  · rwa [hscreen, if_neg fun e => hj (congrArg some e.symm)]

end

end Sys2Proof.Machine
end

section
/-! PROOFS. The release order, the report slots and the laws of the sessions, kept by every step (09 R146 to R151, R156, R158,
11 R186, R187). -/

namespace Sys2Proof.Machine

section
variable {s t r : State} {x : Option (Fin 4)} {i : Fin 4}

/-! ## The engines -/

/-- What the composer takes keeps the laws (05 R81, R82). -/
theorem State.takePlaces_keepsResults (l : List (Fin 2)) : (s.takePlaces l).KeepsResults x s := by
  induction l generalizing s with
  | nil => exact .of_eq rfl rfl
  | cons u us ih =>
    have hfree : (s.freeUnit u).KeepsResults x s := .of_eq (by simp) (by simp)
    rw [State.takePlaces]
    split
    · exact .of_eq rfl rfl
    · simp only
      split
      · exact hfree.trans ih
      · split
        · exact hfree.trans (ih.from_eq rfl rfl)
        · exact (hfree.trans (State.completeAll_keepsResults _ _)).trans ih

/-- What the directory takes keeps the laws (08 R137). -/
theorem State.takeQueries_keepsResults (l : List Query) : (s.takeQueries l).KeepsResults x s := by
  induction l generalizing s with
  | nil => exact .of_eq rfl rfl
  | cons q qs ih =>
    rw [State.takeQueries]
    split
    · exact .of_eq rfl rfl
    · simp only
      split
      · exact ih.from_eq rfl rfl
      · exact (State.complete_keepsResults _ _).trans ih

/-- What the engines take keeps the laws. -/
theorem State.serve_keepsResults : s.serve.KeepsResults x s := by
  have hunits : s.serveComposer.giveUnits.KeepsResults x s.serveComposer := .of_eq (by simp) (by simp)
  exact ((State.takePlaces_keepsResults _).trans hunits).trans (State.takeQueries_keepsResults _)

/-- An examination keeps the laws (08 R139 to R143). -/
theorem State.examineListing_keepsResults : s.examineListing.KeepsResults x s := by
  have hended : ({ s with dir := { s.dir with scan := none } } : State).KeepsResults x s := .of_eq rfl rfl
  unfold State.examineListing
  split
  · exact .refl s
  · simp only
    split
    · exact hended.trans (State.takeQueries_keepsResults _)
    · split
      · exact .of_eq rfl rfl
      · exact (hended.trans (State.complete_keepsResults _ _)).trans (State.takeQueries_keepsResults _)

/-- A finalisation keeps the laws (05 R95). -/
theorem State.finaliseNext_keepsResults : s.finaliseNext.KeepsResults x s := by
  have hjob (u : State) (j : Option Job) : (u.withJob j).KeepsResults x u := .of_eq rfl rfl
  unfold State.finaliseNext
  split
  · exact .refl s
  · split
    · exact .refl s
    · split
      · exact (hjob s none).trans State.serve_keepsResults
      · simp only
        split
        · exact ((State.complete_keepsResults _ _).trans (hjob _ none)).trans State.serve_keepsResults
        · exact (State.complete_keepsResults _ _).trans (hjob _ _)

/-- The answer to a MODE_SET FROZEN keeps the laws (02 R24). -/
theorem State.answerFreezing_keepsResults : s.answerFreezing.KeepsResults x s := by
  unfold State.answerFreezing
  split
  · exact .refl s
  · split
    · exact .refl s
    · exact (State.reply_keepsResults ..).from_eq rfl rfl

/-- The end of all work keeps the laws (02 R25, R39). -/
theorem State.abortWork_keepsResults : s.abortWork.KeepsResults x s := by
  obtain ⟨u, v, w, hul, hus, hvl, hvs, hwl, hws, hw⟩ := s.abortWork_completes
  rw [hw]
  exact ((((State.KeepsResults.of_eq hul hus).trans (State.completeAll_keepsResults _ _)).trans (.of_eq hvl hvs)).trans
    (State.completeAll_keepsResults _ _)).trans ((State.KeepsResults.of_eq hwl hws).trans
      (State.completeAll_keepsResults _ _))

/-! ## The sessions (09 R147 to R149) -/

/-- A touched screen is lawful. -/
theorem Screen.Law.touch {c : Screen} (h : c.Law) : c.touch.Law := by
  obtain ⟨hlen, htext, hsymbols, -, hmin, hmax, -⟩ := id h
  unfold Screen.touch
  split
  · rename_i henabled
    exact ⟨hlen, htext, hsymbols, by simp, hmin, hmax, fun hd => by rw [henabled] at hd; cases hd⟩
  · exact h

/-- A screen whose session has ended is lawful. -/
theorem Screen.Law.endSession {c : Screen} (h : c.Law) : c.endSession.Law := by
  obtain ⟨hlen, -, -, -, hmin, hmax, hdisabled⟩ := h
  refine ⟨hlen, Nat.zero_le 16, nofun, by simp [Screen.endSession], hmin, hmax, fun he => ?_⟩
  obtain ⟨-, -, -, -, hout⟩ := hdisabled he
  exact ⟨rfl, rfl, rfl, rfl, hout⟩

/-- A touched session keeps the laws. -/
theorem State.touchSession_keepsResults (i : Fin 4) : (s.touchSession i).KeepsResults x s := by
  obtain ⟨-, -, -, -, -, -, -, -, -, hout, -, hreleased, -⟩ := s.screens[i.val].touch_keeps
  exact .onSession hout hreleased Screen.Law.touch

/-- The end of a session keeps the laws. -/
theorem State.endSession_keepsResults (i : Fin 4) : (s.onScreen i Screen.endSession).KeepsResults x s :=
  .onSession rfl rfl Screen.Law.endSession

/-- A cancellation keeps the laws (09 R155). -/
theorem State.cancelEntries_keepsResults (i : Fin 4) (b : Bool) : (s.cancelEntries i b).KeepsResults x s := by
  have hdetach (u : State) (refs : List Ref) : (u.detach refs).KeepsResults (some i) u := .of_eq (by simp) (by simp)
  refine ((State.markAll_keepsResults fun e => ?_).trans (hdetach _ _)).release
  split <;> rfl

/-- An expiry keeps the laws (09 R149). -/
theorem State.expire_keepsResults (i : Fin 4) : (s.expire i).KeepsResults x s :=
  (((State.endSession_keepsResults i).trans (State.cancelEntries_keepsResults i true)).trans
    State.serve_keepsResults).trans (State.offerReport_keepsResults ..)

/-- A SCREEN_SET that passes its tests carries an enabled byte of at most 1 and finds the list empty (09 R147). -/
theorem State.screenSetTest_none {p : List Byte} (h : s.screenSetTest i p = none) :
    field p 1 1 ≤ 1 ∧ s.screens[i.val].outstanding = [] := by
  unfold State.screenSetTest at h
  grind

/-- A stored timeout lies within 10 to 600 s (09 R147). -/
theorem storedTimeout_bounds (n : Nat) : 10 ≤ storedTimeout n ∧ storedTimeout n ≤ 600 := by
  unfold storedTimeout
  omega

/-- The configuration of a screen that stays enabled, or was not, is lawful (09 R147). -/
theorem Screen.Law.configure {c : Screen} (h : c.Law) {p : List Byte} (hfield : field p 1 1 = 1 ∨ c.enabled = false) :
    (c.configure p).Law := by
  obtain ⟨hlen, htext, hsymbols, hactive, -, -, hdisabled⟩ := h
  obtain ⟨hmin, hmax⟩ := storedTimeout_bounds (field p 10 2)
  refine ⟨hlen, htext, hsymbols, hactive, hmin, hmax, fun he => hdisabled ?_⟩
  have he : (field p 1 1 == 1) = false := he
  exact hfield.resolve_left (by simpa using he)

/-- The configuration of a screen that is disabled ends its session, and is lawful (09 R147). -/
theorem Screen.Law.configure_endSession {c : Screen} (h : c.Law) (p : List Byte) (hempty : c.outstanding = []) :
    (c.configure p).endSession.Law := by
  obtain ⟨hlen, -, -, -, -, -, -⟩ := h
  obtain ⟨hmin, hmax⟩ := storedTimeout_bounds (field p 10 2)
  exact ⟨hlen, Nat.zero_le 16, nofun, by simp [Screen.endSession], hmin, hmax, fun _ => ⟨rfl, rfl, rfl, rfl, hempty⟩⟩

/-- A SCREEN_SET that passes its tests keeps the laws (09 R147). -/
theorem State.configureScreen_keepsResults {p : List Byte} (htest : s.screenSetTest i p = none) :
    (s.configureScreen i p).KeepsResults x s := by
  obtain ⟨hfield, hempty⟩ := State.screenSetTest_none htest
  unfold State.configureScreen
  simp only
  split
  · have htwice : ((s.onScreen i fun c => c.configure p).onScreen i Screen.endSession) =
        s.onScreen i fun c => (c.configure p).endSession := by
      simp [State.onScreen]
    rw [htwice]
    exact .onSession rfl rfl fun h => h.configure_endSession p hempty
  · rename_i hstays
    have hstays : field p 1 1 = 1 ∨ s.screens[i.val].enabled = false := by
      cases he : s.screens[i.val].enabled with
      | false => exact .inr rfl
      | true =>
        have h0 : ¬ field p 1 1 = 0 := fun h0 => hstays ⟨he, h0⟩
        exact .inl (by omega)
    have hconfigure : (s.onScreen i fun c => c.configure p).KeepsResults x s :=
      .onSession rfl rfl fun h => h.configure hstays
    split
    · exact hconfigure.trans (State.expire_keepsResults i)
    · exact hconfigure

/-! ## Screen-bound requests (09 R152 to R155) -/

/-- A screen-bound request keeps the laws where its body, on an enabled screen, does. -/
theorem State.screenBound_keepsResults {cls tag : Byte} {p : List Byte} {body : State → Fin 4 → State}
    (hbody : ∀ (u : State) i, u.screens[i.val].enabled = true → (body u i).KeepsResults x u) :
    (s.screenBound cls tag p body).KeepsResults x s := by
  unfold State.screenBound
  split
  · exact State.reply_keepsResults ..
  · rename_i i htest
    have henabled : s.screens[i.val].enabled = true := by
      unfold State.screenTest at htest
      split at htest
      · cases htest
      · split at htest
        · cases htest
          assumption
        · cases htest
    refine (State.touchSession_keepsResults i).trans (hbody _ i ?_)
    rw [State.touchSession, State.onScreen_get, if_pos rfl, s.screens[i.val].touch_keeps.1, henabled]

/-- The dispatch of a route request marks its own entry at most (09 R153). -/
theorem State.dispatchRoute_keepsResults (ref : Ref) (k : Key) (explicit : Bool) :
    (s.dispatchRoute ref k explicit).KeepsResults (some ref.screen) s := by
  unfold State.dispatchRoute
  split
  · exact State.mark_keepsResults ..
  · simp only
    split
    · exact (State.mark_keepsResults ..).from_eq rfl rfl
    · exact .of_eq rfl rfl

/-- The dispatch of a query marks its own entry at most (08 R132, R133). -/
theorem State.dispatchQuery_keepsResults (q : Query) (hq : q.ref.screen = i) :
    (s.dispatchQuery q).KeepsResults (some i) s := by
  subst hq
  unfold State.dispatchQuery
  split
  · exact .of_eq rfl rfl
  · exact State.mark_keepsResults ..

/-- A ROUTE_ASK keeps the laws (09 R153). -/
theorem State.askRoute_keepsResults (henabled : s.screens[i.val].enabled = true) (tag : Byte) (p : List Byte) :
    (s.askRoute i tag p).KeepsResults x s := by
  have hrefuse (c : ResultCode) : (s.refuse 0x0B tag c).KeepsResults x s := State.reply_keepsResults ..
  unfold State.askRoute
  simp only
  split
  · exact hrefuse _
  · split
    · exact hrefuse _
    · split
      · exact hrefuse _
      · split
        · exact hrefuse _
        · split
          · exact hrefuse _
          · rename_i hroom
            exact ((State.join_keepsResults henabled (by simpa using hroom) tag _ none).trans
              (State.dispatchRoute_keepsResults (s.nextRef i) _ _)).release.trans State.serve_keepsResults

/-- A DIRECTORY_ASK keeps the laws (08 R132). -/
theorem State.askDirectory_keepsResults (henabled : s.screens[i.val].enabled = true) (tag : Byte) (p : List Byte) :
    (s.askDirectory i tag p).KeepsResults x s := by
  have hrefuse (c : ResultCode) : (s.refuse 0x0C tag c).KeepsResults x s := State.reply_keepsResults ..
  unfold State.askDirectory
  simp only
  split
  · exact hrefuse _
  · split
    · exact hrefuse _
    · split
      · exact hrefuse _
      · split
        · exact hrefuse _
        · rename_i hroom
          exact ((State.join_keepsResults henabled (by simpa using hroom) tag _ none).trans
            (State.dispatchQuery_keepsResults (i := i) _ rfl)).release.trans State.serve_keepsResults

/-! ## Hotspot actions (09 R156 to R161) -/

/-- A panel's request leaves its own screen open at most, where its dispatch does (09 R156). -/
theorem State.panelRequest_keepsResults (henabled : s.screens[i.val].enabled = true) (ask : Ask)
    {dispatch : State → Ref → State} (hd : ∀ (u : State) ref, ref.screen = i → (dispatch u ref).KeepsResults (some i) u) :
    (s.panelRequest i ask dispatch).state.KeepsResults (some i) s := by
  unfold State.panelRequest
  split
  · exact .refl s
  · split
    · exact .refl s
    · rename_i hfree
      rw [not_or, Bool.not_eq_false, Bool.not_eq_false] at hfree
      exact (State.createPanelEntry_keepsResults henabled hfree.1 hfree.2 ask).trans (hd _ _ rfl)

/-- A route action leaves its own screen open at most (09 R157). -/
theorem State.panelRoute_keepsResults (henabled : s.screens[i.val].enabled = true) (kind : DestKind) (n : BitVec 16) :
    (s.panelRoute i kind n).state.KeepsResults (some i) s := by
  refine State.panelRequest_keepsResults henabled _ fun u ref href => ?_
  subst href
  split
  · exact State.dispatchRoute_keepsResults ..
  · exact State.mark_keepsResults ..

/-- An edit that leaves its screen lawful, and its query (08 R142). -/
theorem State.edit_keepsResults {f : Screen → Screen} (henabled : (f s.screens[i.val]).enabled = true)
    (hout : (f s.screens[i.val]).outstanding = s.screens[i.val].outstanding)
    (hreleased : (f s.screens[i.val]).released = s.screens[i.val].released)
    (hlaw : s.screens[i.val].Law → (f s.screens[i.val]).Law) :
    ((s.onScreen i f).panelQuery i).state.KeepsResults (some i) s := by
  refine (State.KeepsResults.onSession hout hreleased hlaw).trans
    (State.panelRequest_keepsResults (by rw [State.onScreen_get, if_pos rfl, henabled]) _ fun u ref href =>
      State.dispatchQuery_keepsResults _ href)

/-- A text edit leaves its own screen open at most, where the text is lawful (09 R158). -/
theorem State.editText_keepsResults (henabled : s.screens[i.val].enabled = true) {text : List Byte}
    (htext : s.screens[i.val].Law → text.length ≤ 16 ∧ ∀ b ∈ text, 1 ≤ b.toNat ∧ b.toNat ≤ 40) :
    (s.editText i text).state.KeepsResults (some i) s := by
  refine State.edit_keepsResults henabled rfl rfl fun h => ?_
  obtain ⟨hlen, hsymbols⟩ := htext h
  obtain ⟨hlist, -, -, hactive, hmin, hmax, -⟩ := h
  exact ⟨hlist, hlen, hsymbols, hactive, hmin, hmax, fun hd => by rw [henabled] at hd; cases hd⟩

/-- A term edit leaves its own screen open at most (09 R159). -/
theorem State.editTerm_keepsResults (henabled : s.screens[i.val].enabled = true) (slot : Byte) (term : Option Term) :
    (s.editTerm i slot term).state.KeepsResults (some i) s := by
  unfold State.editTerm
  split
  · exact .refl s
  · split
    · exact .refl s
    · refine State.edit_keepsResults henabled rfl rfl fun ⟨hlist, htext, hsymbols, hactive, hmin, hmax, _⟩ => ?_
      exact ⟨hlist, htext, hsymbols, hactive, hmin, hmax, fun hd => by rw [henabled] at hd; cases hd⟩

/-- An action leaves its own screen open at most (09 R156). -/
theorem State.doAction_keepsResults (henabled : s.screens[i.val].enabled = true) (a : Action) :
    (s.doAction i a).state.KeepsResults (some i) s := by
  cases a with
  | plain => exact .refl s
  | listing n => exact State.panelRoute_keepsResults henabled .listing n
  | waypoint n => exact State.panelRoute_keepsResults henabled .waypoint n
  | key b =>
    simp only [State.doAction]
    split
    · exact .refl s
    · rename_i hvalid
      split
      · rename_i hroom
        refine State.editText_keepsResults henabled fun ⟨_, _, hsymbols, _⟩ => ⟨?_, ?_⟩
        · simpa [Config.textCapacity] using hroom
        · rw [List.forall_mem_append, List.forall_mem_singleton]
          exact ⟨hsymbols, (symbolValid_iff b).mp (by simpa using hvalid)⟩
      · exact .refl s
  | backspace =>
    simp only [State.doAction]
    split
    · exact .refl s
    · refine State.editText_keepsResults henabled fun ⟨_, htext, hsymbols, _⟩ => ⟨?_, fun b hb => ?_⟩
      · rw [List.length_dropLast]
        omega
      · exact hsymbols b (List.mem_of_mem_dropLast hb)
  | clearText =>
    simp only [State.doAction]
    split
    · exact .refl s
    · exact State.editText_keepsResults henabled fun _ => ⟨Nat.zero_le 16, nofun⟩
  | filter slot term => exact State.editTerm_keepsResults henabled slot term
  | unfilter slot => exact State.editTerm_keepsResults henabled slot none
  | cancel => exact State.cancelEntries_keepsResults i true

/-- A selection keeps the laws: the release of its screen comes behind its report (09 R156). -/
theorem State.select_keepsResults (i : Fin 4) (h : Nat) (n : Byte) (a : Action) : (s.select i h n a).KeepsResults x s := by
  have hcarry : (s.carryOut i a).state.KeepsResults (some i) s := by
    unfold State.carryOut
    split
    · rename_i henabled
      refine (State.touchSession_keepsResults i).trans (State.doAction_keepsResults ?_ a)
      rw [State.touchSession, State.onScreen_get, if_pos rfl, s.screens[i.val].touch_keeps.1, henabled]
    · exact .refl s
  exact (hcarry.trans (State.offerReport_keepsResults ..)).release.trans State.serve_keepsResults

/-! ## The touch panels (10 R165 to R179) -/

/-- A change of a panel keeps the laws. -/
theorem State.onPanel_keepsResults (p : Fin 4) (f : Panel → Panel) : (s.onPanel p f).KeepsResults x s := .of_eq rfl rfl

/-- A PENDING track that is tested keeps the laws. -/
theorem State.testPending_keepsResults (p : Fin 4) (j : Fin 5) (f : Processing) :
    (s.testPending p j f).KeepsResults x s := by
  unfold State.testPending
  simp only
  split
  · exact ((State.onPanel_keepsResults p _).trans (State.offerReport_keepsResults ..)).trans
      (State.touchSession_keepsResults p)
  · split
    · exact State.onPanel_keepsResults p _
    · exact .refl s

/-- The test for MOVE keeps the laws. -/
theorem State.testMove_keepsResults (p : Fin 4) (j : Fin 5) (f : Processing) : (s.testMove p j f).KeepsResults x s := by
  unfold State.testMove
  simp only
  split
  · exact (State.onPanel_keepsResults p _).trans (State.offerReport_keepsResults ..)
  · exact .refl s

/-- The UP of a track keeps the laws. -/
theorem State.goUp_keepsResults (p : Fin 4) (j : Fin 5) (f : Processing) : (s.goUp p j f).KeepsResults x s := by
  have hreport : (s.reportContact p j.val .up false (s.track p j).position).KeepsResults x s :=
    State.offerReport_keepsResults ..
  unfold State.goUp
  simp only
  split
  · exact hreport.trans (State.onPanel_keepsResults p _)
  · exact (hreport.trans (State.select_keepsResults ..)).trans (State.onPanel_keepsResults p _)

/-- A track brought forward keeps the laws. -/
theorem State.advanceTrack_keepsResults (p : Fin 4) (f : Processing) (j : Fin 5) (c : Claim) :
    (s.advanceTrack p f j c).KeepsResults x s := by
  have htrack (g : Track → Track) : (s.onTrack p j g).KeepsResults x s := State.onPanel_keepsResults p _
  unfold State.advanceTrack
  split
  case h_1 | h_2 => exact (htrack _).trans (State.testPending_keepsResults ..)
  case h_3 => exact (htrack _).trans (State.testMove_keepsResults ..)
  case h_4 | h_5 | h_6 => exact htrack _
  case h_7 =>
    split
    · exact htrack _
    · exact State.goUp_keepsResults ..
  case h_8 | h_9 => exact .refl s

/-- Cancelled tracks keep the laws (10 R177). -/
theorem State.cancelTracks_keepsResults (p : Fin 4) : (s.cancelTracks p).KeepsResults x s := by
  refine .foldl (fun u j => ?_) fiveTracks s
  unfold State.cancelTrack
  simp only
  split
  · exact (State.offerReport_keepsResults ..).trans (State.onPanel_keepsResults p _)
  · exact State.onPanel_keepsResults p _

/-- The answer to an injection keeps the laws. -/
theorem State.answerInject_keepsResults (p : Fin 4) (tag : Option Byte) (c : ResultCode) :
    (s.answerInject p tag c).KeepsResults x s := by
  unfold State.answerInject
  split
  · exact .refl s
  · exact State.reply_keepsResults ..

/-- A frame that enters the buffer keeps the laws. -/
theorem State.bufferFrame_keepsResults (p : Fin 4) (f : PanelFrame) : (s.bufferFrame p f).KeepsResults x s :=
  (State.answerInject_keepsResults ..).trans (State.onPanel_keepsResults p _)

/-- A buffer that is emptied keeps the laws. -/
theorem State.emptyBuffer_keepsResults (p : Fin 4) : (s.emptyBuffer p).KeepsResults x s :=
  (State.answerInject_keepsResults ..).trans (State.onPanel_keepsResults p _)

/-- A frame that is taken keeps the laws. -/
theorem State.takeFrame_keepsResults (p : Fin 4) : (s.takeFrame p).KeepsResults x s := by
  unfold State.takeFrame
  simp only
  split
  · split
    · exact .refl s
    · split
      · exact (State.onPanel_keepsResults p _).trans (State.offerReport_keepsResults ..)
      · exact State.onPanel_keepsResults p _
  · exact .refl s

/-- The end of a frame keeps the laws. -/
theorem State.finishFrame_keepsResults (p : Fin 4) : (s.finishFrame p).KeepsResults x s := by
  have hdetect (f : Processing) : (s.detect p f).KeepsResults x s := by
    have htracks (u : State) (cs : List Claim) : (u.advanceTracks p f cs).KeepsResults x u :=
      .foldl (α := Fin 5 × Claim) (fun _ y => State.advanceTrack_keepsResults p f y.1 y.2) _ u
    exact ((State.onPanel_keepsResults p _).trans (htracks _ _)).trans
      (State.onPanel_keepsResults p fun q => q.drifted f)
  have haccumulate (f : Processing) : (s.accumulate p f).KeepsResults x s := by
    unfold State.accumulate
    split
    · exact .refl s
    · simp only
      split
      · exact State.onPanel_keepsResults p _
      · exact (State.onPanel_keepsResults p _).trans (State.reply_keepsResults ..)
  have hend (u : State) (f : Processing) :
      ((u.onPanel p fun q => { q with processing := none }).answerInject p f.frame.inject .ok).KeepsResults x u :=
    (State.onPanel_keepsResults p _).trans (State.answerInject_keepsResults ..)
  unfold State.finishFrame
  split
  · exact .refl s
  · rename_i f _
    simp only
    split
    · exact (hdetect f).trans (hend _ f)
    · exact (haccumulate f).trans (hend _ f)
    · exact hend _ f

/-- An abandoned capture keeps the laws. -/
theorem State.abandonCapture_keepsResults (p : Fin 4) : (s.abandonCapture p).KeepsResults x s := by
  unfold State.abandonCapture
  split
  · exact .refl s
  · exact (State.onPanel_keepsResults p _).trans (State.reply_keepsResults ..)

/-- The expiry of a frame timer keeps the laws (10 R166). -/
theorem State.frameTimeout_keepsResults (p : Fin 4) : (s.frameTimeout p).KeepsResults x s :=
  ((((State.cancelTracks_keepsResults p).trans (State.abandonCapture_keepsResults p)).trans
    (State.emptyBuffer_keepsResults p)).trans (State.onPanel_keepsResults p _)).trans (State.offerReport_keepsResults ..)

/-- The transition of a PANEL_SET keeps the laws (10 R164). -/
theorem State.panelTransition_keepsResults (p : Fin 4) (c : PanelConfig) : (s.panelTransition p c).KeepsResults x s := by
  have hleave (m : PanelMode) : (s.leaveRunning p m).KeepsResults x s :=
    ((State.cancelTracks_keepsResults p).trans (State.emptyBuffer_keepsResults p)).trans (State.onPanel_keepsResults p _)
  unfold State.panelTransition
  simp only
  split
  · exact hleave _
  · split
    · exact hleave _
    · exact .refl s

/-! ## Mode control (02 R23 to R39) -/

/-- A MODE_SET keeps the laws. -/
theorem State.modeSet_keepsResults (tag : Byte) (n : Nat) : (s.modeSet tag n).KeepsResults x s := by
  have hreply (u : State) (c : ResultCode) : (u.modeReply tag c).KeepsResults x u := State.reply_keepsResults ..
  have hwork (u : State) :
      ({ u.abortWork with map := { u.abortWork.map with startIndex := none } } : State).KeepsResults x u :=
    State.abortWork_keepsResults.trans (.of_eq rfl rfl)
  have hloading : s.enterLoading.KeepsResults x s := (hwork _).from_eq rfl rfl
  have hservice : s.returnToService.KeepsResults x s := .of_eq (by simp) (by simp)
  unfold State.modeSet
  split
  case h_4 | h_5 => exact hloading.trans (hreply _ _)
  case h_7 => exact State.answerFreezing_keepsResults.from_eq rfl rfl
  case h_8 => exact hservice.trans (hreply _ _)
  all_goals exact hreply s _

/-- Sessions that end together keep the laws. -/
theorem State.endSessions_keepsResults (hlink : t.link = s.link) (hscreens : t.screens = s.screens.map Screen.endSession) :
    t.KeepsResults x s := by
  have hscreen (j : Fin 4) : t.screens[j.val] = s.screens[j.val].endSession := by rw [hscreens, Vector.getElem_map]
  refine .of_screens (by rw [hlink]; exact ⟨rfl, rfl, rfl, rfl⟩) (fun j => ?_) (fun j => ?_) (fun j h => ?_)
    fun j _ h => ?_ <;> rw [hscreen]
  · rfl
  · rfl
  · exact h.endSession
  · exact h

/-- The end of a map check keeps the laws (02 R33, R34). -/
theorem State.endCheck_keepsResults : s.endCheck.KeepsResults x s := by
  unfold State.endCheck
  split
  · split
    · unfold State.commitPasses
      refine State.KeepsResults.trans ?_ (State.reply_keepsResults ..)
      exact State.endSessions_keepsResults rfl rfl
    · exact (State.reply_keepsResults ..).from_eq rfl rfl
  · exact .refl s

/-- RESET SESSIONS keeps the laws (02 R39). -/
theorem State.resetSessions_keepsResults : s.resetSessions.KeepsResults x s := by
  have hscreen (u : State) (i : Fin 4) : (u.abortScreen i).KeepsResults x u :=
    (State.markAll_keepsResults fun e => (e.finish_keeps _).2.2.2).release
  have hcheck (u : State) : u.abandonCheck.KeepsResults x u := by
    unfold State.abandonCheck
    split
    · exact .refl u
    · exact (State.reply_keepsResults ..).from_eq rfl rfl
  have hpanel (u : State) (p : Fin 4) : (u.resetPanel p).KeepsResults x u := by
    have hfree := (State.abandonCapture_keepsResults (s := u) (x := x) p).trans
      (State.onPanel_keepsResults p fun q => { q.freeTracks with drift := 0 })
    unfold State.resetPanel
    simp only
    split
    · exact hfree.trans (State.onPanel_keepsResults p _)
    · exact hfree
  have hended (u : State) : ({ u with screens := u.screens.map Screen.endSession } : State).KeepsResults x u :=
    State.endSessions_keepsResults rfl rfl
  exact (((State.abortWork_keepsResults.trans (.foldl hscreen four _)).trans (hcheck _)).trans
    (.foldl hpanel four _)).trans (hended _)

/-- A REPORT_MASK keeps the laws up to its reply (11 R189). -/
theorem State.unmask_keepsResults (k : MaskKind) : (s.unmask k).KeepsResults x s := by
  unfold State.unmask
  split
  · exact State.KeepsResults.trans (.onLink ⟨rfl, rfl, rfl, rfl⟩) (State.queueReport_keepsResults ..)
  · exact .refl s

/-! ## Transmission and the resets (02 R37, R38, 11 R187) -/

/-- Where no screen holds an entry or has released a result, and nothing but a report without a place is queued, the laws
hold. -/
theorem State.keepsResults_of_reset {rate : BitVec 2} {report : Option OutItem}
    (hlink : s.link = { LinkState.reset rate with reports := report.toList })
    (hscreens : s.screens = .replicate 4 .reset) (hplain : ∀ y, report = some y → y.release = none) :
    s.KeepsResults x t := by
  have hscreen (j : Fin 4) : s.screens[j.val] = Screen.reset := by rw [hscreens, replicate_get]
  refine ⟨fun _ => ?_, fun _ => ⟨?_, ?_⟩, fun _ j => ?_, fun j _ _ => ?_⟩
  · have hnil : ({ s with link := LinkState.reset rate } : State).ReleaseOrder :=
      ⟨⟨[], rfl, rfl, List.Pairwise.nil⟩, nofun⟩
    cases report with
    | none => exact hnil.append [] (by rw [hlink]; rfl) (by rw [hlink]; rfl) List.Pairwise.nil nofun fun _ => Nat.le_refl _
    | some y =>
      refine hnil.append [(.reports, y)] (by rw [hlink]; rfl) (by rw [hlink]; rfl) (List.pairwise_singleton ..)
        (fun z hz j n hn => ?_) fun _ => Nat.le_refl _
      rw [List.mem_singleton.mp hz, hplain y rfl] at hn
      cases hn
  · rw [hlink, hscreens]
    rfl
  · rw [hlink]
    cases report with
    | none => exact Nat.zero_le 32
    | some y => exact (by decide : 1 ≤ 32)
  · rw [hscreen]
    exact Screen.reset_law.1
  · rw [hscreen]
    exact Screen.reset_law.2

/-- A part right after a reset meets the laws. -/
theorem State.started_keepsResults (rate : BitVec 2) (cause : Byte) (pending : List Instr) :
    ({ State.started rate cause with pending := pending } : State).KeepsResults x s :=
  State.keepsResults_of_reset (rate := rate) (report := some (startedReport cause)) rfl rfl fun _ hy => by cases hy; rfl

/-- The items of a queue, item by item. -/
theorem itemsOf_cons (q : OutQueue) (y : OutQueue × OutItem) (ys : List (OutQueue × OutItem)) :
    itemsOf q (y :: ys) = if y.1 = q then y.2 :: itemsOf q ys else itemsOf q ys := by
  by_cases hy : y.1 = q <;> simp [itemsOf, hy]

/-- The head of a queue can be taken out of a history of both queues. -/
theorem history_pop {q : OutQueue} {a : OutItem} {as : List OutItem} {history : List (OutQueue × OutItem)}
    (h : itemsOf q history = a :: as) :
    ∃ left, left.Sublist history ∧ itemsOf q left = as ∧ ∀ p, p ≠ q → itemsOf p left = itemsOf p history := by
  induction history with
  | nil => cases h
  | cons y ys ih =>
    by_cases hy : y.1 = q
    · rw [itemsOf_cons, if_pos hy] at h
      exact ⟨ys, List.sublist_cons_self y ys, (List.cons.inj h).2, fun p hp => by
        rw [itemsOf_cons, if_neg fun e => hp (e.symm.trans hy)]⟩
    · rw [itemsOf_cons, if_neg hy] at h
      obtain ⟨left, hsub, hq, hother⟩ := ih h
      exact ⟨y :: left, hsub.cons_cons y, by rw [itemsOf_cons, if_neg hy, hq], fun p hp => by
        rw [itemsOf_cons, itemsOf_cons, hother p hp]⟩

/-- The items of both queues, each in its order. -/
def LinkState.items (l : LinkState) : OutQueue → List OutItem
  | .replies => l.replies
  | .reports => l.reports

/-- A queue whose head has left keeps the release order (11 R187). -/
theorem State.ReleaseOrder.pop {q : OutQueue} {a : OutItem} (h : s.ReleaseOrder)
    (hq : s.link.items q = a :: t.link.items q) (hother : ∀ p, p ≠ q → t.link.items p = s.link.items p)
    (hscreens : t.screens = s.screens) : t.ReleaseOrder := by
  obtain ⟨⟨history, hr, hp, hpairs⟩, hbound⟩ := h
  have hhistory (p : OutQueue) : itemsOf p history = s.link.items p := by
    cases p with
    | replies => exact hr
    | reports => exact hp
  obtain ⟨left, hsub, hleft, hkept⟩ := history_pop ((hhistory q).trans hq)
  have hitems (p : OutQueue) : itemsOf p left = t.link.items p := by
    by_cases hpq : p = q
    · rw [hpq, hleft]
    · rw [hkept p hpq, hhistory, hother p hpq]
  have hsubset (p : OutQueue) : t.link.items p ⊆ s.link.items p := by
    by_cases hpq : p = q
    · rw [hpq, hq]
      exact List.subset_cons_self ..
    · rw [hother p hpq]
      exact List.Subset.refl _
  refine ⟨⟨left, hitems .replies, hitems .reports, hpairs.sublist hsub⟩, fun b hb => ?_⟩
  rw [hscreens]
  refine hbound b (List.mem_append.mpr ?_)
  exact (List.mem_append.mp hb).imp (fun hb => hsubset .replies hb) fun hb => hsubset .reports hb

/-- The arbiter keeps the laws: a report that it sends keeps its slot (11 R186, R187). -/
theorem State.arbitrate_keepsResults : (s.onLink LinkState.arbitrate).KeepsResults x s := by
  obtain heq | ⟨hidle, a, as, hqueue, -, heq⟩ | ⟨hidle, a, as, hqueue, -, heq⟩ := s.link.arbitrate_cases
  · exact .onLink (by rw [heq]; exact ⟨rfl, rfl, rfl, rfl⟩)
  · have hlink : (s.onLink LinkState.arbitrate).link = s.link.send .replies a as := heq
    rw [LinkState.send_replies] at hlink
    refine ⟨fun h => h.pop (q := .replies) (a := a) ?_ (fun p hp => ?_) rfl, fun ⟨hcount, hheld⟩ => ⟨?_, ?_⟩, id,
      fun _ _ => id⟩
    · rw [hlink]
      exact hqueue
    · rw [hlink]
      cases p with
      | replies => exact absurd rfl hp
      | reports => rfl
    · rw [hlink]
      exact hcount
    · rw [hlink]
      rw [LinkState.reportsHeld, hidle] at hheld
      exact hheld
  · have hlink : (s.onLink LinkState.arbitrate).link = s.link.send .reports a as := heq
    rw [LinkState.send_reports] at hlink
    refine ⟨fun h => h.pop (q := .reports) (a := a) ?_ (fun p hp => ?_) rfl, fun ⟨hcount, hheld⟩ => ⟨?_, ?_⟩, id,
      fun _ _ => id⟩
    · rw [hlink]
      exact hqueue
    · rw [hlink]
      cases p with
      | replies => rfl
      | reports => exact absurd rfl hp
    · rw [hlink]
      exact hcount
    · rw [hlink]
      rw [LinkState.reportsHeld, hidle, hqueue] at hheld
      exact hheld

/-- The end of a transmission keeps the laws: it frees the slot of a report (11 R186). -/
theorem State.sent_keepsResults (y : Sending) : (s.onLink fun l => l.sent y).KeepsResults x s := by
  have hlink : (s.link.sent y).replies = s.link.replies ∧ (s.link.sent y).reports = s.link.reports
      ∧ (s.link.sent y).reserved = s.link.reserved ∧ (s.link.sent y).sending = none := by
    unfold LinkState.sent
    split <;> exact ⟨rfl, rfl, rfl, rfl⟩
  obtain ⟨hreplies, hreports, hreserved, hsending⟩ := hlink
  refine ⟨fun h => h.append [] (hreplies.trans (List.append_nil _).symm) (hreports.trans (List.append_nil _).symm)
    List.Pairwise.nil nofun fun _ => Nat.le_refl _, fun ⟨hcount, hheld⟩ => ⟨hreserved.trans hcount, ?_⟩, id, fun _ _ => id⟩
  have hless : (s.link.sent y).reportsHeld ≤ s.link.reportsHeld := by
    rw [LinkState.reportsHeld, hsending, hreports, LinkState.reportsHeld]
    exact Nat.le_add_right ..
  have hgoal : (s.link.sent y).reportsHeld + (s.link.sent y).reserved ≤ 32 := by omega
  exact hgoal

/-! ## Every command and every step -/

/-- What the pin gates keeps the laws where its operation does. -/
theorem answers_keepsResults {f : State → State} (hf : (f s).KeepsResults none s) :
    Answers (whileRunning s f) fun t => t.KeepsResults none s :=
  answers_whileRunning (law := fun t => t.KeepsResults none s) (.refl s) hf

/-- The head frame that has been taken. -/
theorem State.taken_keepsResults (rest : List InFrame) : (s.taken rest).KeepsResults x s :=
  .of_same ⟨rfl, rfl, rfl, rfl⟩ rfl

/-- A request keeps the laws where its owner does. -/
theorem request_keepsResults {cls : Byte} {row : List Byte → Bool} {owner : Byte → List Byte → State → State}
    (howner : ∀ tag p u, (owner tag p u).KeepsResults none u) :
    Answers (whileRunning s fun s => s.dispatch cls row owner) fun t => t.KeepsResults none s := by
  refine answers_keepsResults ?_
  obtain hd | ⟨tag, p, rest, -, -, -, -, ⟨-, hd⟩ | ⟨-, -, hd⟩ | ⟨-, -, hd⟩⟩ := s.dispatch_cases cls row owner <;> rw [hd]
  · exact .refl s
  · exact (State.taken_keepsResults rest).trans (State.reply_keepsResults ..)
  · exact (State.taken_keepsResults rest).trans (State.reply_keepsResults ..)
  · exact (State.taken_keepsResults rest).trans (howner tag p _)

/-- A request that answers a reply and changes neither the link nor the screens otherwise. -/
theorem request_reply_keepsResults {cls : Byte} {row : List Byte → Bool} {owner : Byte → List Byte → State → State}
    (howner : ∀ tag p u, ∃ (v : State) (c : Byte) (payload : List Byte), owner tag p u = v.reply c tag payload
      ∧ v.link.SameOutbound u.link ∧ v.screens = u.screens) :
    Answers (whileRunning s fun s => s.dispatch cls row owner) fun t => t.KeepsResults none s :=
  request_keepsResults fun tag p u => by
    obtain ⟨v, c, payload, heq, hlink, hscreens⟩ := howner tag p u
    rw [heq]
    exact (State.KeepsResults.of_same hlink hscreens).trans (State.reply_keepsResults ..)

/-- A received frame or byte, or none, changes nothing outbound. -/
theorem LinkState.receiveAll_sameOutbound (l : LinkState) (bytes : List Byte) : (l.receiveAll bytes).SameOutbound l := by
  induction bytes generalizing l with
  | nil => exact ⟨rfl, rfl, rfl, rfl⟩
  | cons b bs ih =>
    obtain ⟨-, hreplies, hreports, hreserved, hsending, -⟩ := l.receive_keeps b
    obtain ⟨kreplies, kreports, kreserved, ksending⟩ := ih (l.receive b)
    exact ⟨kreplies.trans hreplies, kreports.trans hreports, kreserved.trans hreserved, ksending.trans hsending⟩

/-- Every command keeps the laws. -/
theorem exec_keepsResults (c : Instr) : Answers (exec c s) fun t => t.KeepsResults none s := by
  cases c with
  | frameReceived cls tag payload check =>
    exact answers_keepsResults (f := fun s => s.onLink fun l => l.receiveAll (rawFrame cls tag payload check))
      (.onLink (s.link.receiveAll_sameOutbound _))
  | linkByteReceived b =>
    exact answers_keepsResults (f := fun s => s.onLink fun l => l.receive b)
      (.onLink (s.link.receiveAll_sameOutbound [b]))
  | receiveGapTimeout =>
    exact answers_keepsResults (f := fun s => s.onLink LinkState.gapTimeout) (.onLink ⟨rfl, rfl, rfl, rfl⟩)
  | transmitStart =>
    exact answers_keepsResults (f := fun s => s.onLink LinkState.arbitrate) State.arbitrate_keepsResults
  | transmitComplete =>
    rw [exec, execTransmitComplete]
    refine answers_keepsResults ?_
    split
    · exact .refl s
    · split
      · exact State.started_keepsResults ..
      · exact State.sent_keepsResults _
  | resetPinAssert =>
    exact ⟨_, rfl, State.keepsResults_of_reset (rate := s.link.rate) (report := none) rfl rfl nofun⟩
  | resetPinRelease straps =>
    refine ⟨_, rfl, ?_⟩
    split
    · exact State.started_keepsResults ..
    · exact .refl s
  | sweepExamination => exact answers_keepsResults (f := fun s => { s with rcc := s.rcc.examine }) (.of_eq rfl rfl)
  | compositionEnd => exact answers_keepsResults (f := State.endComposition) (.of_eq (by simp) (by simp))
  | routeFinalisation => exact answers_keepsResults State.finaliseNext_keepsResults
  | directoryExamination => exact answers_keepsResults State.examineListing_keepsResults
  | mapCheckEnd => exact answers_keepsResults State.endCheck_keepsResults
  | settleStep u =>
    refine answers_keepsResults ?_
    split
    · exact (State.serve_keepsResults.from_eq (by simp) (by simp)).trans State.answerFreezing_keepsResults
    · exact .refl s
  | sessionExpiry i =>
    refine answers_keepsResults ?_
    split
    · exact State.expire_keepsResults i
    · exact .refl s
  | frameTimerExpiry p =>
    refine answers_keepsResults ?_
    split
    · exact State.frameTimeout_keepsResults p
    · exact .refl s
  | panelFrameReceived p samples =>
    rw [exec, execPanelFrameReceived]
    refine answers_keepsResults ?_
    simp only
    split
    · exact .refl s
    · split
      · exact State.onPanel_keepsResults p _
      · exact State.bufferFrame_keepsResults p _
  | frameProcessingStart p => exact answers_keepsResults (f := fun s => s.takeFrame p) (State.takeFrame_keepsResults p)
  | frameProcessed p => exact answers_keepsResults (f := fun s => s.finishFrame p) (State.finishFrame_keepsResults p)
  | unknownClass =>
    rw [exec, execUnknownClass]
    refine answers_keepsResults ?_
    split
    · exact .refl s
    · rename_i f t hd
      split
      · exact .refl s
      · have ht : t.KeepsResults none s := by
          simp only [State.dispatchHead] at hd
          split at hd
          · cases hd
          · split at hd
            · cases hd
            · cases hd
              exact .onLink ⟨rfl, rfl, rfl, rfl⟩
        exact ht.trans (State.queueReply_keepsResults rfl)
  | stateGet => exact request_reply_keepsResults fun tag p u => ⟨_, _, _, rfl, ⟨rfl, rfl, rfl, rfl⟩, rfl⟩
  | loadOpen | loadWrite | loadRead | segmentSet | listingSet =>
    exact request_reply_keepsResults fun tag p u => ⟨_, _, _, rfl, by simp [LinkState.SameOutbound], by simp⟩
  | mapCommit => exact request_keepsResults fun tag p u => .of_eq rfl rfl
  | modeSet => exact request_keepsResults fun tag p u => State.modeSet_keepsResults tag _
  | reportMask =>
    refine request_keepsResults fun tag p u => ?_
    have hmask (f : LinkState → LinkState) (hf : (f u.link).SameOutbound u.link) : (u.onLink f).KeepsResults none u :=
      .onLink hf
    exact ((hmask _ ⟨rfl, rfl, rfl, rfl⟩).trans (.foldl (fun _ k => State.unmask_keepsResults k) MaskKind.all _)).trans
      (State.reply_keepsResults ..)
  | resetFull =>
    refine request_keepsResults fun tag p u => ?_
    split
    · exact (State.queueReply_keepsResults rfl).from_eq rfl rfl
    · exact State.reply_keepsResults ..
  | resetSessions =>
    refine request_keepsResults fun tag p u => ?_
    split
    · exact State.resetSessions_keepsResults.trans (State.reply_keepsResults ..)
    · exact State.reply_keepsResults ..
  | hotspotsSet =>
    refine request_keepsResults fun tag p u => ?_
    split
    · exact (State.onPanel_keepsResults _ _).trans (State.reply_keepsResults ..)
    · exact State.reply_keepsResults ..
  | unitPeek =>
    refine request_keepsResults fun tag p u => ?_
    split
    · exact State.reply_keepsResults ..
    · exact State.reply_keepsResults ..
  | panelSet =>
    refine request_keepsResults fun tag p u => ?_
    split
    · exact State.reply_keepsResults ..
    · split
      · exact State.reply_keepsResults ..
      · split
        · exact State.reply_keepsResults ..
        · exact ((State.onPanel_keepsResults _ _).trans (State.panelTransition_keepsResults _ _)).trans
            (State.reply_keepsResults ..)
  | panelInject =>
    refine request_keepsResults fun tag p u => ?_
    simp only
    split
    · exact State.reply_keepsResults ..
    · split
      · exact State.reply_keepsResults ..
      · split
        · exact State.answerInject_keepsResults ..
        · exact State.bufferFrame_keepsResults ..
  | baselineCapture =>
    refine request_keepsResults fun tag p u => ?_
    split
    · exact State.reply_keepsResults ..
    · split
      · exact State.reply_keepsResults ..
      · exact State.reply_keepsResults ..
      · exact State.reply_keepsResults ..
      · exact State.reply_keepsResults ..
      · exact (State.cancelTracks_keepsResults _).trans (State.onPanel_keepsResults _ _)
  | screenSet =>
    refine request_keepsResults fun tag p u => ?_
    split
    · exact State.reply_keepsResults ..
    · split
      · exact State.reply_keepsResults ..
      · rename_i htest
        exact (State.configureScreen_keepsResults htest).trans (State.reply_keepsResults ..)
  | routeAsk =>
    exact request_keepsResults fun tag p u => State.screenBound_keepsResults fun v i henabled =>
      State.askRoute_keepsResults henabled tag p
  | directoryAsk =>
    exact request_keepsResults fun tag p u => State.screenBound_keepsResults fun v i henabled =>
      State.askDirectory_keepsResults henabled tag p
  | fence =>
    refine request_keepsResults fun tag p u => State.screenBound_keepsResults fun v i henabled => ?_
    split
    · exact State.reply_keepsResults ..
    · rename_i hroom
      exact (State.join_keepsResults henabled (by simpa using hroom) tag _ _).release
  | cancel =>
    exact request_keepsResults fun tag p u => State.screenBound_keepsResults fun v i _ =>
      ((State.cancelEntries_keepsResults i false).trans State.serve_keepsResults).trans (State.reply_keepsResults ..)

/-- A millisecond keeps the laws. -/
theorem State.tick_keepsResults : s.tick.KeepsResults none s := by
  have hscreen (u : State) (i : Fin 4) : (u.tickScreen i).KeepsResults none u := by
    have hidle : (u.onScreen i fun c => { c with idle := c.idle.map (· + 1) }).KeepsResults none u := by
      refine .onSession rfl rfl fun ⟨hlen, htext, hsymbols, hactive, hmin, hmax, hdisabled⟩ => ?_
      refine ⟨hlen, htext, hsymbols, by simpa using hactive, hmin, hmax, fun he => ?_⟩
      obtain ⟨ha, hi, ht, hterms, hout⟩ := hdisabled he
      exact ⟨ha, by simp [hi], ht, hterms, hout⟩
    unfold State.tickScreen
    simp only
    split
    · exact hidle.trans (State.expire_keepsResults i)
    · exact hidle
  have hpanel (u : State) (p : Fin 4) : (u.tickPanel p).KeepsResults none u := by
    unfold State.tickPanel
    simp only
    split
    · split
      · exact State.onPanel_keepsResults p _
      · exact State.frameTimeout_keepsResults p
    · exact .refl u
  have hgap : (s.onLink LinkState.tickGap).KeepsResults none s := by
    refine .onLink ?_
    unfold LinkState.tickGap
    split
    · exact ⟨rfl, rfl, rfl, rfl⟩
    · split <;> exact ⟨rfl, rfl, rfl, rfl⟩
    · split <;> exact ⟨rfl, rfl, rfl, rfl⟩
  unfold State.tick
  split
  · exact .refl s
  · exact (hgap.trans (.foldl hpanel four _)).trans (.foldl hscreen four _)

end

/-- A law that follows from what every event keeps of the results, and does not read the waiting commands, is kept by every
step. -/
theorem keptByEveryStep_of_keepsResults {law : State → Prop}
    (hframe : ∀ (u : State) rest, law u → law { u with pending := rest })
    (hlaw : ∀ u v : State, v.KeepsResults none u → law u → law v) : KeptByEveryStep law :=
  keptByEveryStep_of_exec hframe
    (fun c u hu => by
      obtain ⟨v, hv, hkeeps⟩ := exec_keepsResults (s := u) c
      exact ⟨v, hv, hlaw u v hkeeps hu⟩)
    (fun u hu => hlaw u u.tick State.tick_keepsResults hu)

/-- Settles O59: every event keeps both laws (State.KeepsResults), from one result that leaves up to the command. -/
theorem linkLawsKept : Obligations.LinkLawsKept :=
  ⟨keptByEveryStep_of_keepsResults (fun _ _ hu => hu) fun _ _ hkeeps => hkeeps.order,
    keptByEveryStep_of_keepsResults (fun _ _ hu => hu) fun _ _ hkeeps => hkeeps.slots⟩

/-- Settles O58: every event keeps the laws of the sessions, and a release follows wherever a head may have become DONE
(State.KeepsResults). -/
theorem sessionLawKept : Obligations.SessionLawKept :=
  keptByEveryStep_of_keepsResults (fun _ _ hu => hu) fun _ _ hkeeps ⟨hsessions, hheads⟩ =>
    ⟨hkeeps.sessions hsessions, fun j => hkeeps.heads j nofun (hheads j)⟩

end Sys2Proof.Machine
end

section
/-! PROOFS. FENCE (09 R154). -/

namespace Sys2Proof.Machine

section
variable {s : State} {i : Fin 4} {tag : Byte} {token : BitVec 32} {rest : List InFrame} {c : Screen}

/-- The entry of a FENCE: DONE from the moment it joins (09 R154). -/
def Screen.fenceEntry (c : Screen) (tag : Byte) (token : BitVec 32) : Entry :=
  { id := c.nextId, asker := .host tag, ask := .fence token, result := some (.bare .ok) }

/-- The state in which a FENCE has joined its screen's list (09 R148, R150). -/
def State.fenceJoined (s : State) (i : Fin 4) (tag : Byte) (token : BitVec 32) (rest : List InFrame) (c : Screen) : State :=
  { s.taken rest with screens := s.screens.set i.val { c with
      active := true, idle := some 0, nextId := c.nextId + 1
      outstanding := c.outstanding ++ [c.fenceEntry tag token] } }

/-- The fields of a FENCE (09 R154, 11 R185). -/
theorem fence_fields (i : Fin 4) (token : BitVec 32) :
    field ([BitVec.ofNat 8 i.val] ++ le 4 token.toNat) 0 1 = i.val
      ∧ BitVec.ofNat 32 (field ([BitVec.ofNat 8 i.val] ++ le 4 token.toNat) 1 4) = token := by
  have htoken : field ([BitVec.ofNat 8 i.val] ++ le 4 token.toNat) 1 4 = token.toNat := by
    have hfield : field ([BitVec.ofNat 8 i.val] ++ le 4 token.toNat) 1 4 = ofLe (le 4 token.toNat) := rfl
    rw [hfield, ofLe_le]
    exact Nat.mod_eq_of_lt token.isLt
  have hi : (BitVec.ofNat 8 i.val).toNat = i.val := Nat.mod_eq_of_lt (by omega)
  exact ⟨(field_cons_zero _ _).trans hi, by rw [htoken, BitVec.ofNat_toNat, BitVec.setWidth_eq]⟩

/-- A FENCE restarts the session of its screen: BUSY on a full list, and else it joins as DONE and what is DONE at the head
of the list is released (09 R148, R154). -/
theorem exec_fence_eq (h : s.headIs 0x0D tag ([BitVec.ofNat 8 i.val] ++ le 4 token.toNat) rest)
    (hc : c = s.screens[i.val]) (henabled : c.enabled = true) :
    exec .fence s = .next (if (s.askTouched i rest).hasRoom i = false then (s.askTouched i rest).refuse 0x0D tag .busy
      else (s.fenceJoined i tag token rest c).release i) := by
  subst hc
  obtain ⟨hi, htoken⟩ := fence_fields i token
  refine (whileRunning_dispatch _ h rfl (by rw [List.length_append, le_length]; rfl) (modeGate_open _ (by decide))).trans ?_
  rw [State.screenBound_enabled (s := s.taken rest) _ hi henabled, State.touchSession_enabled (s := s.taken rest) henabled,
    htoken]
  have hjoin : (s.askTouched i rest).join i (.host tag) (.fence token) (some (.bare .ok)) =
      s.fenceJoined i tag token rest s.screens[i.val] := by
    simp [State.askTouched, State.join, State.onScreen, State.fenceJoined, Screen.fenceEntry]
  rw [← hjoin]
  rfl

/-- The screen's list has room just while it holds fewer than 4 entries (09 R150). -/
theorem State.askTouched_hasRoom (hc : c = s.screens[i.val]) :
    (s.askTouched i rest).hasRoom i = decide (c.outstanding.length < 4) := by
  rw [State.hasRoom, State.askTouched_screen, hc]

/-- The screen whose list the FENCE has joined. -/
theorem State.fenceJoined_outstanding : (s.fenceJoined i tag token rest c).screens[i.val].outstanding =
    c.outstanding ++ [c.fenceEntry tag token] :=
  congrArg Screen.outstanding (Vector.getElem_set_self i.isLt)

/-- A FENCE alone on its list leaves at once as its reply (09 R151, R154). -/
theorem State.fenceJoined_release_alone (hempty : c.outstanding = []) :
    (s.fenceJoined i tag token rest c).release i = { s with
      link := { s.link with
        inbound := rest
        replies := s.link.replies ++
          [{ cls := 0x8D, tag := tag, payload := [0, BitVec.ofNat 8 i.val] ++ le 4 token.toNat
             release := some (i, c.released), resets := false }] }
      screens := s.screens.set i.val
        { c with active := true, idle := some 0, nextId := c.nextId + 1, released := c.released + 1 } } := by
  rw [State.release, State.fenceJoined_outstanding, hempty, List.nil_append,
    State.releaseList_go _ _ _ _ _ rfl, State.placeResult]
  simp [Screen.fenceEntry, State.releaseList, State.queueReply, State.onLink, State.onScreen, State.fenceJoined, State.taken,
    hempty, Ask.requestClass, replyClass, Entry.bytes, ResultCode.code]

/-- A FENCE behind an entry that waits stays on the list (09 R151, R154). -/
theorem State.fenceJoined_release_behind (hlist : c.outstanding ≠ []) (hwaits : c.headWaits) :
    (s.fenceJoined i tag token rest c).release i = s.fenceJoined i tag token rest c := by
  refine State.release_of_headWaits fun e he => hwaits e ?_
  rwa [State.fenceJoined_outstanding, List.head?_append_of_ne_nil _ hlist] at he

end

/-- Settles O33: a FENCE joins as DONE, so that it leaves in the same event just where nothing stands before it. -/
theorem fence : Obligations.Fence := by
  unfold Obligations.Fence
  intro s i tag token rest c h hc henabled
  rw [exec_fence_eq h hc henabled, State.askTouched_hasRoom hc]
  refine ⟨fun hempty => ?alone, fun hlist hwaits hroom => ?behind, fun hfull => ?busy⟩
  case alone =>
    rw [if_neg (by rw [hempty]; decide), State.fenceJoined_release_alone hempty]
  case behind =>
    rw [if_neg (by rw [decide_eq_true hroom]; exact Bool.noConfusion), State.fenceJoined_release_behind hlist hwaits]
    rfl
  case busy =>
    rw [if_pos (decide_eq_false (Nat.not_lt.mpr hfull)), hc]
    rfl

end Sys2Proof.Machine
end

section
/-! PROOFS. A ROUTE_ASK that misses in the cache (04 R55, R56, 06 R104, 09 R153). -/

namespace Sys2Proof.Machine

section
variable {s : State} {i : Fin 4} {tag : Byte} {kind : DestKind} {number : Nat} {options profile : Byte} {origin : Nat}
  {rest : List InFrame} {k : Key} {c d : Screen} {r : CacheState} {queue : List SearchEntry}

/-- The head frame has left the inbound queue, with this screen, this cache and this search queue after it. -/
def State.routeQueued (s : State) (i : Fin 4) (rest : List InFrame) (d : Screen) (r : CacheState) (queue : List SearchEntry) :
    State :=
  { s.taken rest with screens := s.screens.set i.val d, rcc := r, search := { s.search with queue := queue } }

/-- The screen whose list a route request has joined (09 R148, R150). -/
def Screen.askingRoute (c : Screen) (tag : Byte) (k : Key) (explicit : Bool) : Screen :=
  { c with active := true, idle := some 0, nextId := c.nextId + 1
           outstanding := c.outstanding ++
            [{ id := c.nextId, asker := .host tag, ask := .route k explicit, result := none }] }

/-- The entry that has joined waits behind what waited before it (09 R151). -/
theorem State.routeQueued_release (hwaits : c.headWaits) (hd : d = c.askingRoute tag k (options.getLsbD 1)) :
    (s.routeQueued i rest d r queue).release i = s.routeQueued i rest d r queue := by
  refine State.release_of_headWaits ?_
  rw [State.routeQueued, Vector.getElem_set_self, hd]
  exact Screen.headWaits_append
    (e := { id := c.nextId, asker := .host tag, ask := .route k (options.getLsbD 1), result := none }) hwaits rfl rfl

/-- A ROUTE_ASK that misses joins its screen's list and the search queue, and the units take what they can (04 R56,
09 R153). -/
theorem State.routeAsked.missed (h : s.routeAsked i tag kind number options profile origin rest)
    (hc : c = s.screens[i.val]) (hk : k = c.askedKey kind number options profile origin) (hroom : c.outstanding.length < 4)
    (hwaits : c.headWaits) (hshown : kind = .listing → (s.listing number).status ≠ .hidden) (hrco : s.rco.queue = [])
    (hdir : s.dir.queue = []) (hmiss : s.MissesWith k r) (hd : d = c.askingRoute tag k (options.getLsbD 1)) :
    exec .routeAsk s = .next (s.routeQueued i rest d r (joinQueue k (c.askRef i) s.search.queue)).giveUnits := by
  have hshown' : ¬ (k.kind = .listing ∧ (s.listing k.number.toNat).status = .hidden) := by
    obtain ⟨-, -, -, hnumber, -⟩ := h
    rw [hk, c.askedKey_number kind options profile origin hnumber]
    exact fun ⟨hlisting, hhidden⟩ => hshown hlisting hhidden
  have href : (s.askTouched i rest).nextRef i = c.askRef i := by rw [State.nextRef, State.askTouched_screen, hc]; rfl
  have hdispatch : (s.askJoined i tag k (options.getLsbD 1) rest).dispatchRoute (c.askRef i) k (options.getLsbD 1) =
      s.routeQueued i rest d r (joinQueue k (c.askRef i) s.search.queue) := by
    rw [State.dispatchRoute_miss (s := s.askJoined i tag k (options.getLsbD 1) rest) hshown' hmiss, State.askJoined_eq _ hc,
      hd]
    rfl
  have hjoin : (s.askTouched i rest).joinRoute i tag k (options.getLsbD 1) =
      (s.routeQueued i rest d r (joinQueue k (c.askRef i) s.search.queue)).serve := by
    rw [State.joinRoute, href]
    refine (congrArg (fun t : State => (t.release i).serve) hdispatch).trans ?_
    rw [State.routeQueued_release hwaits hd]
  rw [h.exec_eq, State.askTouched_hasRoom hc, if_neg (by rw [decide_eq_true hroom]; exact Bool.noConfusion), ← hc, ← hk,
    hjoin, State.serve_searches]
  · exact hrco
  · exact hdir

/-- In FROZEN the mode is not SERVICE. -/
theorem Mode.ne_service_of_frozen {m : Mode} (h : m = .frozen) : m ≠ .service := by rw [h]; exact Mode.noConfusion

/-- A merge lets no entry wait that did not wait before it. -/
theorem noneWaits_merge {ref : Ref} (h : NoneWaits queue) :
    NoneWaits (queue.map fun e => if e.key = k then { e with requesters := e.requesters ++ [ref] } else e) := by
  intro y hy
  obtain ⟨e, he, rfl⟩ := List.mem_map.mp hy
  have hkeeps : (if e.key = k then { e with requesters := e.requesters ++ [ref] } else e).unit = e.unit := by split <;> rfl
  rw [hkeeps]
  exact h e he

end

/-- Settles O28: the request joins the queue as a new entry or merges, and then the units take what they can. -/
theorem routeAskMiss : Obligations.RouteAskMiss := by
  unfold Obligations.RouteAskMiss
  intro s i tag kind number options profile origin rest h c d k r hc hk hroom hwaits hshown hrco hdir hmiss hd
  rw [h.missed hc hk hroom hwaits hshown hrco hdir hmiss hd]
  refine ⟨fun hidle hnew => ?queued, fun hidle hlaw hold => ?merged, fun u hm hunit hfirst hnone hnew => ?begun⟩
  case queued =>
    rw [joinQueue_new hnew]
    exact congrArg Host.Outcome.next (State.giveUnits_idle (.inr (hidle.imp_left Mode.ne_service_of_frozen)))
  case merged =>
    obtain ⟨hnodup, -⟩ := hlaw
    rw [joinQueue_merge hnodup hold]
    refine congrArg Host.Outcome.next (State.giveUnits_idle ?_)
    obtain hm | hbusy | hnone := hidle
    · exact .inr (.inl (Mode.ne_service_of_frozen hm))
    · exact .inr (.inr hbusy)
    · exact .inl (noneWaits_merge hnone)
  case begun =>
    rw [joinQueue_new hnew]
    exact congrArg Host.Outcome.next (State.giveUnits_last
      (s := s.routeQueued i rest d r (s.search.queue ++ [{ key := k, requesters := [c.askRef i], unit := none }]))
      (e := { key := k, requesters := [c.askRef i], unit := none }) hm rfl hnone rfl hunit hfirst)

end Sys2Proof.Machine
end

section
/-! PROOFS. The expiry of a session (09 R149). -/

namespace Sys2Proof.Machine

section
variable {s : State} {i : Fin 4} {refs : List Ref}

/-! ## A detachment that sets no engine to other work (04 R56, 05 R81, 08 R137) -/

/-- The composer keeps its job, or has no place left to take (05 R81). -/
theorem State.afterDetaching_serveComposer
    (h : (∃ j, s.rco.job = some j ∧ allAmong refs j.requesters = false)
      ∨ ∀ u ∈ s.rco.queue, s.drops refs u = true ∧ s.search.units[u.val].state = .handoff) :
    (s.afterDetaching refs).serveComposer = s.afterDetaching refs := by
  obtain ⟨j, hj, hkept⟩ | hdropped := h
  · refine State.takePlaces_busy _ _ { j with requesters := j.requesters.filter fun r => !refs.contains r } ?_
    simp only [State.afterDetaching, hj, hkept, Bool.false_eq_true, if_false]
  · refine State.serveComposer_rest (List.filter_eq_nil_iff.mpr fun u hu => ?_)
    obtain ⟨hdrops, hhandoff⟩ := hdropped u hu
    simp [hdrops, hhandoff]

/-- No unit that is IDLE finds an entry that waits, or the mode is not SERVICE (04 R56). -/
theorem State.afterDetaching_giveUnits
    (h : s.mod.mode ≠ .service ∨ (∀ e ∈ s.search.queue, e.unit = none → allAmong refs e.requesters = true)
      ∨ ∀ u : Fin 2, s.search.units[u.val].state ≠ .idle ∧ s.drops refs u = false) :
    (s.afterDetaching refs).giveUnits = s.afterDetaching refs := by
  refine State.giveUnits_idle ?_
  obtain hm | hgone | hbusy := h
  · exact .inr (.inl hm)
  · refine .inl fun e he hunit => ?_
    obtain ⟨y, hy, rfl⟩ := List.mem_map.mp he
    obtain ⟨hy, hkept⟩ := List.mem_filter.mp hy
    rw [hgone y hy hunit] at hkept
    exact Bool.noConfusion hkept
  · refine .inr (.inr fun u => ?_)
    obtain ⟨hstate, hdrops⟩ := hbusy u
    simp [State.afterDetaching, hdrops, hstate]

/-- The directory keeps its scan, or has no query left (08 R137). -/
theorem State.afterDetaching_serveDirectory (h : s.dir.scan ≠ none ∨ ∀ q ∈ s.dir.queue, q.ref ∈ refs) :
    (s.afterDetaching refs).serveDirectory = s.afterDetaching refs := by
  obtain hscan | hgone := h
  · obtain ⟨z, hz⟩ := Option.ne_none_iff_exists'.mp hscan
    refine State.takeQueries_busy (s := s.afterDetaching refs) _
      { z with detached := z.detached || refs.contains z.query.ref } ?_
    simp only [State.afterDetaching, hz, Option.map_some]
  · refine State.serveDirectory_rest (List.filter_eq_nil_iff.mpr fun q hq => ?_)
    simp [hgone q hq]

/-- After a detachment that sets nothing off the engines take nothing. -/
theorem State.quietAfterDetaching.serve (h : s.quietAfterDetaching refs) :
    (s.afterDetaching refs).serve = s.afterDetaching refs := by
  obtain ⟨hunits, hcomposer, hdirectory⟩ := h
  rw [State.serve, State.afterDetaching_serveComposer hcomposer, State.afterDetaching_giveUnits hunits,
    State.afterDetaching_serveDirectory hdirectory]

/-- A list of requesters, not empty, that holds none of those detached stays whole. -/
theorem requesters_apart {requesters : List Ref} (h : requesters ≠ [] ∧ ∀ r ∈ refs, r ∉ requesters) :
    allAmong refs requesters = false ∧ (requesters.filter fun r => !refs.contains r) = requesters := by
  obtain ⟨hne, hapart⟩ := h
  have hfilter : (requesters.filter fun r => !refs.contains r) = requesters :=
    List.filter_eq_self.mpr fun r hr => by simpa using fun hin => hapart r hin hr
  exact ⟨by rw [← allAmong_eq, hfilter, List.isEmpty_eq_false_iff]; exact hne, hfilter⟩

/-- A detachment of requesters that no search and no job holds changes the directory alone (08 R143). -/
theorem State.afterDetaching_apart
    (hqueue : ∀ e ∈ s.search.queue, e.requesters ≠ [] ∧ ∀ r ∈ refs, r ∉ e.requesters)
    (hjob : ∀ j, s.rco.job = some j → j.requesters ≠ [] ∧ ∀ r ∈ refs, r ∉ j.requesters) :
    s.afterDetaching refs = { s with dir := (s.afterDetaching refs).dir } := by
  have hdrops (u : Fin 2) : s.drops refs u = false := by
    rw [State.drops, Bool.and_eq_false_iff]
    exact .inl (List.any_eq_false.mpr fun e he => by simp [(requesters_apart (hqueue e he)).1])
  have hentries : (s.search.queue.filter fun e => !allAmong refs e.requesters) = s.search.queue :=
    List.filter_eq_self.mpr fun e he => by rw [(requesters_apart (hqueue e he)).1]; rfl
  have hkept : (s.search.queue.map fun e => { e with requesters := e.requesters.filter fun r => !refs.contains r }) =
      s.search.queue := by
    refine (List.map_congr_left fun e he => ?_).trans (List.map_id _)
    rw [(requesters_apart (hqueue e he)).2]
    rfl
  have hsearch : (s.afterDetaching refs).search = s.search := by
    simp only [State.afterDetaching, hentries, hkept, hdrops, Bool.false_eq_true, if_false, Vector.ofFn_getElem]
  have hplaces : (s.afterDetaching refs).rco.queue = s.rco.queue := by
    simp [State.afterDetaching, hdrops]
  have hheld : (s.afterDetaching refs).rco.job = s.rco.job := by
    cases hj : s.rco.job with
    | none => simp only [State.afterDetaching, hj]
    | some j =>
      obtain ⟨hall, hfilter⟩ := requesters_apart (hjob j hj)
      simp only [State.afterDetaching, hj, hall, hfilter, Bool.false_eq_true, if_false]
  have hrco : (s.afterDetaching refs).rco = s.rco := congrArg₂ ComposerState.mk hplaces hheld
  calc s.afterDetaching refs = { s with
        search := (s.afterDetaching refs).search, rco := (s.afterDetaching refs).rco
        dir := (s.afterDetaching refs).dir } := rfl
    _ = { s with dir := (s.afterDetaching refs).dir } := by rw [hsearch, hrco]

/-! ## The expiry -/

/-- The screen whose session has ended. -/
theorem State.endSession_screen : (s.onScreen i Screen.endSession).screens[i.val] = s.screens[i.val].endSession := by
  rw [State.onScreen_get, if_pos rfl]

/-- An expiry while a list holds hosts' entries alone ends the session and reports it (09 R149). -/
theorem State.expire_hosts (hhosts : ∀ e ∈ s.screens[i.val].outstanding, e.ofPanel = false)
    (hwaits : s.screens[i.val].headWaits) (hquiet : s.EnginesQuiet) (hheld : s.WorkHeld) :
    s.expire i = (s.onScreen i Screen.endSession).offerReport .session 0x45 [BitVec.ofNat 8 i.val] := by
  have hcancel : (s.onScreen i Screen.endSession).cancelEntries i true = s.onScreen i Screen.endSession := by
    refine State.cancelEntries_hosts ?_ ?_ hheld
    · rw [State.endSession_screen]
      exact hhosts
    · rw [State.endSession_screen]
      exact hwaits
  rw [State.expire, hcancel, State.serve_quiet (s := s.onScreen i Screen.endSession) hquiet]

/-- A report that finds a slot free, and its kind not masked (11 R186, R189). -/
theorem State.offerReport_free {k : MaskKind} (h : s.reportsFreely k) (cls : Byte) (payload : List Byte) :
    s.offerReport k cls payload = { s with link := { s.link with reports := s.link.reports ++
      [{ cls := cls, tag := 0, payload := payload, release := none, resets := false }] } } := by
  obtain ⟨hmask, hfree⟩ := h
  rw [State.offerReport, if_neg (by rw [hmask]; exact Bool.noConfusion), State.queueReport_free hfree]

/-- A report of a masked kind is discarded, and its pending flag set (11 R189). -/
theorem State.offerReport_masked {k : MaskKind} (h : s.link.masked k = true) (cls : Byte) (payload : List Byte) :
    s.offerReport k cls payload =
      { s with link := { s.link with suppressed := s.link.suppressed ||| (1#6 <<< k.code) } } := by
  rw [State.offerReport, if_pos h]
  rfl

/-- A panel's query that waits, alone on its screen's list. -/
def Screen.QueryWaits (c : Screen) (id : Nat) (seq : Byte) (off : BitVec 16) : Prop :=
  c.outstanding = [{ id := id, asker := .panel seq, ask := .directory off, result := none }]

/-- The MATCHES report of a panel's query that leaves CANCELLED (08 R142, 09 R149, R191). -/
def cancelledMatches (i : Fin 4) (seq : Byte) (off : BitVec 16) (place : Nat) : OutItem :=
  { cls := 0x44, tag := 0, resets := false, release := some (i, place)
    payload := [BitVec.ofNat 8 i.val, seq, 9, 0, 0] ++ le 2 off.toNat ++ [0, 0, 0, 0, 0, 0] }

/-- The state in which a panel's query has left CANCELLED: its report stands in the slot that was reserved for it (09
R151). -/
def State.queryLeft (s : State) (i : Fin 4) (seq : Byte) (off : BitVec 16) : State :=
  { s with
    screens := s.screens.set i.val
      { s.screens[i.val] with outstanding := [], released := s.screens[i.val].released + 1 }
    link := { s.link with
      reserved := s.link.reserved - 1
      reports := s.link.reports ++ [cancelledMatches i seq off s.screens[i.val].released] } }

/-- A panel's query that leaves CANCELLED alone. -/
theorem State.afterLeaving_query {id : Nat} {seq : Byte} {off : BitVec 16} (hmask : s.link.masked .matchList = false) :
    s.afterLeaving i 9 [{ id := id, asker := .panel seq, ask := .directory off, result := none }] [] =
      s.queryLeft i seq off := by
  simp [State.afterLeaving, State.leaving, LinkState.discards, Entry.ofPanel, Ask.leavesAs, hmask, Entry.leavesAt,
    Entry.leavesWith, State.queryLeft, cancelledMatches]

/-- A cancellation of a panel's own entries reaches a query that waits alone: it leaves CANCELLED and is detached (09
R149, R160). -/
theorem State.cancelEntries_query {id : Nat} {seq : Byte} {off : BitVec 16} (h : s.screens[i.val].QueryWaits id seq off)
    (hmask : s.link.masked .matchList = false) :
    s.cancelEntries i true = (s.queryLeft i seq off).afterDetaching [{ screen := i, id := id }] := by
  rw [State.cancelEntries_panel, h, ← State.afterLeaving_query (id := id) hmask]
  rfl

/-- An expiry while a panel's query waits alone: it leaves CANCELLED before the session's report, where its detachment sets
nothing off (09 R149). -/
theorem State.expire_query {id : Nat} {seq : Byte} {off : BitVec 16} (h : s.screens[i.val].QueryWaits id seq off)
    (hmask : s.link.masked .matchList = false) (hquiet : s.quietAfterDetaching [{ screen := i, id := id }]) :
    s.expire i = (((s.onScreen i Screen.endSession).queryLeft i seq off).afterDetaching
      [{ screen := i, id := id }]).offerReport .session 0x45 [BitVec.ofNat 8 i.val] := by
  have hwaits : (s.onScreen i Screen.endSession).screens[i.val].QueryWaits id seq off := by
    rw [State.endSession_screen]
    exact h
  have hserve := State.quietAfterDetaching.serve (s := (s.onScreen i Screen.endSession).queryLeft i seq off) hquiet
  rw [State.expire, State.cancelEntries_query hwaits hmask, hserve]

/-- The detachment of a query that waits behind another's scan takes it out of the query queue alone (08 R143). -/
theorem State.afterDetaching_query {q : Query} {z : Scan} (hqueue : s.dir.queue = [q]) (hscan : s.dir.scan = some z)
    (hapart : z.query.ref ≠ q.ref) (hsearch : ∀ e ∈ s.search.queue, e.requesters ≠ [] ∧ q.ref ∉ e.requesters)
    (hjob : ∀ j, s.rco.job = some j → j.requesters ≠ [] ∧ q.ref ∉ j.requesters) :
    s.afterDetaching [q.ref] = { s with dir := { s.dir with queue := [] } } := by
  have hdir : (s.afterDetaching [q.ref]).dir = { s.dir with queue := [] } := by
    simp [State.afterDetaching, hqueue, hscan, hapart]
  rw [State.afterDetaching_apart (by simpa using hsearch) (by simpa using hjob), hdir]

/-- The report of a query takes the slot that was reserved for it (09 R156, 11 R186). -/
theorem State.queryLeft_reportsFreely {k : MaskKind} (hreserved : 1 ≤ s.link.reserved) (h : s.reportsFreely k) (seq : Byte)
    (off : BitVec 16) : (s.queryLeft i seq off).reportsFreely k := by
  obtain ⟨hmask, hfree⟩ := h
  refine ⟨hmask, ?_⟩
  simp only [State.queryLeft, LinkState.reportsHeld, List.length_append, List.length_singleton] at hfree ⊢
  omega

end

/-- Settles O35: on a list of hosts' entries the expiry cancels nothing; a panel's query is cancelled before the report. -/
theorem sessionExpiry : Obligations.SessionExpiry := by
  unfold Obligations.SessionExpiry
  intro s i c d hlow hc hd
  have hexec : exec (.sessionExpiry i) s = .next (if c.active then s.expire i else s) := by
    rw [hc]
    exact whileRunning_high hlow _
  have hended : s.onScreen i Screen.endSession = { s with screens := s.screens.set i.val d } := by
    rw [hd, hc]
    rfl
  rw [hexec]
  refine ⟨fun hoff => ?attract, fun hactive hwaits hhosts hquiet hheld => ?hosts, ?panel⟩
  case attract => rw [hoff, if_neg Bool.noConfusion]
  case hosts =>
    have hexpire := State.expire_hosts (s := s) (i := i) (fun e he => by
      obtain ⟨tag, htag⟩ := hhosts e (hc ▸ he)
      rw [Entry.ofPanel, htag]) (hc ▸ hwaits) hquiet hheld
    rw [if_pos hactive, hexpire, hended]
    exact ⟨fun hfree => congrArg _ (State.offerReport_free (s := { s with screens := s.screens.set i.val d }) hfree _ _),
      fun hmask => congrArg _ (State.offerReport_masked (s := { s with screens := s.screens.set i.val d }) (k := .session)
        hmask _ _)⟩
  case panel =>
    intro id seq off q z hactive hlist hqueue href hscan hapart hrco hunits hsearch hjob hreserved hfree hmask
    have hquiet : s.quietAfterDetaching [q.ref] :=
      ⟨.inr (.inl fun e he hunit => absurd hunit (hunits e he)), .inr (by rw [hrco]; exact nofun),
        .inl (by rw [hscan]; exact Option.some_ne_none z)⟩
    obtain ⟨t, ht⟩ : ∃ t, t = (s.onScreen i Screen.endSession).queryLeft i seq off := ⟨_, rfl⟩
    have hfreely : ({ t with dir := { t.dir with queue := [] } } : State).reportsFreely .session := by
      rw [ht]
      exact State.queryLeft_reportsFreely (s := s.onScreen i Screen.endSession) hreserved hfree seq off
    have hdetached : t.afterDetaching [q.ref] = { t with dir := { t.dir with queue := [] } } := by
      rw [ht]
      exact State.afterDetaching_query hqueue hscan hapart hsearch hjob
    rw [if_pos hactive, State.expire_query (hc ▸ hlist) hmask (href ▸ hquiet), ← ht, ← href, hdetached,
      State.offerReport_free hfreely, ht, hended, hd]
    simp [State.queryLeft, cancelledMatches, hc]

end Sys2Proof.Machine
end

section
/-! PROOFS. CANCEL (09 R155). -/

namespace Sys2Proof.Machine

section
variable {s : State} {i : Fin 4} {tag : Byte} {rest : List InFrame} {c : Screen} {refs : List Ref}

/-! ## Entries marked CANCELLED -/

/-- An entry after a CANCEL of its screen: CANCELLED, where it is not DONE (09 R155). -/
def Entry.cancelled (e : Entry) : Entry := e.finish (.bare .cancelled)

/-- A cancelled entry is DONE. -/
theorem Entry.cancelled_done (e : Entry) : e.cancelled.result ≠ none := by
  unfold Entry.cancelled Entry.finish Entry.done
  cases hr : e.result <;> simp [hr]

/-- A cancelled entry leaves as one that is not DONE does with the code of CANCELLED. -/
theorem Entry.leavesAt_cancelled (i : Fin 4) (n : Nat) (e : Entry) : e.cancelled.leavesAt i 9 n = e.leavesAt i 9 n := by
  obtain ⟨-, hasker, hask, -⟩ := e.finish_keeps (.bare .cancelled)
  have hwith : e.cancelled.leavesWith i 9 = e.leavesWith i 9 := by
    obtain ⟨id, asker, ask, result⟩ := e
    cases result with
    | some r => rfl
    | none => cases ask <;> simp [Entry.cancelled, Entry.finish, Entry.done, Entry.leavesWith, Entry.bytes, routeHeadBytes,
        emptyMatchBytes, ResultCode.code, le]
  rw [Entry.leavesAt, hwith, Entry.cancelled, hasker, hask, Entry.leavesAt]

/-- What leaves of cancelled entries. -/
theorem leavingFrom_cancelled (l : LinkState) (i : Fin 4) (n : Nat) (es : List Entry) :
    leavingFrom l i 9 n (es.map Entry.cancelled) = leavingFrom l i 9 n es := by
  induction es generalizing n with
  | nil => rfl
  | cons e es ih =>
    have hd : l.discards e.cancelled = l.discards e := l.discards_finish e _
    rw [List.map_cons, leavingFrom, leavingFrom, hd, e.leavesAt_cancelled, ih, ih]

/-- Cancelled entries leave as those that are not DONE do with the code of CANCELLED. -/
theorem State.afterLeaving_cancelled (es rest : List Entry) :
    s.afterLeaving i 9 (es.map Entry.cancelled) rest = s.afterLeaving i 9 es rest := by
  have hleaving : s.leaving i 9 (es.map Entry.cancelled) = s.leaving i 9 es := by
    rw [State.leaving_eq, State.leaving_eq, leavingFrom_cancelled]
  have hcount : (es.map Entry.cancelled).countP Entry.ofPanel = es.countP Entry.ofPanel := by
    rw [List.countP_map]
    refine List.countP_congr fun e _ => ?_
    obtain ⟨-, -, -, hpanel⟩ := e.finish_keeps (.bare .cancelled)
    rw [Function.comp_apply, Entry.cancelled, hpanel]
  have hflag (k : MaskKind) : (∃ e ∈ es.map Entry.cancelled, s.link.discards e = true ∧ e.ask.leavesAs.1 = k) ↔
      ∃ e ∈ es, s.link.discards e = true ∧ e.ask.leavesAs.1 = k := by
    have hentry (e : Entry) : (s.link.discards e.cancelled = true ∧ e.cancelled.ask.leavesAs.1 = k) ↔
        (s.link.discards e = true ∧ e.ask.leavesAs.1 = k) := by
      obtain ⟨-, -, hask, -⟩ := e.finish_keeps (.bare .cancelled)
      rw [Entry.cancelled, LinkState.discards_finish, hask]
    simp only [List.mem_map, exists_exists_and_eq_and, hentry]
  unfold State.afterLeaving
  simp only [hleaving, hcount, hflag]

/-! ## The cancellation of a whole list -/

/-- The requesters of a list's entries that are not DONE. -/
def waitingRefs (i : Fin 4) (l : List Entry) : List Ref :=
  (l.filter fun e => decide (e.result = none)).map fun e => { screen := i, id := e.id }

/-- A CANCEL reaches the entries that are not DONE (09 R155). -/
theorem State.cancelRefs_all (i : Fin 4) : s.cancelRefs i false = waitingRefs i s.screens[i.val].outstanding := by
  have hreached (e : Entry) : e.cancellable false = decide (e.result = none) := by
    unfold Entry.cancellable Entry.done
    cases e.result <;> rfl
  rw [State.cancelRefs, funext hreached, waitingRefs]

/-- A CANCEL marks the entries that it reaches. -/
theorem cancelMark_eq :
    (fun e : Entry => if e.cancellable false then { e with result := some (.bare .cancelled) } else e) =
      Entry.cancelled := by
  funext e
  unfold Entry.cancelled Entry.finish Entry.cancellable
  cases e.done <;> rfl

/-- Leaving a list and being detached from work touch different parts of the unit. -/
theorem State.afterDetaching_afterLeaving (refs : List Ref) (code : Byte) (es rest : List Entry) :
    (s.afterDetaching refs).afterLeaving i code es rest = (s.afterLeaving i code es rest).afterDetaching refs := rfl

/-- A cancellation of every entry: all leave in order, and those that were not DONE are detached from their work (09
R155). -/
theorem State.cancelEntries_all (i : Fin 4) : s.cancelEntries i false =
    (s.afterLeaving i 9 s.screens[i.val].outstanding []).afterDetaching (waitingRefs i s.screens[i.val].outstanding) := by
  obtain ⟨es, hes⟩ : ∃ es, es = s.screens[i.val].outstanding := ⟨_, rfl⟩
  obtain ⟨u, hu⟩ : ∃ u, u = s.onScreen i fun c => { c with outstanding := es.map Entry.cancelled } := ⟨_, rfl⟩
  have hmarked : (s.onScreen i fun c => { c with outstanding := c.outstanding.map Entry.cancelled }) = u := by
    rw [hu, hes]
    rfl
  have hlist : (u.afterDetaching (waitingRefs i es)).screens[i.val].outstanding = es.map Entry.cancelled ++ [] := by
    have hscreens : (u.afterDetaching (waitingRefs i es)).screens = u.screens := rfl
    rw [hscreens, hu, State.onScreen_get, if_pos rfl, List.append_nil]
  have hdone : ∀ e ∈ es.map Entry.cancelled, e.result ≠ none := by
    intro e he
    obtain ⟨y, -, rfl⟩ := List.mem_map.mp he
    exact y.cancelled_done
  have hempty : ∀ e : Entry, ([] : List Entry).head? = some e → e.result = none := by simp
  rw [State.cancelEntries, cancelMark_eq, hmarked, State.cancelRefs_all, State.detach_eq, ← hes, State.release, hlist,
    State.releaseList_done 9 _ _ hdone hempty, State.afterLeaving_cancelled, State.afterDetaching_afterLeaving, hu,
    State.afterLeaving_onScreen]

/-- A CANCEL restarts the session of its screen, cancels its entries, and is answered with their number behind what the
engines complete (09 R148, R155). -/
theorem exec_cancel_request (h : s.headIs 0x0E tag [BitVec.ofNat 8 i.val] rest) (hc : c = s.screens[i.val])
    (henabled : c.enabled = true) :
    exec .cancel s = .next (((s.askTouched i rest).cancelEntries i false).serve.reply 0x0E tag
      [0, BitVec.ofNat 8 i.val, BitVec.ofNat 8 (waitingRefs i c.outstanding).length]) := by
  subst hc
  have hi : field [BitVec.ofNat 8 i.val] 0 1 = i.val := (field_cons_zero _ _).trans (Nat.mod_eq_of_lt (by omega))
  have hrefs : (s.askTouched i rest).cancelRefs i false = waitingRefs i s.screens[i.val].outstanding := by
    rw [State.cancelRefs_all, State.askTouched_screen]
  refine (whileRunning_dispatch _ h rfl rfl (modeGate_open _ (by decide))).trans ?_
  rw [State.screenBound_enabled (s := s.taken rest) _ hi henabled, State.touchSession_enabled (s := s.taken rest) henabled,
    ← hrefs]
  rfl

/-- The state behind a CANCEL, but for its reply (09 R155). -/
def State.cancelledAll (s : State) (i : Fin 4) (rest : List InFrame) : State :=
  ((s.askTouched i rest).afterLeaving i 9 s.screens[i.val].outstanding []).afterDetaching
    (waitingRefs i s.screens[i.val].outstanding)

/-- A CANCEL whose detachment sets no engine to other work. -/
theorem exec_cancel_quiet (h : s.headIs 0x0E tag [BitVec.ofNat 8 i.val] rest) (hc : c = s.screens[i.val])
    (henabled : c.enabled = true) (hquiet : s.quietAfterDetaching (waitingRefs i c.outstanding)) :
    exec .cancel s = .next ((s.cancelledAll i rest).reply 0x0E tag
      [0, BitVec.ofNat 8 i.val, BitVec.ofNat 8 (waitingRefs i c.outstanding).length]) := by
  have hcancel : (s.askTouched i rest).cancelEntries i false = s.cancelledAll i rest := by
    rw [State.cancelEntries_all, State.askTouched_screen, State.cancelledAll]
  have hserve : (s.cancelledAll i rest).serve = s.cancelledAll i rest := State.quietAfterDetaching.serve (hc ▸ hquiet)
  rw [exec_cancel_request h hc henabled, hcancel, hserve]

/-- A CANCEL of a screen without entries changes nothing but the session (09 R155). -/
theorem State.cancelledAll_empty (hempty : s.screens[i.val].outstanding = []) (hheld : s.WorkHeld) :
    s.cancelledAll i rest = s.askTouched i rest := by
  have hleaving := State.afterLeaving_nil (s := s.askTouched i rest) i 9
  rw [State.askTouched_screen, hempty] at hleaving
  rw [State.cancelledAll, hempty, hleaving]
  exact State.afterDetaching_nil (s := s.askTouched i rest) hheld

/-- The reply of a route request that leaves CANCELLED (09 R155, 11 R191). -/
def cancelledRoute (i : Fin 4) (asked : Byte) (k : Key) (place : Nat) : OutItem :=
  { cls := 0x8B, tag := asked, resets := false, release := some (i, place)
    payload := [9, 0] ++ le 2 k.origin.toNat ++ [k.kind.code] ++ le 2 k.number.toNat ++ [0, 0]
      ++ [BitVec.ofNat 8 k.profile.val] ++ List.replicate 14 0 }

/-- A host's route request that leaves CANCELLED alone. -/
theorem State.afterLeaving_route (id : Nat) (asked : Byte) (k : Key) (x : Bool) :
    s.afterLeaving i 9 [{ id := id, asker := .host asked, ask := .route k x, result := none }] [] = { s with
      link := { s.link with replies := s.link.replies ++ [cancelledRoute i asked k s.screens[i.val].released] }
      screens := s.screens.set i.val
        { s.screens[i.val] with outstanding := [], released := s.screens[i.val].released + 1 } } := by
  simp [State.afterLeaving, State.leaving, LinkState.discards, Entry.ofPanel, Ask.leavesAs, Entry.leavesAt,
    Entry.leavesWith, cancelledRoute]

/-- The detachment of one requester from the one entry of the search queue, which waits: the entry keeps the others, and is
gone where there are none (04 R73). -/
theorem State.afterDetaching_waiting {ref : Ref} {e : SearchEntry} {others : List Ref} (hrco : s.rco.queue = [])
    (hjob : s.rco.job = none) (hdir : s.dir.queue = []) (hscan : s.dir.scan = none) (hqueue : s.search.queue = [e])
    (hunit : e.unit = none) (hrequesters : e.requesters = ref :: others) (hfresh : ref ∉ others) :
    s.afterDetaching [ref] = { s with search := { s.search with
      queue := if others = [] then [] else [{ e with requesters := others }] } } := by
  have hdrops (u : Fin 2) : s.drops [ref] u = false := by simp [State.drops, hqueue, hunit]
  have hleft : (e.requesters.filter fun r => !([ref].contains r)) = others := by
    rw [hrequesters, List.filter_cons_of_neg (by simp), List.filter_eq_self]
    intro r hr
    simpa using fun heq : r = ref => hfresh (heq ▸ hr)
  have hall : allAmong [ref] e.requesters = decide (others = []) := by
    rw [← allAmong_eq, hleft]
    cases others <;> rfl
  have hentries : (s.afterDetaching [ref]).search.queue = if others = [] then [] else [{ e with requesters := others }] := by
    simp only [State.afterDetaching, hqueue, List.filter_cons, List.filter_nil, hall]
    by_cases hnone : others = []
    · simp [hnone]
    · simp only [hnone, decide_false, Bool.not_false, if_true, List.map_cons, List.map_nil, hleft, if_false]
  have hunits : (s.afterDetaching [ref]).search.units = s.search.units := by
    simp only [State.afterDetaching, hdrops, Bool.false_eq_true, if_false, Vector.ofFn_getElem]
  have hsearch : (s.afterDetaching [ref]).search =
      { s.search with queue := if others = [] then [] else [{ e with requesters := others }] } :=
    congrArg₂ SearchState.mk hentries hunits
  have hrcoSame : (s.afterDetaching [ref]).rco = s.rco :=
    congrArg₂ ComposerState.mk (by simp [hrco]) (by rw [hjob])
  have hdirSame : (s.afterDetaching [ref]).dir = { s.dir with queue := s.dir.queue, scan := s.dir.scan } := by
    simp [State.afterDetaching, hdir, hscan]
  calc s.afterDetaching [ref] = { s with
        search := (s.afterDetaching [ref]).search, rco := (s.afterDetaching [ref]).rco
        dir := (s.afterDetaching [ref]).dir } := rfl
    _ = _ := by rw [hsearch, hrcoSame, hdirSame]

end

/-- Settles O34: every clause is the general one, in which the whole list leaves and is detached from its work. -/
theorem cancel : Obligations.Cancel := by
  unfold Obligations.Cancel
  intro s i tag rest c h hc henabled
  refine ⟨?general, fun hrco hdir hempty hheld hunits => ?empty, ?waiting⟩
  case general =>
    rintro refs t rfl hquiet rfl
    rw [exec_cancel_quiet h hc henabled hquiet, hc]
    rfl
  case empty =>
    have hquiet : s.quietAfterDetaching (waitingRefs i c.outstanding) :=
      ⟨.inr (.inl fun e he hunit => absurd hunit (hunits e he)), .inr (by rw [hrco]; exact nofun),
        .inr (by rw [hdir]; exact nofun)⟩
    have hrefs : waitingRefs i c.outstanding = [] := by rw [hempty]; rfl
    rw [exec_cancel_quiet h hc henabled hquiet, State.cancelledAll_empty (hc ▸ hempty) hheld, hrefs, hc]
    rfl
  case waiting =>
    intro id asked k x e others hrco hdir hlist hqueue hunit hrequesters hfresh hjob hscan hidle
    have hrefs : waitingRefs i c.outstanding = [{ screen := i, id := id }] := by rw [hlist]; rfl
    have hdrops (u : Fin 2) : s.drops (waitingRefs i c.outstanding) u = false := by simp [State.drops, hqueue, hunit]
    have hquiet : s.quietAfterDetaching (waitingRefs i c.outstanding) :=
      ⟨hidle.imp Mode.ne_service_of_frozen fun hbusy => .inr fun u => ⟨hbusy u, hdrops u⟩,
        .inr (by rw [hrco]; exact nofun), .inr (by rw [hdir]; exact nofun)⟩
    rw [exec_cancel_quiet h hc henabled hquiet, State.cancelledAll, ← hc, hrefs, hlist, State.afterLeaving_route,
      State.afterDetaching_waiting (e := e) (others := others), State.askTouched_screen, ← hc]
    case hrco => exact hrco
    case hjob => exact hjob
    case hdir => exact hdir
    case hscan => exact hscan
    case hqueue => exact hqueue
    case hunit => exact hunit
    case hrequesters => exact hrequesters
    case hfresh => exact hfresh
    simp [State.reply, State.queueReply, State.onLink, State.askTouched, State.taken, cancelledRoute]
    rfl

end Sys2Proof.Machine
end

section
/-! PROOFS. SCREEN_SET (09 R147). -/

namespace Sys2Proof.Machine

section
variable {s : State} {i : Fin 4} {tag : Byte} {p : List Byte} {rest : List InFrame} {c d : Screen}

/-! ## The tests -/

/-- The arguments of a SCREEN_SET are in range (09 R147). -/
structure State.ScreenSetInRange (s : State) (p : List Byte) : Prop where
  enabled : field p 1 1 ≤ 1
  origin : field p 2 2 < 4096
  profile : field p 5 1 < 8
  size : 1 ≤ field p 6 2 ∧ field p 6 2 ≤ 4096 ∧ 1 ≤ field p 8 2 ∧ field p 8 2 ≤ 4096
  waypoint : s.mod.mode.serving = true → field p 1 1 = 1 → field p 2 2 < s.waypointCount

/-- A SCREEN_SET whose arguments are in range is refused just for outstanding entries (09 R147). -/
theorem State.ScreenSetInRange.test (h : s.ScreenSetInRange p) (i : Fin 4) :
    s.screenSetTest i p = if s.screens[i.val].outstanding ≠ [] then some .busy else none := by
  obtain ⟨henabled, horigin, hprofile, hsize, hwaypoint⟩ := h
  have hserving : ¬ (s.mod.mode.serving = true ∧ field p 1 1 = 1 ∧ s.waypointCount ≤ field p 2 2) :=
    fun ⟨hm, hon, hle⟩ => Nat.not_lt.mpr hle (hwaypoint hm hon)
  rw [State.screenSetTest, if_neg (by omega), if_neg (by omega), if_neg (by omega), if_neg (not_not.mpr hsize),
    if_neg hserving]

/-- Outside CHECKING a SCREEN_SET whose arguments are in range is BUSY for outstanding entries, and else configures its
screen (02 R22, 09 R147). -/
theorem exec_screenSet_eq (h : s.headIs 0x0A tag p rest) (hlen : p.length = 12) (hm : s.mod.mode ≠ .checking)
    (hi : field p 0 1 = i.val) (hrange : s.ScreenSetInRange p) :
    exec .screenSet s = .next (if s.screens[i.val].outstanding ≠ [] then (s.taken rest).refuse 0x0A tag .busy
      else ((s.taken rest).configureScreen i p).reply 0x0A tag
        ([0, BitVec.ofNat 8 i.val] ++ le 2 (storedTimeout (field p 10 2)))) := by
  have hgate : modeGate s.mod.mode 0x0A = true := by
    cases hmode : s.mod.mode with
    | checking => exact absurd hmode hm
    | _ => rfl
  have htest : (s.taken rest).screenSetTest i p = if s.screens[i.val].outstanding ≠ [] then some .busy else none :=
    hrange.test i
  refine (whileRunning_dispatch _ h rfl (by rw [hlen]; rfl) hgate).trans ?_
  by_cases hempty : s.screens[i.val].outstanding = []
  · rw [if_neg (not_not.mpr hempty)] at htest ⊢
    simp only [hi, fourOf_eq_some, htest]
    rfl
  · rw [if_pos hempty] at htest ⊢
    simp only [hi, fourOf_eq_some, htest]

/-! ## The new configuration -/

/-- A SCREEN_SET that passes its tests: the session of a screen that is disabled by it ends, that of one whose idle time has
reached the new timeout expires (09 R147). -/
theorem State.configureScreen_eq (hc : c = s.screens[i.val]) (hd : d = c.configure p) :
    s.configureScreen i p =
      if c.enabled = true ∧ field p 1 1 = 0 then { s with screens := s.screens.set i.val d.endSession }
      else if d.timedOut = true then ({ s with screens := s.screens.set i.val d } : State).expire i
      else { s with screens := s.screens.set i.val d } := by
  obtain ⟨t, ht⟩ : ∃ t : State, t = { s with screens := s.screens.set i.val d } := ⟨_, rfl⟩
  have hset : s.onScreen i (fun c => c.configure p) = t := by rw [ht, hd, hc]; rfl
  have hscreen : t.screens[i.val] = d := by rw [ht]; exact Vector.getElem_set_self i.isLt
  have hended : t.onScreen i Screen.endSession = { s with screens := s.screens.set i.val d.endSession } := by
    rw [State.onScreen, hscreen, ht, Vector.set_set]
  rw [State.configureScreen, hset, hscreen, hended, ← ht, hc]

/-- An ACTIVE session whose idle time stays below the timeout has not timed out, and no other session has (09 R149). -/
theorem Screen.timedOut_false (h : d.active = true → ∀ ms, d.idle = some ms → ms < d.timeout * 1000) :
    d.timedOut = false := by
  rw [Screen.timedOut, Bool.and_eq_false_iff]
  cases hactive : d.active with
  | false => exact .inl rfl
  | true =>
    refine .inr ?_
    cases hidle : d.idle with
    | none => rfl
    | some ms => exact decide_eq_false (Nat.not_le.mpr (h hactive ms hidle))

/-- An ACTIVE session whose idle time has reached the timeout has timed out (09 R149). -/
theorem Screen.timedOut_true {ms : Nat} (hactive : d.active = true) (hidle : d.idle = some ms)
    (hle : d.timeout * 1000 ≤ ms) : d.timedOut = true := by
  simp [Screen.timedOut, hactive, hidle, hle]

/-- The expiry of a session on a screen without entries, whose report finds a slot (09 R149). -/
theorem State.expire_empty (hempty : d.outstanding = []) (hquiet : s.EnginesQuiet) (hheld : s.WorkHeld)
    (hfree : s.reportsFreely .session) :
    ({ s with screens := s.screens.set i.val d } : State).expire i = { s with
      link := { s.link with reports := s.link.reports ++
        [{ cls := 0x45, tag := 0, payload := [BitVec.ofNat 8 i.val], release := none, resets := false }] }
      screens := s.screens.set i.val d.endSession } := by
  obtain ⟨t, ht⟩ : ∃ t : State, t = { s with screens := s.screens.set i.val d } := ⟨_, rfl⟩
  have hscreen : t.screens[i.val] = d := by rw [ht]; exact Vector.getElem_set_self i.isLt
  have hended : t.onScreen i Screen.endSession = { s with screens := s.screens.set i.val d.endSession } := by
    rw [State.onScreen, hscreen, ht, Vector.set_set]
  have hexpire : t.expire i = (t.onScreen i Screen.endSession).offerReport .session 0x45 [BitVec.ofNat 8 i.val] := by
    refine State.expire_hosts ?_ ?_ (by rw [ht]; exact hquiet) (by rw [ht]; exact hheld)
    · rw [hscreen, hempty]
      exact fun e he => absurd he List.not_mem_nil
    · rw [Screen.headWaits, hscreen, hempty]
      simp
  rw [← ht, hexpire, hended, State.offerReport_free]
  exact hfree

/-! ## The arguments -/

/-- The payload of a SCREEN_SET (09 R147). -/
def screenPayload (i : Fin 4) (e : Byte) (origin : Nat) (heading profile : Byte) (w h n : Nat) : List Byte :=
  [BitVec.ofNat 8 i.val, e] ++ le 2 origin ++ [heading, profile] ++ le 2 w ++ le 2 h ++ le 2 n

/-- What SCREEN_SET makes of a screen (09 R147). -/
def Screen.configured (c : Screen) (e : Byte) (origin : Nat) (heading profile : Byte) (w h n : Nat) : Screen :=
  { c with enabled := e == 1, origin := BitVec.ofNat 12 origin, heading := heading
           profile := Fin.ofNat 8 profile.toNat, width := w, height := h, timeout := min (max n 10) 600 }

/-- The timeout that a SCREEN_SET carries, and the screen that it makes (09 R147). -/
theorem screenPayload_configures (c : Screen) (i : Fin 4) (e heading profile : Byte) {origin w h n : Nat}
    (ho : origin < 65536) (hw : w < 65536) (hh : h < 65536) (hn : n < 65536) :
    field (screenPayload i e origin heading profile w h n) 10 2 = n
      ∧ c.configure (screenPayload i e origin heading profile w h n) = c.configured e origin heading profile w h n := by
  obtain ⟨-, henabled, horigin, hprofile, hwidth, hheight⟩ :=
    screenSet_fields (BitVec.ofNat 8 i.val) e heading profile n ho hw hh
  obtain ⟨p, hp⟩ : ∃ p, p = screenPayload i e origin heading profile w h n := ⟨_, rfl⟩
  have htimeout : field p 10 2 = n := by rw [hp]; exact field_le_zero [] hn
  have hheading : byteAt p 4 = heading := by rw [hp]; rfl
  have hon : (e.toNat == 1) = (e == 1) := by
    rw [Bool.eq_iff_iff, beq_iff_eq, beq_iff_eq, ← BitVec.toNat_inj]
    rfl
  rw [← screenPayload, ← hp] at henabled horigin hprofile hwidth hheight
  rw [← hp]
  refine ⟨htimeout, ?_⟩
  rw [Screen.configure, henabled, horigin, hheading, hprofile, hwidth, hheight, htimeout, hon]
  rfl

end

/-- Settles O27: which way the session goes is decided by the new configuration (State.configureScreen_eq). -/
theorem screenSet : Obligations.ScreenSet := by
  unfold Obligations.ScreenSet
  intro s tag i e origin heading profile w h n rest hhead he ho hprofile hw hw' hh hh' hn hm hway c d reply hc hd hreply
  obtain ⟨p, hp⟩ : ∃ p, p = screenPayload i e origin heading profile w h n := ⟨_, rfl⟩
  rw [← screenPayload, ← hp] at hhead
  obtain ⟨hi, henabledF, horiginF, hprofileF, hwidthF, hheightF⟩ :=
    screenSet_fields (BitVec.ofNat 8 i.val) e heading profile (origin := origin) (w := w) (h := h) n (by omega) (by omega)
      (by omega)
  rw [← screenPayload, ← hp] at hi henabledF horiginF hprofileF hwidthF hheightF
  have hlen : p.length = 12 := by rw [hp]; rfl
  have hscreen : field p 0 1 = i.val := hi.trans (Nat.mod_eq_of_lt (by omega))
  have hrange : s.ScreenSetInRange p := by
    refine ⟨henabledF ▸ he, horiginF ▸ ho, hprofileF ▸ hprofile, by omega, fun hserving hon => ?_⟩
    rw [horiginF]
    exact hway hserving (BitVec.eq_of_toNat_eq (henabledF ▸ hon))
  obtain ⟨htimeout, hconfigure⟩ := screenPayload_configures c i e heading profile (origin := origin) (w := w) (h := h)
    (n := n) (by omega) (by omega) (by omega) hn
  rw [← hp] at htimeout hconfigure
  have hd' : d = c.configure p := hd.trans hconfigure.symm
  have hreply' : [0, BitVec.ofNat 8 i.val] ++ le 2 (storedTimeout (field p 10 2)) = reply := by
    rw [htimeout, hreply]
    rfl
  rw [exec_screenSet_eq hhead hlen hm hscreen hrange, ← hc, hreply',
    State.configureScreen_eq (s := s.taken rest) hc hd', henabledF]
  refine ⟨fun hempty hon hbelow => ?kept, fun hempty hoff hwasOff hrest => ?off, fun hempty hoff hwasOn => ?ended,
    fun ms hempty hon hactive hidle hle hquiet hheld hfree => ?expired, fun hlist => ?busy⟩
  case kept =>
    have hpast : d.timedOut = false := by
      rw [hd]
      exact Screen.timedOut_false hbelow
    rw [if_neg (not_not.mpr hempty), if_neg (by rw [hon]; exact fun hzero => Nat.one_ne_zero hzero.2),
      if_neg (by rw [hpast]; exact Bool.noConfusion)]
    rfl
  case off =>
    have hpast : d.timedOut = false := Screen.timedOut_false fun hactive => by
      rw [hd] at hactive
      exact absurd hactive (by rw [hrest]; exact Bool.noConfusion)
    rw [if_neg (not_not.mpr hempty), if_neg (by rw [hwasOff]; exact fun hwas => Bool.noConfusion hwas.1),
      if_neg (by rw [hpast]; exact Bool.noConfusion)]
    rfl
  case ended =>
    rw [if_neg (not_not.mpr hempty), if_pos ⟨hwasOn, by rw [hoff]; rfl⟩]
    rfl
  case expired =>
    have hpast : d.timedOut = true := by
      rw [hd]
      exact Screen.timedOut_true hactive hidle hle
    have hlist : d.outstanding = [] := by rw [hd]; exact hempty
    rw [if_neg (not_not.mpr hempty), if_neg (by rw [hon]; exact fun hzero => Nat.one_ne_zero hzero.2), if_pos hpast,
      State.expire_empty (s := s.taken rest) hlist hquiet hheld hfree]
    rfl
  case busy =>
    rw [if_pos hlist]
    rfl

end Sys2Proof.Machine
end

section
/-! PROOFS. What the panels report, answer and buffer: reports offered one after another, cancelled tracks, answers to
injections, and the entry to another panel state (10 R164 to R167, R177, R179, 11 R186, R189). -/

namespace Sys2Proof.Machine

/-! ## Reports offered one after another (11 R186, R189) -/

/-- A link to which reports of a kind have been offered one after another. -/
def LinkState.offering (l : LinkState) (k : MaskKind) (items : List OutItem) : LinkState :=
  if l.masked k = true then
    { l with suppressed := l.suppressed ||| (if items = [] then 0 else 1#6 <<< k.code) }
  else
    { l with
      reports := l.reports ++ items.take (32 - (l.reportsHeld + l.reserved))
      overrun := l.overrun || decide (32 - (l.reportsHeld + l.reserved) < items.length) }

section
variable {s : State} {l : LinkState} {k : MaskKind} {p : Fin 4}

/-- Offered reports change the link alone. -/
theorem State.offered_eq (s : State) (k : MaskKind) (items : List OutItem) :
    s.offered k items = { s with link := s.link.offering k items } := by
  unfold State.offered LinkState.offering
  split <;> rfl

/-- No report is offered. -/
@[simp] theorem LinkState.offering_nil : l.offering k [] = l := by
  unfold LinkState.offering
  split <;> simp

/-- What is offered changes the report queue, the pending flags and OVERRUN alone. -/
theorem LinkState.offering_eq (items : List OutItem) : l.offering k items = { l with
    reports := (l.offering k items).reports, suppressed := (l.offering k items).suppressed
    overrun := (l.offering k items).overrun } := by
  unfold LinkState.offering
  split <;> rfl

/-- What is offered depends neither on the inbound queue nor on the replies. -/
theorem LinkState.offering_with (items : List OutItem) (inbound : List InFrame) (replies : List OutItem) :
    ({ l with inbound := inbound, replies := replies } : LinkState).offering k items =
      { l.offering k items with inbound := inbound, replies := replies } := by
  have hmask : ({ l with inbound := inbound, replies := replies } : LinkState).masked k = l.masked k := rfl
  have hheld : ({ l with inbound := inbound, replies := replies } : LinkState).reportsHeld = l.reportsHeld := rfl
  rw [LinkState.offering, LinkState.offering, hmask, hheld]
  by_cases hmasked : l.masked k = true
  · rw [if_pos hmasked, if_pos hmasked]
  · rw [if_neg hmasked, if_neg hmasked]

/-- Reports offered in two runs are offered in one. -/
theorem LinkState.offering_append (xs ys : List OutItem) :
    (l.offering k xs).offering k ys = l.offering k (xs ++ ys) := by
  by_cases hmasked : l.masked k = true
  · have hflag : (if xs = [] then 0 else 1#6 <<< k.code) ||| (if ys = [] then 0 else 1#6 <<< k.code) =
        if xs ++ ys = [] then 0 else 1#6 <<< k.code := by
      cases xs <;> cases ys <;> simp
    have hmasked' : ({ l with suppressed := l.suppressed ||| (if xs = [] then 0 else 1#6 <<< k.code) } :
        LinkState).masked k = true := hmasked
    simp only [LinkState.offering, hmasked, hmasked', if_true, BitVec.or_assoc, hflag]
  · have hmasked' (reports : List OutItem) (overrun : Bool) :
        ¬ ({ l with reports := reports, overrun := overrun } : LinkState).masked k = true := hmasked
    have hheld (reports : List OutItem) (overrun : Bool) :
        ({ l with reports := l.reports ++ reports, overrun := overrun } : LinkState).reportsHeld
          = l.reportsHeld + reports.length := by
      simp only [LinkState.reportsHeld, List.length_append]
      omega
    simp only [LinkState.offering, if_neg hmasked, if_neg (hmasked' _ _), hheld, List.length_take, List.append_assoc,
      List.length_append, Bool.or_assoc]
    generalize l.reportsHeld = held
    have hrest : 32 - (held + min (32 - (held + l.reserved)) xs.length + l.reserved)
        = 32 - (held + l.reserved) - xs.length := by omega
    rw [hrest, ← List.take_append, ← Bool.decide_or]
    congr 3
    exact propext (by omega)

/-- One report offered (11 R189). -/
theorem State.offerReport_eq (cls : Byte) (payload : List Byte) : s.offerReport k cls payload = { s with
    link := s.link.offering k [{ cls := cls, tag := 0, payload := payload, release := none, resets := false }] } := by
  unfold State.offerReport LinkState.offering
  by_cases hmasked : s.link.masked k = true
  · simp only [if_pos hmasked]
    rfl
  · simp only [if_neg hmasked]
    by_cases hfree : s.link.reportsHeld + s.link.reserved < 32
    · have htake : (32 - (s.link.reportsHeld + s.link.reserved)) = (31 - (s.link.reportsHeld + s.link.reserved)) + 1 := by
        omega
      rw [State.queueReport_free hfree, htake]
      simp
    · have htake : (32 - (s.link.reportsHeld + s.link.reserved)) = 0 := by omega
      rw [State.queueReport_full (by omega), htake]
      simp

/-- A report that finds its kind not masked and a slot free (11 R186, R189). -/
theorem LinkState.offering_free (hunmasked : l.masked k = false) (hfree : l.reportsHeld + l.reserved < 32) (item : OutItem) :
    l.offering k [item] = { l with reports := l.reports ++ [item] } := by
  have htake : (32 - (l.reportsHeld + l.reserved)) = (31 - (l.reportsHeld + l.reserved)) + 1 := by omega
  unfold LinkState.offering
  rw [if_neg (by simp [hunmasked]), htake]
  simp

/-- The CONTACT report of a track: its kind code, whether it is cancelled, and the position (10 R174, 11 R188). -/
def contactItem (p : Fin 4) (i : Fin 5) (kind cancelled : Byte) (at_ : Nat × Nat) : OutItem :=
  { cls := 0x41, tag := 0, release := none, resets := false
    payload := [BitVec.ofNat 8 p.val, BitVec.ofNat 8 i.val, kind, cancelled] ++ le 2 at_.1 ++ le 2 at_.2 }

/-- A CONTACT report offered (10 R174). -/
theorem State.reportContact_eq (i : Fin 5) (kind : ContactKind) (cancelled : Bool) (at_ : Nat × Nat) :
    s.reportContact p i.val kind cancelled at_ =
      { s with link := s.link.offering .contact [contactItem p i kind.code (flagsByte [cancelled]) at_] } :=
  State.offerReport_eq ..

/-! ## Answers to injections, and the buffer (10 R165, R167) -/

/-- A link with further replies queued. -/
def LinkState.replying (l : LinkState) (items : List OutItem) : LinkState := { l with replies := l.replies ++ items }

/-- No reply is queued. -/
@[simp] theorem LinkState.replying_nil : l.replying [] = l := by simp [LinkState.replying]

/-- The answer to the injection with this tag, if there is one. -/
def injectAnswer (p : Fin 4) (tag : Option Byte) (r : Byte) : List OutItem :=
  tag.toList.map fun tag => { cls := 0x91, tag := tag, payload := [r, BitVec.ofNat 8 p.val], release := none, resets := false }

/-- An injection is answered, if there is one (10 R167). -/
theorem State.answerInject_eq (tag : Option Byte) (r : ResultCode) :
    s.answerInject p tag r = { s with link := s.link.replying (injectAnswer p tag r.code) } := by
  cases tag with
  | none => simp [State.answerInject, injectAnswer]
  | some tag => rfl

/-- The frame that waits in a buffer answers with DISCARDED when it leaves it (10 R167). -/
theorem Panel.discardReply_eq (q : Panel) (p : Fin 4) : q.discardReply p = injectAnswer p q.bufferedTag 2 := by
  unfold Panel.discardReply Panel.bufferedTag
  cases q.buffer <;> simp [PanelFrame.answer, injectAnswer]

/-- An emptied buffer: the frame that waited there is answered DISCARDED (10 R164, R166, R167). -/
theorem State.emptyBuffer_eq : s.emptyBuffer p = { s with
    link := s.link.replying (s.panels[p.val].discardReply p)
    panels := s.panels.set p.val { s.panels[p.val] with buffer := none } } := by
  rw [Panel.discardReply_eq, State.emptyBuffer, State.answerInject_eq]
  rfl

/-- A frame enters the buffer: the one it replaces is answered DISCARDED (10 R165, R167). -/
theorem State.bufferFrame_eq (f : PanelFrame) : s.bufferFrame p f = { s with
    link := s.link.replying (s.panels[p.val].discardReply p)
    panels := s.panels.set p.val { s.panels[p.val] with buffer := some f } } := by
  rw [Panel.discardReply_eq, State.bufferFrame, State.answerInject_eq]
  rfl

/-! ## Cancelled tracks (10 R177) -/

/-- The report that a track makes when it is cancelled (10 R177). -/
def Panel.cancelReport (q : Panel) (p : Fin 4) (i : Fin 5) : Option OutItem :=
  if q.tracks[i.val].state = .down then some (contactItem p i 2 1 q.tracks[i.val].position) else none

/-- A panel with one track FREE. -/
def Panel.freeTrack (q : Panel) (i : Fin 5) : Panel := { q with tracks := q.tracks.set i.val .free }

/-- A cancelled track reports its UP, where it is DOWN, and is FREE (10 R177). -/
theorem State.cancelTrack_eq (i : Fin 5) : s.cancelTrack p i = { s with
    link := s.link.offering .contact (s.panels[p.val].cancelReport p i).toList
    panels := s.panels.set p.val (s.panels[p.val].freeTrack i) } := by
  unfold State.cancelTrack Panel.cancelReport State.track
  by_cases hdown : s.panels[p.val].tracks[i.val].state = .down
  · simp only [if_pos hdown, State.reportContact_eq]
    rfl
  · simp only [if_neg hdown, Option.toList_none, LinkState.offering_nil]
    rfl

/-- A track that is FREE makes no difference to the report of another. -/
theorem Panel.cancelReport_freeTrack (q : Panel) {i j : Fin 5} (h : j ≠ i) :
    (q.freeTrack i).cancelReport p j = q.cancelReport p j := by
  have htrack : (q.freeTrack i).tracks[j.val] = q.tracks[j.val] :=
    Vector.getElem_set_ne i.isLt j.isLt fun e => h (Fin.ext e.symm)
  rw [Panel.cancelReport, Panel.cancelReport, htrack]

/-- Tracks that are cancelled one after another. -/
theorem State.foldl_cancelTrack (is : List (Fin 5)) (hnodup : is.Nodup) :
    is.foldl (fun s i => s.cancelTrack p i) s = { s with
      link := s.link.offering .contact (is.filterMap (s.panels[p.val].cancelReport p))
      panels := s.panels.set p.val (is.foldl Panel.freeTrack s.panels[p.val]) } := by
  induction is generalizing s with
  | nil => simp
  | cons i is ih =>
    obtain ⟨hi, hnodup⟩ := List.nodup_cons.mp hnodup
    have hothers : is.filterMap ((s.panels[p.val].freeTrack i).cancelReport p) = is.filterMap (s.panels[p.val].cancelReport p) :=
      List.filterMap_congr fun j hj => Panel.cancelReport_freeTrack _ fun e : j = i => hi (e ▸ hj)
    rw [List.foldl_cons, ih hnodup, State.cancelTrack_eq]
    simp only [Vector.getElem_set_self, Vector.set_set, LinkState.offering_append, hothers, List.foldl_cons,
      List.filterMap_cons]
    cases s.panels[p.val].cancelReport p i <;> rfl

/-- Five tracks made FREE are all of them. -/
theorem Panel.foldl_freeTrack (q : Panel) : fiveTracks.foldl Panel.freeTrack q = q.freeTracks := by
  simp only [fiveTracks, List.foldl_cons, List.foldl_nil, Panel.freeTrack, Panel.freeTracks, Panel.mk.injEq, true_and, and_true]
  ext i hi
  interval_cases i <;> simp

/-- All tracks of a panel cancelled (10 R177). -/
theorem State.cancelTracks_eq : s.cancelTracks p = { s with
    link := s.link.offering .contact (s.panels[p.val].cancelReports p)
    panels := s.panels.set p.val s.panels[p.val].freeTracks } := by
  rw [State.cancelTracks, State.foldl_cancelTrack fiveTracks (by decide), Panel.foldl_freeTrack]
  rfl

/-! ## The entry to another panel state (10 R164, R166, R179) -/

/-- The panel enters OFF or WAITING (10 R164, R167, R177). -/
theorem State.leaveRunning_eq (m : PanelMode) : s.leaveRunning p m = { s with
    link := (s.link.offering .contact (s.panels[p.val].cancelReports p)).replying (s.panels[p.val].discardReply p)
    panels := s.panels.set p.val ({ s.panels[p.val] with
      state := m, timer := none, drift := 0, tracks := .replicate 5 .free, buffer := none } : Panel).staleFrame } := by
  rw [State.leaveRunning, State.cancelTracks_eq, State.emptyBuffer_eq]
  simp [State.onPanel, Panel.freeTracks, Panel.discardReply]

/-- A capture starts (10 R177, R179). -/
theorem State.startCapture_eq (tag : Byte) : s.startCapture p tag = { s with
    link := s.link.offering .contact (s.panels[p.val].cancelReports p)
    panels := s.panels.set p.val ({ s.panels[p.val] with
      state := .capturing, drift := 0, tracks := .replicate 5 .free
      capture := some { tag := tag, sums := .replicate 960 0, count := 0 } } : Panel).staleFrame } := by
  rw [State.startCapture, State.cancelTracks_eq]
  simp [State.onPanel, Panel.freeTracks]

/-- A capture in hand is abandoned and answered ABORTED (10 R166, R179). -/
theorem State.abandonCapture_eq : s.abandonCapture p = { s with
    link := s.link.replying (s.captureReply p).toList
    panels := s.panels.set p.val (if s.panels[p.val].capture = none then s.panels[p.val]
      else ({ s.panels[p.val] with capture := none } : Panel).staleFrame) } := by
  unfold State.abandonCapture State.captureReply
  cases hcapture : s.panels[p.val].capture with
  | none => simp
  | some c => rfl

/-- The expiry of a frame timer, one event with its effects in order (10 R166, R177, R179). -/
theorem State.frameTimeout_eq : s.frameTimeout p = { s with
    link := (((s.link.offering .contact (s.panels[p.val].cancelReports p)).replying (s.captureReply p).toList).replying
      (s.panels[p.val].discardReply p)).offering .panel
        [{ cls := 0x46, tag := 0, payload := [BitVec.ofNat 8 p.val, 4], release := none, resets := false }]
    panels := s.panels.set p.val ({ s.panels[p.val] with
      state := .fault, timer := none, drift := 0, tracks := .replicate 5 .free, capture := none, buffer := none } :
        Panel).staleFrame } := by
  rw [State.frameTimeout, State.cancelTracks_eq, State.abandonCapture_eq, State.emptyBuffer_eq, State.reportPanelState,
    State.offerReport_eq]
  cases hcapture : s.panels[p.val].capture <;>
    simp [State.onPanel, Panel.freeTracks, Panel.discardReply, State.captureReply, hcapture, PanelMode.code, Panel.staleFrame,
      Function.comp_def]

end

end Sys2Proof.Machine
end

section
/-! PROOFS. HOTSPOTS_SET, PANEL_SET, PANEL_INJECT and BASELINE_CAPTURE (10 R164, R167, R175, R177, R179). -/

namespace Sys2Proof.Machine

/-! ## Payloads of panel requests -/

/-- A payload of equally long pieces is cut into them again. -/
theorem pieces_flatMap {α : Type} {size : Nat} (f : α → List Byte) (xs : List α) (h : ∀ x ∈ xs, (f x).length = size) :
    pieces size xs.length (xs.flatMap f) = xs.map f := by
  induction xs with
  | nil => rfl
  | cons x xs ih =>
    obtain ⟨hx, hxs⟩ := List.forall_mem_cons.mp h
    rw [List.length_cons, List.flatMap_cons, pieces, List.take_left' hx, List.drop_left' hx, ih hxs, List.map_cons]

/-- Equally long pieces together. -/
theorem length_flatMap_const {α : Type} {size : Nat} (f : α → List Byte) (xs : List α) (h : ∀ x ∈ xs, (f x).length = size) :
    (xs.flatMap f).length = size * xs.length := by
  induction xs with
  | nil => rfl
  | cons x xs ih =>
    obtain ⟨hx, hxs⟩ := List.forall_mem_cons.mp h
    rw [List.flatMap_cons, List.length_append, hx, ih hxs, List.length_cons, Nat.mul_succ, Nat.add_comm]

/-- A byte is the byte of its number. -/
theorem byte_of_toNat {b : Byte} {n : Nat} (h : b.toNat = n) : BitVec.ofNat 8 n = b := by
  rw [← h, BitVec.ofNat_toNat, BitVec.setWidth_eq]

/-- The panel requests pass the mode gate in every mode (02 R22). -/
theorem modeGate_panels (m : Mode) {cls : Byte} (h : cls ∈ ([0x0F, 0x10, 0x11, 0x12] : List Byte)) :
    modeGate m cls = true := by
  fin_cases h <;> cases m <;> rfl

section
variable {s : State} {tag : Byte} {rest : List InFrame}

/-! ## HOTSPOTS_SET (10 R175) -/

/-- An entry is refused just where its action code is above 8 (10 R175). -/
theorem hotspotOfBytes_eq_none {r : List Byte} (h : r.length = 14) :
    hotspotOfBytes r = none ↔ 8 < (byteAt r 8).toNat := by
  have hfield : field r 8 1 = (byteAt r 8).toNat := by
    have hdrop : (r.drop 8).take 1 = [byteAt r 8] := by
      rw [List.drop_eq_getElem_cons (by omega), byteAt, List.getD_eq_getElem _ _ (by omega)]
      rfl
    rw [field, hdrop]
    exact field_cons_zero _ []
  rw [hotspotOfBytes, Option.map_eq_none_iff, hfield]
  generalize (byteAt r 8).toNat = code
  by_cases hcode : code < 9
  · interval_cases code <;> simp [actionOfBytes]
  · unfold actionOfBytes
    split <;> grind

/-- A page is taken just where every entry is, and is refused where one is. -/
theorem hotspotsOfBytes_cases (rs : List (List Byte)) :
    (∀ hs : List Hotspot, rs.map hotspotOfBytes = hs.map some → hotspotsOfBytes rs = some hs)
      ∧ (none ∈ rs.map hotspotOfBytes → hotspotsOfBytes rs = none) := by
  induction rs with
  | nil => exact ⟨fun hs h => by rw [List.map_eq_nil_iff.mp h.symm]; rfl, nofun⟩
  | cons r rs ih =>
    obtain ⟨htaken, hrefused⟩ := ih
    refine ⟨fun hs h => ?_, fun h => ?_⟩
    · cases hs with
      | nil => cases h
      | cons x xs =>
        obtain ⟨hx, hxs⟩ := List.cons.inj h
        rw [hotspotsOfBytes, hx, htaken xs hxs]
    · obtain h | h := List.mem_cons.mp h
      · rw [hotspotsOfBytes, ← h]
      · rw [hotspotsOfBytes, hrefused h]
        cases hotspotOfBytes r <;> rfl

/-- A HOTSPOTS_SET of at most 64 entries is answered by what its entries are. -/
theorem exec_hotspotsSet {b n : Byte} {es : List (List Byte)} (h : s.headIs 0x0F tag ([b, n] ++ es.flatten) rest)
    (hlen : es.length ≤ 64) (hsize : ∀ r ∈ es, r.length = 14) :
    exec .hotspotsSet s = .next (match fourOf b.toNat, hotspotsOfBytes es with
      | some p, some hs => ((s.taken rest).onPanel p fun q => { q with page := hs, pageNumber := n }).reply 0x0F tag
          [ResultCode.ok.code, BitVec.ofNat 8 p.val, n, BitVec.ofNat 8 hs.length]
      | _, _ => (s.taken rest).refuse 0x0F tag .badArgument) := by
  have htotal : es.flatten.length = 14 * es.length := by
    simpa [List.flatMap_id'] using length_flatMap_const (fun r => r) es hsize
  have hbytes : ([b, n] ++ es.flatten).length = 14 * es.length + 2 := by
    rw [List.length_append, htotal, Nat.add_comm]
    rfl
  have hpieces : pieces 14 ((([b, n] ++ es.flatten).length - 2) / 14) (([b, n] ++ es.flatten).drop 2) = es := by
    rw [hbytes, Nat.add_sub_cancel, Nat.mul_div_cancel_left _ (by decide)]
    simpa [List.flatMap_id'] using pieces_flatMap (fun r => r) es hsize
  have hallowed : sizeAllowed 0x0F ([b, n] ++ es.flatten).length = true := by
    rw [hbytes]
    simp [sizeAllowed, hlen]
  have hexec := whileRunning_dispatch (fun tag b s =>
    match fourOf (field b 0 1), hotspotsOfBytes (pieces 14 ((b.length - 2) / 14) (b.drop 2)) with
      | some p, some hs => (s.onPanel p fun q => { q with page := hs, pageNumber := byteAt b 1 }).reply 0x0F tag
          [ResultCode.ok.code, BitVec.ofNat 8 p.val, byteAt b 1, BitVec.ofNat 8 hs.length]
      | _, _ => s.refuse 0x0F tag .badArgument) h (row := anyPayload) rfl hallowed (modeGate_panels _ (by decide))
  simp only [hpieces] at hexec
  exact hexec.trans (by rw [List.cons_append, field_cons_zero]; rfl)

/-- Settles O44: the page is read off the pieces of the payload. -/
theorem hotspotsSet : Obligations.HotspotsSet := by
  unfold Obligations.HotspotsSet
  intro s tag b n es rest h hlen hentries
  have hsize : ∀ r ∈ es.map (·.1), r.length = 14 := List.forall_mem_map.mpr fun x hx => (hentries x hx).1
  have hparsed : (es.map (·.1)).map hotspotOfBytes = es.map (·.2) := by
    rw [List.map_map]
    exact List.map_congr_left fun x hx => (hentries x hx).2
  rw [List.flatMap_def] at h
  have hexec := exec_hotspotsSet h (by rwa [List.length_map]) hsize
  obtain ⟨htaken, hrefused⟩ := hotspotsOfBytes_cases (es.map (·.1))
  rw [hparsed] at htaken hrefused
  refine ⟨fun i hs hb hall => ?_, fun hbad => ?_, fun x hx => ?_⟩
  · rw [hexec, htaken hs hall, hb, fourOf_eq_some]
    simp only [byte_of_toNat hb]
    rfl
  · rw [hexec]
    obtain hb | hnone := hbad
    · rw [fourOf_eq_none hb]
      rfl
    · rw [hrefused hnone]
      cases fourOf b.toNat <;> rfl
  · obtain ⟨hx14, hxparsed⟩ := hentries x hx
    rw [← hxparsed]
    exact hotspotOfBytes_eq_none hx14

end

end Sys2Proof.Machine
end

section
/-! PROOFS. PANEL_SET, PANEL_INJECT, BASELINE_CAPTURE, FRAME_TIMER_EXPIRY, and how a panel receives and takes a frame
(10 R164 to R167, R177, R179). -/

namespace Sys2Proof.Machine

section
variable {s : State} {tag : Byte} {rest : List InFrame} {p : Fin 4}

/-- Offered reports leave the replies. -/
@[simp] theorem LinkState.offering_replies {l : LinkState} {k : MaskKind} (items : List OutItem) :
    (l.offering k items).replies = l.replies := by
  rw [LinkState.offering_eq]

/-- What is offered does not depend on the frame taken off the inbound queue. -/
theorem State.taken_offering (k : MaskKind) (items : List OutItem) :
    (s.taken rest).link.offering k items = { s.link.offering k items with inbound := rest } := by
  rw [State.taken, LinkState.offering_with items rest s.link.replies, ← LinkState.offering_replies (k := k) items]

/-- Replies that are queued do not change what is offered. -/
theorem LinkState.replying_offering (l : LinkState) (k : MaskKind) (xs items : List OutItem) :
    (l.replying xs).offering k items = (l.offering k items).replying xs := by
  rw [LinkState.replying, LinkState.offering_with items l.inbound (l.replies ++ xs), LinkState.replying,
    LinkState.offering_replies, LinkState.offering_eq]

/-! ## PANEL_SET (10 R164) -/

/-- The configuration that the payload of a PANEL_SET stores (10 R164). -/
theorem panelConfigOf_payload (b e src lo hi nlo nhi : Byte) {mv : Nat} (hmv : mv < 65536) :
    panelConfigOf ([b, e, src, lo, hi, nlo, nhi] ++ le 2 mv) =
      { enabled := e == 1, source := if src = 1 then .injected else .sensor, low := lo
        high := if hi.toNat < lo.toNat then lo else hi, nLo := min (max nlo.toNat 1) 16
        nHi := min (max nhi.toNat 1) 16, move := BitVec.ofNat 16 mv } := by
  have henabled : field ([b, e, src, lo, hi, nlo, nhi] ++ le 2 mv) 1 1 = e.toNat := field_cons_zero e _
  have hsource : field ([b, e, src, lo, hi, nlo, nhi] ++ le 2 mv) 2 1 = src.toNat := field_cons_zero src _
  have hlow : field ([b, e, src, lo, hi, nlo, nhi] ++ le 2 mv) 5 1 = nlo.toNat := field_cons_zero nlo _
  have hhigh : field ([b, e, src, lo, hi, nlo, nhi] ++ le 2 mv) 6 1 = nhi.toNat := field_cons_zero nhi _
  have hmove : field ([b, e, src, lo, hi, nlo, nhi] ++ le 2 mv) 7 2 = mv := field_le_zero [] hmv
  have hone (x : Byte) : x.toNat = 1 ↔ x = 1 := ⟨fun h => BitVec.eq_of_toNat_eq h, fun h => h ▸ rfl⟩
  have hbeq : (e.toNat == 1) = (e == 1) := by rw [Bool.eq_iff_iff, beq_iff_eq, beq_iff_eq, hone]
  rw [panelConfigOf, henabled, hsource, hlow, hhigh, hmove, hbeq]
  simp only [hone]
  rfl

/-- The three bytes of a PANEL_SET that can be refused (10 R164). -/
theorem panelSet_fields (b e src : Byte) (l : List Byte) :
    field (b :: e :: src :: l) 0 1 = b.toNat ∧ field (b :: e :: src :: l) 1 1 = e.toNat
      ∧ field (b :: e :: src :: l) 2 1 = src.toNat :=
  ⟨field_cons_zero _ _, field_cons_zero _ _, field_cons_zero _ _⟩

/-- A PANEL_SET for a panel in CAPTURING is refused (10 R164). -/
theorem exec_panelSet_busy {b : List Byte} (h : s.headIs 0x10 tag b rest) (hlen : b.length = 9)
    (hp : field b 0 1 = p.val) (he : field b 1 1 ≤ 1) (hsrc : field b 2 1 ≤ 1) (hq : s.panels[p.val].state = .capturing) :
    exec .panelSet s = .next (s.answered rest 0x90 tag [4]) := by
  have hq' : (s.taken rest).panels[p.val].state = .capturing := hq
  refine (whileRunning_dispatch _ h rfl (by rw [hlen]; rfl) (modeGate_panels _ (by decide))).trans ?_
  simp only [hp, fourOf_eq_some, if_neg (not_or.mpr ⟨he.not_gt, hsrc.not_gt⟩), if_pos hq']
  rfl

/-- A PANEL_SET for any other panel stores its configuration, moves the panel and answers (10 R164). -/
theorem exec_panelSet {b : List Byte} {f : PanelConfig} (h : s.headIs 0x10 tag b rest) (hlen : b.length = 9)
    (hp : field b 0 1 = p.val) (he : field b 1 1 ≤ 1) (hsrc : field b 2 1 ≤ 1) (hq : s.panels[p.val].state ≠ .capturing)
    (hf : panelConfigOf b = f) {t : State}
    (ht : ((s.taken rest).onPanel p fun q => { q with config := f }).panelTransition p s.panels[p.val].config = t)
    {reply : List Byte} (hreply : panelSetReply p t.panels[p.val] = reply) :
    exec .panelSet s = .next (t.reply 0x10 tag reply) := by
  have hq' : (s.taken rest).panels[p.val].state ≠ .capturing := hq
  refine (whileRunning_dispatch _ h rfl (by rw [hlen]; rfl) (modeGate_panels _ (by decide))).trans ?_
  simp only [hp, fourOf_eq_some, if_neg (not_or.mpr ⟨he.not_gt, hsrc.not_gt⟩), if_neg hq', hf, ← hreply, ← ht]
  rfl

/-- A panel of an unchanged state keeps it (10 R164). -/
theorem State.panelTransition_stays {before : PanelConfig} (he : s.panels[p.val].config.enabled = true)
    (hstate : s.panels[p.val].state ≠ .off) (hsource : s.panels[p.val].config.source = before.source) :
    s.panelTransition p before = s := by
  simp [State.panelTransition, he, hstate, hsource]

/-- A panel enters OFF when it is disabled, and WAITING when it is enabled from OFF or its source changes (10 R164). -/
theorem State.panelTransition_moves {before : PanelConfig} {m : PanelMode}
    (h : s.panels[p.val].config.enabled = true
        ∧ (s.panels[p.val].state = .off ∨ s.panels[p.val].config.source ≠ before.source) ∧ m = .waiting
      ∨ s.panels[p.val].config.enabled = false ∧ m = .off) :
    s.panelTransition p before = s.leaveRunning p m := by
  obtain ⟨he, hmove, rfl⟩ | ⟨he, rfl⟩ := h
  · simp only [State.panelTransition, he, if_pos hmove]
    rfl
  · simp only [State.panelTransition, he, if_true]

/-- A panel with a new configuration that enters OFF or WAITING as its frame leaves the inbound queue (10 R164, R177). -/
theorem State.leaveRunning_configured (f : PanelConfig) (m : PanelMode) :
    ((s.taken rest).onPanel p fun q => { q with config := f }).leaveRunning p m = { s with
      link := { s.link.offering .contact (s.panels[p.val].cancelReports p) with
        inbound := rest, replies := s.link.replies ++ s.panels[p.val].discardReply p }
      panels := s.panels.set p.val ({ s.panels[p.val] with
        config := f, state := m, timer := none, drift := 0, tracks := .replicate 5 .free, buffer := none } :
          Panel).staleFrame } := by
  have hself : ((s.taken rest).onPanel p fun q => { q with config := f }).panels[p.val] =
      { s.panels[p.val] with config := f } := Vector.getElem_set_self ..
  rw [State.leaveRunning_eq, hself, LinkState.replying]
  simp only [State.onPanel, Vector.set_set, State.taken_offering, LinkState.offering_replies]
  rfl

/-- The reply of a PANEL_SET names the stored configuration (11 R192). -/
theorem panelSetReply_eq {q : Panel} {b lo : Byte} {mv : Nat} (hb : b.toNat = p.val) (hlow : q.config.low = lo)
    (hmove : q.config.move.toNat = mv) :
    panelSetReply p q = [0, b, q.state.code, lo, q.config.high, BitVec.ofNat 8 q.config.nLo,
      BitVec.ofNat 8 q.config.nHi] ++ le 2 mv := by
  rw [panelSetReply, byte_of_toNat hb, hlow, hmove]
  rfl

/-- Settles O45: the panel stays, or enters OFF or WAITING, by the two lemmas on `panelTransition`. -/
theorem panelSet : Obligations.PanelSet := by
  unfold Obligations.PanelSet
  intro s tag b e src lo hi nlo nhi mv rest h he hsrc hmv
  obtain ⟨hf0, hf1, hf2⟩ := panelSet_fields b e src ([lo, hi, nlo, nhi] ++ le 2 mv)
  refine ⟨fun hb => exec_panelSet_refused h (by simp) (.inl (hf0.symm ▸ hb)), ?_⟩
  rintro p q f reply hb rfl hf rfl
  have hconfig := (panelConfigOf_payload b e src lo hi nlo nhi hmv).trans hf.symm
  have hmove : f.move.toNat = mv := by rw [hf]; exact Nat.mod_eq_of_lt hmv
  have hlow : f.low = lo := by rw [hf]
  have henabled : f.enabled = (e == 1) := by rw [hf]
  have hself : ((s.taken rest).onPanel p fun q => { q with config := f }).panels[p.val] =
      { s.panels[p.val] with config := f } := Vector.getElem_set_self ..
  have hexec := exec_panelSet (f := f) h (by simp) (hf0.trans hb) (hf1.trans_le he) (hf2.trans_le hsrc)
  refine ⟨exec_panelSet_busy h (by simp) (hf0.trans hb) (hf1.trans_le he) (hf2.trans_le hsrc),
    fun hq he1 hoff hsource => ?_, fun m t hq hm ht => ?_⟩
  · have hstays := State.panelTransition_stays (before := s.panels[p.val].config)
      (s := (s.taken rest).onPanel p fun q => { q with config := f })
      (by rw [hself]; simp [henabled, he1]) (by rw [hself]; exact hoff) (by rw [hself]; exact hsource)
    rw [hexec hq hconfig hstays ((congrArg _ hself).trans (panelSetReply_eq hb hlow hmove))]
    rfl
  · have hcase : f.enabled = true ∧ (s.panels[p.val].state = .off ∨ f.source ≠ s.panels[p.val].config.source) ∧ m = .waiting
        ∨ f.enabled = false ∧ m = .off := by
      obtain ⟨he1, hmoves, hm⟩ | ⟨he0, hm⟩ := hm
      · exact .inl ⟨by simp [henabled, he1], hmoves, hm⟩
      · exact .inr ⟨by simp [henabled, he0], hm⟩
    have hmoved := (State.panelTransition_moves (by rw [hself]; exact hcase)).trans
      (State.leaveRunning_configured (s := s) (rest := rest) f m)
    rw [hexec hq hconfig hmoved ((congrArg _ (Vector.getElem_set_self ..)).trans (panelSetReply_eq hb hlow hmove)), ht, State.offered_eq]
    rfl

end

end Sys2Proof.Machine
end

section
/-! PROOFS. PANEL_INJECT and BASELINE_CAPTURE (10 R167, R177, R179). -/

namespace Sys2Proof.Machine

section
variable {s : State} {tag : Byte} {rest : List InFrame} {p : Fin 4}

/-! ## PANEL_INJECT (10 R167) -/

/-- A sample taken as at most 4095 (10 R167). -/
def clampedSample (n : Nat) : Sample := BitVec.ofNat 12 (min n 4095)

/-- The bytes of one pair of a PANEL_INJECT. -/
def pairBytes (x : Nat × Nat) : List Byte := le 2 x.1 ++ le 2 x.2

/-- A pair is read back from its bytes, its value clamped (10 R167). -/
theorem pairOf_pairBytes {x : Nat × Nat} (h : x.1 < 65536 ∧ x.2 < 65536) :
    pairOf (pairBytes x) = (x.1, clampedSample x.2) := by
  have hvalue : field (le 2 x.1 ++ le 2 x.2) 2 2 = x.2 := by
    simpa using (field_le_skip x.1 (le 2 x.2) 0 2).trans (field_le_zero [] h.2)
  rw [pairBytes, pairOf, field_le_zero _ h.1, hvalue]
  rfl

/-- The pairs of a PANEL_INJECT are read back from its payload. -/
theorem pairs_of_payload {b : Byte} {bg : Nat} {pairs : List (Nat × Nat)} (h : ∀ x ∈ pairs, x.1 < 65536 ∧ x.2 < 65536) :
    (pieces 4 ((([b] ++ le 2 bg ++ pairs.flatMap pairBytes).length - 3) / 4)
      (([b] ++ le 2 bg ++ pairs.flatMap pairBytes).drop 3)).map pairOf = pairs.map fun x => (x.1, clampedSample x.2) := by
  have hsize : ∀ x ∈ pairs, (pairBytes x).length = 4 := fun x _ => by simp [pairBytes]
  have hcount : (([b] ++ le 2 bg ++ pairs.flatMap pairBytes).length - 3) / 4 = pairs.length := by
    rw [List.length_append, length_flatMap_const _ _ hsize]
    simp
  have hdrop : ([b] ++ le 2 bg ++ pairs.flatMap pairBytes).drop 3 = pairs.flatMap pairBytes := rfl
  rw [hcount, hdrop, pieces_flatMap _ _ hsize, List.map_map]
  exact List.map_congr_left fun x hx => pairOf_pairBytes (h x hx)

/-- A cell of a frame to which pairs are written holds its last value, or what it held (10 R167). -/
theorem getElem_foldl_pairs (pairs : List (Nat × Sample)) (v : Vector Sample 960) (k : Fin 960) :
    (pairs.foldl (fun v x => v.setIfInBounds x.1 x.2) v)[k.val] =
      match pairs.reverse.find? (fun x => decide (x.1 = k.val)) with | some x => x.2 | none => v[k.val] := by
  induction pairs generalizing v with
  | nil => rfl
  | cons x pairs ih =>
    rw [List.foldl_cons, ih, List.reverse_cons, List.find?_append]
    cases pairs.reverse.find? (fun x => decide (x.1 = k.val)) with
    | some y => rfl
    | none =>
      by_cases hx : x.1 = k.val <;> simp [hx]

/-- A cell of an injected frame holds its last value, or the background (10 R167). -/
theorem getElem_injectedFrame (bg : Nat) (pairs : List (Nat × Nat)) (k : Fin 960) :
    (injectedFrame (clampedSample bg) (pairs.map fun x => (x.1, clampedSample x.2)))[k.val] =
      clampedSample (match pairs.reverse.find? (fun x => decide (x.1 = k.val)) with | some x => x.2 | none => bg) := by
  have hfind : (pairs.map fun x => (x.1, clampedSample x.2)).reverse.find? (fun x => decide (x.1 = k.val)) =
      (pairs.reverse.find? fun x => decide (x.1 = k.val)).map fun x => (x.1, clampedSample x.2) := by
    rw [← List.map_reverse, List.find?_map]
    rfl
  rw [injectedFrame, getElem_foldl_pairs, hfind, Vector.getElem_replicate]
  cases pairs.reverse.find? (fun x => decide (x.1 = k.val)) <;> rfl

/-- What a PANEL_INJECT answers (10 R167). -/
theorem exec_panelInject {b : Byte} {bg : Nat} {pairs : List (Nat × Nat)}
    (h : s.headIs 0x11 tag ([b] ++ le 2 bg ++ pairs.flatMap pairBytes) rest) (hbg : bg < 65536) (hlen : pairs.length ≤ 64)
    (hpairs : ∀ x ∈ pairs, x.1 < 65536 ∧ x.2 < 65536) {cells : List (Nat × Sample)}
    (hcells : pairs.map (fun x => (x.1, clampedSample x.2)) = cells) :
    exec .panelInject s = .next (match fourOf b.toNat with
      | none => (s.taken rest).refuse 0x11 tag .badArgument
      | some p =>
        if cells.any fun x => decide (960 ≤ x.1) then (s.taken rest).refuse 0x11 tag .badArgument
        else if s.panels[p.val].state = .off ∨ s.panels[p.val].config.source = .sensor then
          (s.taken rest).answerInject p (some tag) .discarded
        else (s.taken rest).bufferFrame p { samples := injectedFrame (clampedSample bg) cells, inject := some tag }) := by
  have hlength : ([b] ++ le 2 bg ++ pairs.flatMap pairBytes).length = 4 * pairs.length + 3 := by
    rw [List.length_append, length_flatMap_const (size := 4) _ _ fun x _ => by simp [pairBytes]]
    simp [Nat.add_comm]
  have hallowed : sizeAllowed 0x11 ([b] ++ le 2 bg ++ pairs.flatMap pairBytes).length = true := by
    rw [hlength]
    simp [sizeAllowed, hlen]
  have hbackground : field ([b] ++ le 2 bg ++ pairs.flatMap pairBytes) 1 2 = bg := field_le_zero _ hbg
  have hpanel : field ([b] ++ le 2 bg ++ pairs.flatMap pairBytes) 0 1 = b.toNat := field_cons_zero b _
  refine (whileRunning_dispatch _ h rfl hallowed (modeGate_panels _ (by decide))).trans ?_
  simp only [pairs_of_payload hpairs, hcells, hbackground, hpanel]
  rfl

/-- Settles O46: the frame is read off the payload; the last pair that names a cell gives its value. -/
theorem panelInject : Obligations.PanelInject := by
  unfold Obligations.PanelInject
  intro s tag b bg pairs rest h hbg hlen hpairs
  have hexec := exec_panelInject h hbg hlen hpairs rfl
  refine ⟨fun hbad => ?_, ?_⟩
  · rw [hexec]
    obtain ⟨-, hp⟩ | ⟨p, hb, hp⟩ := fourOf_cases b.toNat
    · rw [hp]
      rfl
    · have hany : ((pairs.map fun x => (x.1, clampedSample x.2)).any fun x => decide (960 ≤ x.1)) = true := by
        simpa using hbad.resolve_left (by omega)
      simp only [hp, hany, if_true]
      rfl
  · rintro p q hb rfl hcells
    have hany : ((pairs.map fun x => (x.1, clampedSample x.2)).any fun x => decide (960 ≤ x.1)) = false := by
      simpa using hcells
    rw [hb, fourOf_eq_some] at hexec
    simp only [hany, Bool.false_eq_true, if_false] at hexec
    refine ⟨fun hdiscarded => ?_, fun hstate hsource => ⟨_, getElem_injectedFrame bg pairs, fun hwaits => ?_,
      fun g old hg hold => ?_⟩⟩
    · rw [hexec, if_pos hdiscarded, State.answerInject, byte_of_toNat hb]
      rfl
    · have hnone : s.panels[p.val].bufferedTag = none := Option.bind_eq_none_iff.mpr hwaits
      rw [hexec, if_neg (by simp [hstate, hsource]), State.bufferFrame_eq, Panel.discardReply_eq]
      simp only [State.taken_fields, hnone, injectAnswer, Option.toList_none, List.map_nil, LinkState.replying_nil]
    · have hsome : s.panels[p.val].bufferedTag = some old := by rw [Panel.bufferedTag, hg, Option.bind_some, hold]
      rw [hexec, if_neg (by simp [hstate, hsource]), State.bufferFrame_eq, Panel.discardReply_eq]
      simp only [State.taken_fields, hsome, injectAnswer, byte_of_toNat hb]
      rfl

/-! ## BASELINE_CAPTURE (10 R177, R179) -/

/-- What a BASELINE_CAPTURE answers (10 R179). -/
theorem exec_baselineCapture {b : Byte} (h : s.headIs 0x12 tag [b] rest) :
    exec .baselineCapture s = .next (match fourOf b.toNat with
      | none => (s.taken rest).refuse 0x12 tag .badArgument
      | some p => match s.panels[p.val].state with
        | .off => (s.taken rest).refuse 0x12 tag .badArgument
        | .waiting | .fault | .capturing => (s.taken rest).refuse 0x12 tag .busy
        | .running => (s.taken rest).startCapture p tag) := by
  refine (whileRunning_dispatch _ h rfl rfl (modeGate_panels _ (by decide))).trans ?_
  simp only [field_cons_zero]
  rfl

/-- Settles O47: the start of the capture is `State.startCapture_eq`. -/
theorem baselineCapture : Obligations.BaselineCapture := by
  unfold Obligations.BaselineCapture
  intro s tag b rest h
  have hexec := exec_baselineCapture h
  refine ⟨fun hb => ?_, ?_⟩
  · rw [hexec, fourOf_eq_none hb]
    rfl
  · rintro p q hb rfl
    rw [hb, fourOf_eq_some] at hexec
    refine ⟨fun hstate => ?_, fun hstate => ?_, fun t hstate ht => ?_⟩
    · simp only [hexec, hstate]
      rfl
    · obtain hstate | hstate | hstate := hstate <;> simp only [hexec, hstate] <;> rfl
    · simp only [hexec, hstate, State.startCapture_eq, State.taken_offering, ht, State.offered_eq]
      rfl

end

end Sys2Proof.Machine
end

section
/-! PROOFS. How a panel receives a frame and takes it into processing, and its frame timer (10 R163, R165, R166, R177). -/

namespace Sys2Proof.Machine

section
variable {s : State} {p : Fin 4}

/-! ## Frames received and taken (10 R165, R166) -/

/-- The samples of a good frame are its cells. -/
theorem frameOf_toList (v : Vector Sample 960) : frameOf v.toList = v := by
  ext i hi
  rw [frameOf, Vector.getElem_ofFn, List.getD_eq_getElem _ _ (by simpa using hi), Vector.getElem_toList]

/-- A panel with its buffered frame in processing, its frame timer started (10 R165, R166). -/
def Panel.taking (q : Panel) (c : Screen) (f : PanelFrame) : Panel :=
  { q with buffer := none, processing := some (processingOf q c f), timer := q.startTimer
           state := if q.state = .capturing then .capturing else .running }

/-- A panel takes no frame in OFF, while one is in processing, or with an empty buffer (10 R165). -/
theorem State.takeFrame_stays
    (h : s.panels[p.val].state = .off ∨ s.panels[p.val].processing ≠ none ∨ s.panels[p.val].buffer = none) :
    s.takeFrame p = s := by
  unfold State.takeFrame
  dsimp only
  split
  · next f hp hb =>
    have hoff : s.panels[p.val].state = .off := by simpa [hp, hb] using h
    exact if_pos hoff
  · rfl

/-- A panel takes its buffered frame: from WAITING or FAULT it reports RUNNING (10 R165, R166). -/
theorem State.takeFrame_eq {f : PanelFrame} (hstate : s.panels[p.val].state ≠ .off)
    (hprocessing : s.panels[p.val].processing = none) (hbuffer : s.panels[p.val].buffer = some f) :
    s.takeFrame p = { s with
      link := if s.panels[p.val].state = .waiting ∨ s.panels[p.val].state = .fault then
        s.link.offering .panel
          [{ cls := 0x46, tag := 0, payload := [BitVec.ofNat 8 p.val, 2], release := none, resets := false }]
        else s.link
      panels := s.panels.set p.val (s.panels[p.val].taking s.screens[p.val] f) } := by
  unfold State.takeFrame
  simp only [hprocessing, hbuffer, if_neg hstate, State.reportPanelState, State.offerReport_eq]
  split <;> rfl

/-- What a panel does with a frame that its sensor sends (10 R165). -/
theorem exec_panelFrameReceived (h : s.resetLow = false) (samples : List Sample) :
    exec (.panelFrameReceived p samples) s = .next (
      if s.panels[p.val].state = .off ∨ s.panels[p.val].config.source = .injected then s
      else if samples.length ≠ Config.cellCount then s.onPanel p fun q => { q with badFrame := true }
      else s.bufferFrame p { samples := frameOf samples, inject := none }) := by
  change execPanelFrameReceived p samples s = _
  rw [execPanelFrameReceived, whileRunning_high h]

/-- FRAME_PROCESSING_START is the taking of a frame (10 R165). -/
theorem exec_frameProcessingStart (h : s.resetLow = false) :
    exec (.frameProcessingStart p) s = .next (s.takeFrame p) := by
  change execFrameProcessingStart p s = _
  rw [execFrameProcessingStart, whileRunning_high h]

/-- Settles O48: by the lemmas on `takeFrame` and on the buffer. -/
theorem panelFrames : Obligations.PanelFrames := by
  unfold Obligations.PanelFrames
  rintro s p q hreset rfl
  refine ⟨fun samples => ⟨fun hignored => ?_, fun hstate hsource hbad => ?_, fun v hstate hsource hv hwaits => ?_⟩,
    fun hstays => ?_, fun f x c hprocessing hbuffer hc hx => ⟨fun hstate => ?_, fun hstate hfree => ?_⟩⟩
  · rw [exec_panelFrameReceived hreset, if_pos hignored]
  · rw [exec_panelFrameReceived hreset, if_neg (by simp [hstate, hsource]), if_pos hbad]
    rfl
  · have hnone : s.panels[p.val].bufferedTag = none := Option.bind_eq_none_iff.mpr hwaits
    have hgood : ¬ samples.length ≠ Config.cellCount := by simp [hv, Config.cellCount]
    rw [exec_panelFrameReceived hreset, if_neg (by simp [hstate, hsource]), if_neg hgood, hv, frameOf_toList,
      State.bufferFrame_eq, Panel.discardReply_eq, hnone]
    simp [injectAnswer]
  · rw [exec_frameProcessingStart hreset, State.takeFrame_stays hstays]
  · have hoff : s.panels[p.val].state ≠ .off := by obtain h | h := hstate <;> simp [h]
    have hsilent : ¬ (s.panels[p.val].state = .waiting ∨ s.panels[p.val].state = .fault) := by
      obtain h | h := hstate <;> simp [h]
    have hkept : (if s.panels[p.val].state = .capturing then PanelMode.capturing else .running) = s.panels[p.val].state := by
      obtain h | h := hstate <;> simp [h]
    rw [exec_frameProcessingStart hreset, State.takeFrame_eq hoff hprocessing hbuffer, if_neg hsilent, Panel.taking, hkept,
      hx, hc]
    rfl
  · have hoff : s.panels[p.val].state ≠ .off := by obtain h | h := hstate <;> simp [h]
    have hrunning : (if s.panels[p.val].state = .capturing then PanelMode.capturing else .running) = .running := by
      obtain h | h := hstate <;> simp [h]
    rw [exec_frameProcessingStart hreset, State.takeFrame_eq hoff hprocessing hbuffer, if_pos hstate,
      LinkState.offering_free hfree.1 hfree.2, Panel.taking, hrunning, hx, hc]
    rfl

/-! ## FRAME_TIMER_EXPIRY (10 R166, R177, R179) -/

/-- A frame timer that runs out takes its panel to FAULT; no other expires (10 R166). -/
theorem exec_frameTimerExpiry (h : s.resetLow = false) :
    exec (.frameTimerExpiry p) s = .next (if s.panels[p.val].timed then s.frameTimeout p else s) :=
  whileRunning_high h _

/-- The answer of an abandoned capture, named by its capture (10 R166). -/
theorem State.captureReply_toList : (s.captureReply p).toList = s.panels[p.val].capture.toList.map fun c =>
    { cls := 0x92, tag := c.tag, payload := [10, BitVec.ofNat 8 p.val], release := none, resets := false } := by
  unfold State.captureReply
  cases s.panels[p.val].capture <;> rfl

/-- Settles O51: the timer that runs expires by `State.frameTimeout_eq`. -/
theorem frameTimerExpiry : Obligations.FrameTimerExpiry := by
  unfold Obligations.FrameTimerExpiry
  rintro s p q hreset rfl
  refine ⟨fun hidle => ?_, fun t hsource hstate ht => ?_⟩
  · have htimed : s.panels[p.val].timed = false := by
      obtain h | h | h | h := hidle <;> simp [Panel.timed, h]
    rw [exec_frameTimerExpiry hreset, htimed]
    rfl
  · have htimed : s.panels[p.val].timed = true := by
      obtain h | h := hstate <;> simp [Panel.timed, hsource, h]
    rw [exec_frameTimerExpiry hreset, if_pos htimed, State.frameTimeout_eq, ht, LinkState.replying_offering,
      LinkState.replying_offering, State.offered_eq, State.offered_eq, State.captureReply_toList, LinkState.replying,
      LinkState.replying, LinkState.offering_replies, LinkState.offering_replies]
    rfl

end

end Sys2Proof.Machine
end

section
/-! PROOFS. What every event keeps of the replies that are owed: the count of the requests in the hands of their owners, and
the laws of the map check and of the panels (02 R27, 10 R171, R178, R179, 11 R183, R185). -/

namespace Sys2Proof.Machine

/-! ## What is kept -/

/-- One of a fixed four counts changes: the sum changes with it. -/
theorem sum_map_set {α : Type} (v : Vector α 4) (g : α → Nat) (i : Fin 4) (x : α) :
    ((v.set i.val x).toList.map g).sum + g v[i.val] = (v.toList.map g).sum + g x := by
  have hsum (w : Vector α 4) : (w.toList.map g).sum = g w[0] + g w[1] + g w[2] + g w[3] := by
    obtain ⟨⟨l⟩, hl⟩ := w
    match l, hl with
    | [a, b, c, d], _ => simp [Nat.add_assoc]
  rw [hsum, hsum]
  fin_cases i <;> simp <;> omega

/-- The requests that have been taken off the inbound queue and whose replies are not yet on TXD, with their owners or in
the reply queue (11 R185). -/
def State.debts (s : State) : Nat :=
  s.mod.commit.toList.length + s.mod.freezing.toList.length + (s.screens.toList.map Screen.hostEntries).sum
    + (s.panels.toList.map Panel.owed).sum + s.link.replies.length

/-- The unanswered requests: those inbound, those in hand, and the one whose reply is being sent. -/
theorem State.unanswered_eq (s : State) : s.unanswered = s.link.inbound.length + s.debts + s.link.sendingReply := by
  have hcommit : (match s.mod.commit with | some _ => 1 | none => 0) = s.mod.commit.toList.length := by
    cases s.mod.commit <;> rfl
  have hfreezing : (match s.mod.freezing with | some _ => 1 | none => 0) = s.mod.freezing.toList.length := by
    cases s.mod.freezing <;> rfl
  have hunfold : s.unanswered = s.link.inbound.length
      + ((match s.mod.commit with | some _ => 1 | none => 0) + (match s.mod.freezing with | some _ => 1 | none => 0))
      + (s.screens.toList.map Screen.hostEntries).sum + (s.panels.toList.map Panel.owed).sum + s.link.replies.length
      + s.link.sendingReply := rfl
  rw [hunfold, hcommit, hfreezing, State.debts]
  omega

/-- From one state to another `k` requests have come into the hands of owners or have been answered, all others stay where
they are or pass from an owner to the reply queue; and the laws of the map check and of the panels are kept. -/
structure State.KeepsOwed (k : Nat) (t s : State) : Prop where
  reception : t.link.inbound = s.link.inbound ∧ t.link.slotsUsed = s.link.slotsUsed ∧ t.link.sending = s.link.sending
  debts : t.debts = s.debts + k
  check : s.CheckInHand → t.CheckInHand
  panels : s.PanelLaw → t.PanelLaw

section
variable {s t r : State} {k : Nat} {i : Fin 4}

/-- Nothing is lost where nothing happens. -/
theorem State.KeepsOwed.refl (s : State) : s.KeepsOwed 0 s := ⟨⟨rfl, rfl, rfl⟩, rfl, id, id⟩

/-- One event after another. -/
theorem State.KeepsOwed.add {j : Nat} (h : t.KeepsOwed j s) (g : r.KeepsOwed k t) : r.KeepsOwed (j + k) s := by
  obtain ⟨⟨hinbound, hslots, hsending⟩, hdebts, hcheck, hpanels⟩ := h
  obtain ⟨⟨ginbound, gslots, gsending⟩, gdebts, gcheck, gpanels⟩ := g
  exact ⟨⟨ginbound.trans hinbound, gslots.trans hslots, gsending.trans hsending⟩, by omega, gcheck ∘ hcheck,
    gpanels ∘ hpanels⟩

/-- An event behind which nothing comes into hand. -/
theorem State.KeepsOwed.trans (h : t.KeepsOwed k s) (g : r.KeepsOwed 0 t) : r.KeepsOwed k s := h.add g

/-- An event before which nothing comes into hand. -/
theorem State.KeepsOwed.before (h : t.KeepsOwed 0 s) (g : r.KeepsOwed k t) : r.KeepsOwed k s := by
  simpa using h.add g

/-- An event that is repeated for the members of a list. -/
theorem State.KeepsOwed.foldl {α : Type} {f : State → α → State} (hf : ∀ s a, (f s a).KeepsOwed 0 s) (l : List α)
    (s : State) : (l.foldl f s).KeepsOwed 0 s := by
  induction l generalizing s with
  | nil => exact .refl s
  | cons a l ih => exact (hf s a).trans (ih _)

/-- A change that neither the panels nor mode control see: what leaves the lists of the screens is queued. -/
theorem State.KeepsOwed.of_results
    (hreception : t.link.inbound = s.link.inbound ∧ t.link.slotsUsed = s.link.slotsUsed ∧ t.link.sending = s.link.sending)
    (hmod : t.mod = s.mod) (hpanels : t.panels = s.panels)
    (hcount : (t.screens.toList.map Screen.hostEntries).sum + t.link.replies.length =
      (s.screens.toList.map Screen.hostEntries).sum + s.link.replies.length + k) : t.KeepsOwed k s := by
  refine ⟨hreception, ?_, by rw [State.CheckInHand, State.CheckInHand, hmod]; exact id,
    by rw [State.PanelLaw, State.PanelLaw, hpanels]; exact id⟩
  rw [State.debts, State.debts, hmod, hpanels]
  omega

/-- A change that neither the link, nor mode control, nor the screens, nor the panels see. -/
theorem State.KeepsOwed.of_eq (hlink : t.link = s.link) (hmod : t.mod = s.mod) (hscreens : t.screens = s.screens)
    (hpanels : t.panels = s.panels) : t.KeepsOwed 0 s :=
  .of_results (by rw [hlink]; exact ⟨rfl, rfl, rfl⟩) hmod hpanels (by rw [hlink, hscreens]; rfl)

/-- A change of a screen that keeps the requests of the host in its list. -/
theorem State.KeepsOwed.onScreen {f : Screen → Screen}
    (hhost : (f s.screens[i.val]).hostEntries = s.screens[i.val].hostEntries + k) : (s.onScreen i f).KeepsOwed k s := by
  refine .of_results ⟨rfl, rfl, rfl⟩ rfl rfl ?_
  have hsum := sum_map_set s.screens Screen.hostEntries i (f s.screens[i.val])
  have hlink : (s.onScreen i f).link = s.link := rfl
  have hscreens : (s.onScreen i f).screens = s.screens.set i.val (f s.screens[i.val]) := rfl
  rw [hlink, hscreens]
  omega

/-- A change of a screen that leaves its list. -/
theorem State.KeepsOwed.onSession {f : Screen → Screen}
    (hout : (f s.screens[i.val]).outstanding = s.screens[i.val].outstanding) : (s.onScreen i f).KeepsOwed 0 s :=
  .onScreen (by rw [Screen.hostEntries, hout, Screen.hostEntries]; rfl)

/-- A change of the link that leaves the requests and the replies. -/
theorem State.KeepsOwed.onLink {f : LinkState → LinkState} (hf : (f s.link).inbound = s.link.inbound
    ∧ (f s.link).slotsUsed = s.link.slotsUsed ∧ (f s.link).sending = s.link.sending ∧ (f s.link).replies = s.link.replies) :
    (s.onLink f).KeepsOwed 0 s := by
  obtain ⟨hinbound, hslots, hsending, hreplies⟩ := hf
  refine .of_results ⟨hinbound, hslots, hsending⟩ rfl rfl ?_
  rw [State.onLink, hreplies]
  rfl

/-- A panel whose replies are queued as it lets go of their requests (10 R167, R179). -/
theorem State.KeepsOwed.of_panel {q : Panel} {l : LinkState}
    (hreception : l.inbound = s.link.inbound ∧ l.slotsUsed = s.link.slotsUsed ∧ l.sending = s.link.sending)
    (hcount : q.owed + l.replies.length = s.panels[i.val].owed + s.link.replies.length + k)
    (hlaw : s.panels[i.val].Law → q.Law) :
    ({ s with link := l, panels := s.panels.set i.val q } : State).KeepsOwed k s := by
  refine ⟨hreception, ?_, id, fun h p => ?_⟩
  · have hsum := sum_map_set s.panels Panel.owed i q
    simp only [State.debts]
    omega
  · by_cases hp : p = i
    · subst hp
      simpa using hlaw (h p)
    · rw [Vector.getElem_set_ne i.isLt p.isLt fun e => hp (Fin.ext e.symm)]
      exact h p

/-- A change of a panel that leaves its requests. -/
theorem State.KeepsOwed.onPanel {f : Panel → Panel} (howed : (f s.panels[i.val]).owed = s.panels[i.val].owed)
    (hlaw : s.panels[i.val].Law → (f s.panels[i.val]).Law) : (s.onPanel i f).KeepsOwed 0 s :=
  .of_panel (l := s.link) ⟨rfl, rfl, rfl⟩ (by rw [howed]; rfl) hlaw

/-! ## Replies and reports (11 R186) -/

/-- A reply is owed by no one any more. -/
theorem State.queueReply_keepsOwed (item : OutItem) : (s.queueReply item).KeepsOwed 1 s :=
  .of_results ⟨rfl, rfl, rfl⟩ rfl rfl (by simp [Nat.add_assoc])

/-- A reply. -/
theorem State.reply_keepsOwed (cls tag : Byte) (p : List Byte) : (s.reply cls tag p).KeepsOwed 1 s :=
  State.queueReply_keepsOwed _

/-- A report answers no request. -/
theorem State.queueReport_keepsOwed (cls : Byte) (p : List Byte) : (s.queueReport cls p).KeepsOwed 0 s := by
  have hlink : (s.queueReport cls p).link.replies = s.link.replies := by
    obtain ⟨-, h⟩ | ⟨-, h⟩ := s.queueReport_link cls p <;> rw [h]
  obtain ⟨-, -, -, hinbound, hslots, hsending, -⟩ := s.queueReport_sameReception cls p
  exact .of_results ⟨hinbound, hslots, hsending⟩ (by simp) (by simp) (by simp [hlink])

/-- An offered report answers no request. -/
theorem State.offerReport_keepsOwed (m : MaskKind) (cls : Byte) (p : List Byte) :
    (s.offerReport m cls p).KeepsOwed 0 s := by
  rw [State.offerReport_eq, LinkState.offering_eq]
  exact .of_results ⟨rfl, rfl, rfl⟩ rfl rfl rfl

/-! ## Releases (09 R151) -/

/-- Of the entries that leave, those of the host leave as replies. -/
theorem itemsOf_leavingFrom (l : LinkState) (i : Fin 4) (code : Byte) (n : Nat) (es : List Entry) :
    (itemsOf .replies (leavingFrom l i code n es)).length = es.countP fun e => !e.ofPanel := by
  induction es generalizing n with
  | nil => rfl
  | cons e es ih =>
    rw [leavingFrom, List.countP_cons]
    cases hpanel : e.ofPanel with
    | true =>
      have hreport : (e.leavesAt i code n).1 = .reports := by
        unfold Entry.ofPanel at hpanel
        unfold Entry.leavesAt
        split <;> simp_all
      split
      · exact ih n
      · rw [itemsOf_cons, hreport, if_neg (by decide)]
        exact ih (n + 1)
    | false =>
      have hreply : (e.leavesAt i code n).1 = .replies := by
        unfold Entry.ofPanel at hpanel
        unfold Entry.leavesAt
        split <;> simp_all
      rw [if_neg (by simp [LinkState.discards, hpanel]), itemsOf_cons, if_pos hreply, List.length_cons, ih]
      rfl

/-- Entries that leave a list in order pass from its screen to the queues (09 R151, 11 R186). -/
theorem State.afterLeaving_keepsOwed (code : Byte) {es rest : List Entry}
    (hlist : s.screens[i.val].outstanding = es ++ rest) : (s.afterLeaving i code es rest).KeepsOwed 0 s := by
  refine .of_results ⟨rfl, rfl, rfl⟩ rfl rfl ?_
  have hreplies : (s.afterLeaving i code es rest).link.replies.length =
      s.link.replies.length + es.countP fun e => !e.ofPanel := by
    rw [← itemsOf_leavingFrom s.link i code s.screens[i.val].released, ← State.leaving_eq, ← List.length_append]
    rfl
  have hhost : s.screens[i.val].hostEntries = (es.countP fun e => !e.ofPanel) + rest.countP fun e => !e.ofPanel := by
    rw [Screen.hostEntries, hlist, List.countP_append]
  have hsum := sum_map_set s.screens Screen.hostEntries i { s.screens[i.val] with
    outstanding := rest, released := s.screens[i.val].released + (s.leaving i code es).length }
  have hleft : ({ s.screens[i.val] with
      outstanding := rest, released := s.screens[i.val].released + (s.leaving i code es).length } : Screen).hostEntries =
      rest.countP fun e => !e.ofPanel := rfl
  have hscreens : (s.afterLeaving i code es rest).screens = s.screens.set i.val { s.screens[i.val] with
      outstanding := rest, released := s.screens[i.val].released + (s.leaving i code es).length } := rfl
  rw [hreplies, hscreens]
  omega

/-- A release answers what it lets leave (09 R151). -/
theorem State.release_keepsOwed (i : Fin 4) : (s.release i).KeepsOwed 0 s := by
  rw [State.release_eq 0]
  exact State.afterLeaving_keepsOwed 0 List.takeWhile_append_dropWhile.symm

/-! ## Entries completed, and entries that join (09 R150, R156) -/

/-- Entries of a list that are marked. -/
theorem State.markAll_keepsOwed {g : Entry → Entry} (hg : ∀ e, (g e).ofPanel = e.ofPanel) :
    (s.onScreen i fun c => { c with outstanding := c.outstanding.map g }).KeepsOwed 0 s := by
  refine .onScreen ?_
  rw [Screen.hostEntries, Screen.hostEntries, List.countP_map]
  exact List.countP_congr fun e _ => by rw [Function.comp_apply, hg]

/-- An entry that is marked. -/
theorem State.mark_keepsOwed (ref : Ref) (e : EntryResult) : (s.mark ref e).KeepsOwed 0 s := by
  refine State.markAll_keepsOwed fun y => ?_
  split
  · exact (y.finish_keeps e).2.2.2
  · rfl

/-- An entry that is completed. -/
theorem State.complete_keepsOwed (ref : Ref) (e : EntryResult) : (s.complete ref e).KeepsOwed 0 s :=
  (State.mark_keepsOwed ref e).trans (State.release_keepsOwed _)

/-- Entries that are completed. -/
theorem State.completeAll_keepsOwed (refs : List Ref) (c : ResultCode) : (s.completeAll refs c).KeepsOwed 0 s :=
  .foldl (fun _ ref => State.complete_keepsOwed ref (.bare c)) refs s

/-- A host's entry comes into the hands of a screen. -/
theorem State.join_keepsOwed (tag : Byte) (ask : Ask) (e : Option EntryResult) :
    (s.join i (.host tag) ask e).KeepsOwed 1 s :=
  .onScreen (by simp [Screen.hostEntries, Entry.ofPanel])

/-- A panel's entry is no request of the host (09 R156). -/
theorem State.createPanelEntry_keepsOwed (ask : Ask) : (s.createPanelEntry i ask).KeepsOwed 0 s := by
  have hreserve : (s.onLink fun l => { l with reserved := l.reserved + 1 }).KeepsOwed 0 s := .onLink ⟨rfl, rfl, rfl, rfl⟩
  have hjoin (u : State) (seq : Byte) : (u.join i (.panel seq) ask none).KeepsOwed 0 u :=
    .onScreen (by simp [Screen.hostEntries, Entry.ofPanel])
  exact (hreserve.trans (hjoin _ _)).trans (.onSession rfl)

end

end Sys2Proof.Machine
end

section
/-! PROOFS. The replies that are owed, through the engines, the sessions and the actions of the hotspots
(05 R81, R95, 08 R137, 09 R147 to R161). -/

namespace Sys2Proof.Machine

section
variable {s t r : State} {k : Nat} {i : Fin 4}

/-- An event that begins with a change which neither the link, nor mode control, nor the screens, nor the panels see. -/
theorem State.KeepsOwed.from_eq (g : r.KeepsOwed k t) (hlink : t.link = s.link) (hmod : t.mod = s.mod)
    (hscreens : t.screens = s.screens) (hpanels : t.panels = s.panels) : r.KeepsOwed k s :=
  (State.KeepsOwed.of_eq hlink hmod hscreens hpanels).before g

/-- An event of mode control: a request that it takes or answers (02 R24, R27, R33, R35). -/
theorem State.KeepsOwed.of_mod {m : ModState} {l : LinkState}
    (hreception : l.inbound = s.link.inbound ∧ l.slotsUsed = s.link.slotsUsed ∧ l.sending = s.link.sending)
    (hcount : m.commit.toList.length + m.freezing.toList.length + l.replies.length =
      s.mod.commit.toList.length + s.mod.freezing.toList.length + s.link.replies.length + k)
    (hcheck : s.CheckInHand → (m.commit.isSome = true ↔ m.mode = .checking)) :
    ({ s with link := l, mod := m } : State).KeepsOwed k s := by
  refine ⟨hreception, ?_, hcheck, id⟩
  simp only [State.debts]
  omega

/-! ## The engines -/

/-- What the composer takes (05 R81, R82). -/
theorem State.takePlaces_keepsOwed (l : List (Fin 2)) : (s.takePlaces l).KeepsOwed 0 s := by
  induction l generalizing s with
  | nil => exact .of_eq rfl rfl rfl rfl
  | cons u us ih =>
    have hfree : (s.freeUnit u).KeepsOwed 0 s := .of_eq (by simp) (by simp) (by simp) (by simp)
    rw [State.takePlaces]
    split
    · exact .of_eq rfl rfl rfl rfl
    · simp only
      split
      · exact hfree.trans ih
      · split
        · exact hfree.trans (ih.from_eq rfl rfl rfl rfl)
        · exact (hfree.trans (State.completeAll_keepsOwed _ _)).trans ih

/-- What the directory takes (08 R137). -/
theorem State.takeQueries_keepsOwed (l : List Query) : (s.takeQueries l).KeepsOwed 0 s := by
  induction l generalizing s with
  | nil => exact .of_eq rfl rfl rfl rfl
  | cons q qs ih =>
    rw [State.takeQueries]
    split
    · exact .of_eq rfl rfl rfl rfl
    · simp only
      split
      · exact ih.from_eq rfl rfl rfl rfl
      · exact (State.complete_keepsOwed _ _).trans ih

/-- What the engines take. -/
theorem State.serve_keepsOwed : s.serve.KeepsOwed 0 s := by
  have hunits : s.serveComposer.giveUnits.KeepsOwed 0 s.serveComposer := .of_eq (by simp) (by simp) (by simp) (by simp)
  exact ((State.takePlaces_keepsOwed _).trans hunits).trans (State.takeQueries_keepsOwed _)

/-- An examination (08 R139 to R143). -/
theorem State.examineListing_keepsOwed : s.examineListing.KeepsOwed 0 s := by
  have hended : ({ s with dir := { s.dir with scan := none } } : State).KeepsOwed 0 s := .of_eq rfl rfl rfl rfl
  unfold State.examineListing
  split
  · exact .refl s
  · simp only
    split
    · exact hended.trans (State.takeQueries_keepsOwed _)
    · split
      · exact .of_eq rfl rfl rfl rfl
      · exact (hended.trans (State.complete_keepsOwed _ _)).trans (State.takeQueries_keepsOwed _)

/-- A finalisation (05 R95). -/
theorem State.finaliseNext_keepsOwed : s.finaliseNext.KeepsOwed 0 s := by
  have hjob (u : State) (j : Option Job) : (u.withJob j).KeepsOwed 0 u := .of_eq rfl rfl rfl rfl
  unfold State.finaliseNext
  split
  · exact .refl s
  · split
    · exact .refl s
    · split
      · exact (hjob s none).trans State.serve_keepsOwed
      · simp only
        split
        · exact ((State.complete_keepsOwed _ _).trans (hjob _ none)).trans State.serve_keepsOwed
        · exact (State.complete_keepsOwed _ _).trans (hjob _ _)

/-- The answer to a MODE_SET FROZEN (02 R24). -/
theorem State.answerFreezing_keepsOwed : s.answerFreezing.KeepsOwed 0 s := by
  unfold State.answerFreezing
  split
  · exact .refl s
  · next tag hfreezing =>
    split
    · exact .refl s
    · exact .of_mod (m := { s.mod with freezing := none })
        (l := { s.link with replies := s.link.replies ++ [plainReply 0x02 tag [ResultCode.ok.code, s.mod.mode.code]] })
        ⟨rfl, rfl, rfl⟩ (by simp [hfreezing]; omega) id

/-- The end of all work (02 R25, R39). -/
theorem State.abortWork_keepsOwed : s.abortWork.KeepsOwed 0 s := by
  have hsearch : s.abortSearch.KeepsOwed 0 s := (State.completeAll_keepsOwed _ _).from_eq rfl rfl rfl rfl
  have hjob (u : State) : u.abortJob.KeepsOwed 0 u := by
    unfold State.abortJob
    split
    · exact .refl u
    · exact (State.completeAll_keepsOwed _ _).from_eq rfl rfl rfl rfl
  have hdirectory (u : State) : u.abortDirectory.KeepsOwed 0 u :=
    (State.completeAll_keepsOwed _ _).from_eq rfl rfl rfl rfl
  have hflush (u : State) : u.flushCache.KeepsOwed 0 u := .of_eq rfl rfl rfl rfl
  exact ((hsearch.trans (hjob _)).trans (hflush _)).trans (hdirectory _)

/-! ## The sessions (09 R147 to R149) -/

/-- A touched session. -/
theorem State.touchSession_keepsOwed (i : Fin 4) : (s.touchSession i).KeepsOwed 0 s := by
  obtain ⟨-, -, -, -, -, -, -, -, -, hout, -⟩ := s.screens[i.val].touch_keeps
  exact .onSession hout

/-- A cancellation (09 R155). -/
theorem State.cancelEntries_keepsOwed (i : Fin 4) (b : Bool) : (s.cancelEntries i b).KeepsOwed 0 s := by
  have hdetach (u : State) (refs : List Ref) : (u.detach refs).KeepsOwed 0 u :=
    .of_eq (by simp) (by simp) (by simp) (by simp)
  refine ((State.markAll_keepsOwed fun e => ?_).trans (hdetach _ _)).trans (State.release_keepsOwed _)
  split <;> rfl

/-- An expiry (09 R149). -/
theorem State.expire_keepsOwed (i : Fin 4) : (s.expire i).KeepsOwed 0 s := by
  have hend : (s.onScreen i Screen.endSession).KeepsOwed 0 s := .onSession rfl
  exact ((hend.trans (State.cancelEntries_keepsOwed i true)).trans State.serve_keepsOwed).trans
    (State.offerReport_keepsOwed ..)

/-- A SCREEN_SET that passes its tests (09 R147). -/
theorem State.configureScreen_keepsOwed (i : Fin 4) (p : List Byte) : (s.configureScreen i p).KeepsOwed 0 s := by
  have hconfigure : (s.onScreen i fun c => c.configure p).KeepsOwed 0 s := .onSession rfl
  unfold State.configureScreen
  simp only
  split
  · exact hconfigure.trans (.onSession rfl)
  · split
    · exact hconfigure.trans (State.expire_keepsOwed i)
    · exact hconfigure

/-! ## Screen-bound requests (09 R152 to R155) -/

/-- A screen-bound request is answered, or its body answers or keeps it. -/
theorem State.screenBound_keepsOwed {cls tag : Byte} {p : List Byte} {body : State → Fin 4 → State}
    (hbody : ∀ (u : State) i, (body u i).KeepsOwed 1 u) : (s.screenBound cls tag p body).KeepsOwed 1 s := by
  unfold State.screenBound
  split
  · exact State.reply_keepsOwed ..
  · exact (State.touchSession_keepsOwed _).before (hbody _ _)

/-- The dispatch of a route request marks its own entry at most (09 R153). -/
theorem State.dispatchRoute_keepsOwed (ref : Ref) (key : Key) (explicit : Bool) :
    (s.dispatchRoute ref key explicit).KeepsOwed 0 s := by
  unfold State.dispatchRoute
  split
  · exact State.mark_keepsOwed ..
  · simp only
    split
    · exact (State.mark_keepsOwed ..).from_eq rfl rfl rfl rfl
    · exact .of_eq rfl rfl rfl rfl

/-- The dispatch of a query marks its own entry at most (08 R132, R133). -/
theorem State.dispatchQuery_keepsOwed (q : Query) : (s.dispatchQuery q).KeepsOwed 0 s := by
  unfold State.dispatchQuery
  split
  · exact .of_eq rfl rfl rfl rfl
  · exact State.mark_keepsOwed ..

/-- A ROUTE_ASK is refused, or joins its screen's list (09 R153). -/
theorem State.askRoute_keepsOwed (tag : Byte) (p : List Byte) : (s.askRoute i tag p).KeepsOwed 1 s := by
  have hrefuse (c : ResultCode) : (s.refuse 0x0B tag c).KeepsOwed 1 s := State.reply_keepsOwed ..
  unfold State.askRoute
  simp only
  split
  · exact hrefuse _
  · split
    · exact hrefuse _
    · split
      · exact hrefuse _
      · split
        · exact hrefuse _
        · split
          · exact hrefuse _
          · exact (((State.join_keepsOwed tag _ none).trans (State.dispatchRoute_keepsOwed _ _ _)).trans
              (State.release_keepsOwed _)).trans State.serve_keepsOwed

/-- A DIRECTORY_ASK is refused, or joins its screen's list (08 R132). -/
theorem State.askDirectory_keepsOwed (tag : Byte) (p : List Byte) : (s.askDirectory i tag p).KeepsOwed 1 s := by
  have hrefuse (c : ResultCode) : (s.refuse 0x0C tag c).KeepsOwed 1 s := State.reply_keepsOwed ..
  unfold State.askDirectory
  simp only
  split
  · exact hrefuse _
  · split
    · exact hrefuse _
    · split
      · exact hrefuse _
      · split
        · exact hrefuse _
        · exact (((State.join_keepsOwed tag _ none).trans (State.dispatchQuery_keepsOwed _)).trans
            (State.release_keepsOwed _)).trans State.serve_keepsOwed

/-! ## Hotspot actions (09 R156 to R161) -/

/-- A panel's request (09 R156). -/
theorem State.panelRequest_keepsOwed (ask : Ask) {dispatch : State → Ref → State}
    (hd : ∀ (u : State) ref, (dispatch u ref).KeepsOwed 0 u) : (s.panelRequest i ask dispatch).state.KeepsOwed 0 s := by
  unfold State.panelRequest
  split
  · exact .refl s
  · split
    · exact .refl s
    · exact (State.createPanelEntry_keepsOwed ask).trans (hd _ _)

/-- A route action (09 R157). -/
theorem State.panelRoute_keepsOwed (kind : DestKind) (n : BitVec 16) : (s.panelRoute i kind n).state.KeepsOwed 0 s := by
  refine State.panelRequest_keepsOwed _ fun u ref => ?_
  split
  · exact State.dispatchRoute_keepsOwed ..
  · exact State.mark_keepsOwed ..

/-- An edit of the entry text or of a filter, and its query (08 R142, 09 R158, R159). -/
theorem State.edit_keepsOwed {f : Screen → Screen} (hout : (f s.screens[i.val]).outstanding = s.screens[i.val].outstanding) :
    ((s.onScreen i f).panelQuery i).state.KeepsOwed 0 s :=
  (State.KeepsOwed.onSession hout).trans (State.panelRequest_keepsOwed _ fun _ _ => State.dispatchQuery_keepsOwed _)

/-- An action (09 R156). -/
theorem State.doAction_keepsOwed (a : Action) : (s.doAction i a).state.KeepsOwed 0 s := by
  have htext (text : List Byte) : (s.editText i text).state.KeepsOwed 0 s := State.edit_keepsOwed rfl
  have hterm (slot : Byte) (term : Option Term) : (s.editTerm i slot term).state.KeepsOwed 0 s := by
    unfold State.editTerm
    split
    · exact .refl s
    · split
      · exact .refl s
      · exact State.edit_keepsOwed rfl
  cases a with
  | plain => exact .refl s
  | listing n => exact State.panelRoute_keepsOwed .listing n
  | waypoint n => exact State.panelRoute_keepsOwed .waypoint n
  | key b =>
    simp only [State.doAction]
    split
    · exact .refl s
    · split
      · exact htext _
      · exact .refl s
  | backspace | clearText =>
    simp only [State.doAction]
    split
    · exact .refl s
    · exact htext _
  | filter slot term => exact hterm slot term
  | unfilter slot => exact hterm slot none
  | cancel => exact State.cancelEntries_keepsOwed i true

/-- A selection (09 R156). -/
theorem State.select_keepsOwed (i : Fin 4) (h : Nat) (n : Byte) (a : Action) : (s.select i h n a).KeepsOwed 0 s := by
  have hcarry : (s.carryOut i a).state.KeepsOwed 0 s := by
    unfold State.carryOut
    split
    · exact (State.touchSession_keepsOwed i).trans (State.doAction_keepsOwed a)
    · exact .refl s
  exact ((hcarry.trans (State.offerReport_keepsOwed ..)).trans (State.release_keepsOwed _)).trans State.serve_keepsOwed

end

end Sys2Proof.Machine
end

section
/-! PROOFS. One track brought forward: the track that it leaves, its CONTACT report, and the session that a DOWN touches
(10 R172 to R174). -/

namespace Sys2Proof.Machine

section
variable {s : State} {p : Fin 4} {i : Fin 5} {f : Processing}

/-! ## One track of a panel -/

/-- A panel with one track replaced. -/
def Panel.withTrack (q : Panel) (i : Fin 5) (t : Track) : Panel := { q with tracks := q.tracks.set i.val t }

/-- A replaced track is replaced again. -/
@[simp] theorem Panel.withTrack_withTrack (q : Panel) (t u : Track) :
    (q.withTrack i t).withTrack i u = q.withTrack i u := by
  simp [Panel.withTrack]

/-- The replaced track. -/
@[simp] theorem Panel.withTrack_self (q : Panel) (t : Track) : (q.withTrack i t).tracks[i.val] = t := by
  simp [Panel.withTrack]

/-- The tracks after one has been replaced. -/
theorem Panel.withTrack_get (q : Panel) (t : Track) (j : Fin 5) :
    (q.withTrack i t).tracks[j.val] = if j = i then t else q.tracks[j.val] := by
  by_cases hj : j = i
  · subst hj
    simp
  · rw [if_neg hj]
    exact Vector.getElem_set_ne i.isLt j.isLt fun e => hj (Fin.ext e.symm)

/-- A track that is left as it is leaves the panel. -/
theorem Panel.withTrack_same (q : Panel) : q.withTrack i q.tracks[i.val] = q := by
  simp [Panel.withTrack]

/-- An update of a track replaces it. -/
theorem State.onTrack_eq (g : Track → Track) :
    s.onTrack p i g = { s with panels := s.panels.set p.val (s.panels[p.val].withTrack i (g s.panels[p.val].tracks[i.val])) } :=
  rfl

/-- No other track of the panel than this one is primary (10 R174). -/
def Panel.leads (q : Panel) (i : Fin 5) : Bool := decide (∀ j : Fin 5, j ≠ i → q.tracks[j.val].primary = false)

/-- Whether another track is primary does not depend on this one. -/
@[simp] theorem Panel.leads_withTrack (q : Panel) (t : Track) : (q.withTrack i t).leads i = q.leads i := by
  simp only [Panel.leads, Panel.withTrack_get]
  exact decide_eq_decide.mpr (forall_congr' fun j => imp_congr_right fun hj => by rw [if_neg hj])

/-- Where this track is not primary, none is just where no other is. -/
theorem Panel.not_hasPrimary {q : Panel} (h : q.tracks[i.val].primary = false) : (!q.hasPrimary) = q.leads i := by
  rw [Bool.eq_iff_iff, Panel.leads, decide_eq_true_iff, Panel.hasPrimary, Bool.not_eq_true', List.any_eq_false]
  constructor
  · intro hnone j _
    have hmem : q.tracks[j.val] ∈ q.tracks.toList := by simp
    simpa using hnone _ hmem
  · intro hothers t ht
    obtain ⟨n, hn, rfl⟩ := List.mem_iff_getElem.mp ht
    have hn : n < 5 := by simpa using hn
    by_cases hni : n = i.val
    · simp [hni, h]
    · simpa using hothers ⟨n, hn⟩ fun e => hni (congrArg Fin.val e)

/-! ## What brings a track forward -/

/-- The CONTACT report that a track makes, given by its kind code and position. -/
def contactItems (p : Fin 4) (i : Fin 5) (x : Option (Byte × (Nat × Nat))) : List OutItem :=
  (x.map fun x => contactItem p i x.1 0 x.2).toList

/-- A CONTACT report says DOWN. -/
def saysDown (x : Option (Byte × (Nat × Nat))) : Bool := decide (x.map (·.1) = some 0)

/-- The session of a screen is touched, if so. -/
def State.touchedIf (s : State) (b : Bool) (p : Fin 4) : State := if b then s.touchSession p else s

/-- The state with a track brought forward: it makes its report, and touches the session where that says DOWN (10 R174). -/
def State.bringing (s : State) (p : Fin 4) (i : Fin 5) (x : Track × Option (Byte × (Nat × Nat))) : State :=
  ({ s with
    link := s.link.offering .contact (contactItems p i x.2)
    panels := s.panels.set p.val (s.panels[p.val].withTrack i x.1) } : State).touchedIf (saysDown x.2) p

/-- What a claim makes of a track: as `Track.brought`, but for the claims that no matching of peaks makes (10 R172). -/
def Track.advanced (f : Processing) (lead : Bool) (t : Track) : Claim → Track × Option (Byte × (Nat × Nat))
  | .nothing => t.brought f lead none
  | .matched k => if t.state = .free then (t, none) else t.brought f lead (some k)
  | .opened k => (openedTrack f k).tested f lead

/-- A track that makes no report is changed alone. -/
theorem State.bringing_silent (t : Track) : s.bringing p i (t, none) = s.onTrack p i fun _ => t := by
  simp [State.bringing, contactItems, saysDown, State.touchedIf, State.onTrack_eq]

/-- Two updates of a track are one. -/
theorem State.onTrack_onTrack (g g' : Track → Track) : (s.onTrack p i g).onTrack p i g' = s.onTrack p i fun t => g' (g t) := by
  simp [State.onTrack_eq]

/-- An update of a track depends on what it makes of that track alone. -/
theorem State.onTrack_const (g : Track → Track) : s.onTrack p i g = s.onTrack p i fun _ => g (s.track p i) := rfl

/-- A track that is put back leaves the state. -/
theorem State.onTrack_self : (s.onTrack p i fun _ => s.track p i) = s := by
  simp [State.onTrack_eq, State.track, Panel.withTrack_same]

/-- A track is brought forward from what it has become. -/
theorem State.onTrack_bringing (t : Track) (x : Track × Option (Byte × (Nat × Nat))) :
    (s.onTrack p i fun _ => t).bringing p i x = s.bringing p i x := by
  simp [State.bringing, State.onTrack_eq]

/-- The test of a PENDING track (10 R173, R174). -/
theorem State.testPending_eq {t : Track} (hprimary : t.primary = false) :
    (s.onTrack p i fun _ => t).testPending p i f = s.bringing p i (t.tested f (s.panels[p.val].leads i)) := by
  have hpanel : (s.onTrack p i fun _ => t).panels[p.val] = s.panels[p.val].withTrack i t := by simp [State.onTrack_eq]
  have hlead : (!(s.panels[p.val].withTrack i t).hasPrimary) = s.panels[p.val].leads i := by
    rw [Panel.not_hasPrimary (i := i) (by rw [Panel.withTrack_self, hprimary]), Panel.leads_withTrack]
  have htrack : (s.onTrack p i fun _ => t).track p i = t := by simp
  rw [State.testPending, htrack, Track.tested]
  split
  · rw [← State.onTrack_bringing t, State.goDown, State.reportContact_eq, hpanel, hlead, htrack]
    simp [State.bringing, State.onTrack_eq, contactItems, saysDown, State.touchedIf]
    rfl
  · split
    · rw [State.bringing_silent, State.onTrack_onTrack]
    · rw [State.bringing_silent]

/-- A peak counts for the high threshold where it reaches it (10 R172). -/
theorem Peak.strong_toNat (k : Peak) : (k.strong f).toNat = if f.config.high.toNat ≤ k.strength then 1 else 0 := by
  unfold Peak.strong
  split <;> simp_all

/-- A FREE track (10 R172, R173). -/
theorem Track.brought_free {t : Track} {lead : Bool} (h : t.state = .free) :
    t.brought f lead none = (t, none) ∧ ∀ k, t.brought f lead (some k) = (openedTrack f k).tested f lead := by
  refine ⟨by simp only [Track.brought, h], fun k => ?_⟩
  simp only [Track.brought, h, openedTrack, Peak.strong_toNat]
  rfl

/-- A PENDING track (10 R173). -/
theorem Track.brought_pending {t : Track} {lead : Bool} (h : t.state = .pending) :
    t.brought f lead none = (.free, none) ∧ ∀ k, t.brought f lead (some k) = (t.countMatch f k).tested f lead := by
  refine ⟨by simp only [Track.brought, h], fun k => ?_⟩
  simp only [Track.brought, h, Track.countMatch, Track.follow, Peak.strong_toNat]

/-- A SUPPRESSED track (10 R173). -/
theorem Track.brought_suppressed {t : Track} {lead : Bool} (h : t.state = .suppressed) :
    t.brought f lead none = (.free, none) ∧ ∀ k, t.brought f lead (some k) = (t.follow k, none) := by
  refine ⟨by simp only [Track.brought, h], fun k => ?_⟩
  simp only [Track.brought, h, Track.follow]

/-- A DOWN track (10 R173, R174). -/
theorem Track.brought_down {t : Track} {lead : Bool} (h : t.state = .down) :
    t.brought f lead none = (if t.missing = 0 then ({ t with missing := 1 }, none) else (.free, some (2, t.position)))
      ∧ ∀ k, t.brought f lead (some k) = if moved (t.follow k) f.config.move.toNat then
          ({ t.follow k with reported := k.position }, some (1, k.position)) else (t.follow k, none) := by
  refine ⟨by simp only [Track.brought, h], fun k => ?_⟩
  have hmoved : moved (t.follow k) f.config.move.toNat = true ↔ k.position ≠ t.reported
      ∧ (f.config.move.toNat ≤ k.position.1 - t.reported.1 + (t.reported.1 - k.position.1)
        ∨ f.config.move.toNat ≤ k.position.2 - t.reported.2 + (t.reported.2 - k.position.2)) := by
    rw [moved, Bool.and_eq_true, Bool.or_eq_true, decide_eq_true_iff, decide_eq_true_iff, decide_eq_true_iff]
    rfl
  simp only [hmoved]
  simp only [Track.brought, h, Track.follow]

/-- A DOWN track that has matched moves, or follows its peak silently (10 R174). -/
theorem State.testMove_eq (t : Track) : (s.onTrack p i fun _ => t).testMove p i f = s.bringing p i
    (if moved t f.config.move.toNat then ({ t with reported := t.position }, some (1, t.position)) else (t, none)) := by
  have htrack : (s.onTrack p i fun _ => t).track p i = t := by simp
  rw [State.testMove, htrack]
  split
  · rw [← State.onTrack_bringing t, State.reportContact_eq, State.onTrack_onTrack]
    simp [State.bringing, State.onTrack_eq, contactItems, saysDown, State.touchedIf]
    rfl
  · rw [State.bringing_silent]

/-- A claim brings its track forward, unless the track goes up with a selection (10 R172 to R174). -/
theorem State.advanceTrack_eq (c : Claim)
    (hprimary : (s.track p i).primary = true → (s.track p i).state = .down)
    (hselects : c = .nothing → (s.track p i).state = .down → (s.track p i).missing ≠ 0 → selected f (s.track p i) = none) :
    s.advanceTrack p f i c =
      s.bringing p i ((s.track p i).advanced f (s.panels[p.val].leads i) c) := by
  generalize ht : s.track p i = t at hprimary hselects
  unfold State.advanceTrack
  cases c with
  | opened k =>
    simp only
    rw [State.testPending_eq rfl]
    rfl
  | matched k =>
    cases hstate : t.state with
    | free =>
      simp only [ht, hstate]
      rw [Track.advanced, if_pos hstate, State.bringing_silent, ← ht, State.onTrack_self]
    | pending =>
      have hused : t.state ≠ .free := by simp [hstate]
      have hother : t.primary = false := by simpa [hstate] using hprimary
      simp only [ht, hstate]
      rw [State.onTrack_const, ht, State.testPending_eq (t := t.countMatch f k) hother, Track.advanced,
        if_neg hused,
        (Track.brought_pending hstate).2]
    | down =>
      have hused : t.state ≠ .free := by simp [hstate]
      simp only [ht, hstate]
      rw [State.onTrack_const, ht, State.testMove_eq, Track.advanced, if_neg hused,
        (Track.brought_down hstate).2]
      rfl
    | suppressed =>
      have hused : t.state ≠ .free := by simp [hstate]
      simp only [ht, hstate]
      rw [State.onTrack_const, ht, Track.advanced, if_neg hused, (Track.brought_suppressed hstate).2,
        State.bringing_silent]
  | nothing =>
    rw [Track.advanced]
    cases hstate : t.state with
    | free =>
      simp only [ht, hstate]
      rw [(Track.brought_free hstate).1, State.bringing_silent, ← ht, State.onTrack_self]
    | pending =>
      simp only [ht, hstate]
      rw [(Track.brought_pending hstate).1, State.bringing_silent]
    | suppressed =>
      simp only [ht, hstate]
      rw [(Track.brought_suppressed hstate).1, State.bringing_silent]
    | down =>
      simp only [ht, hstate]
      rw [(Track.brought_down hstate).1]
      by_cases hmissing : t.missing = 0
      · rw [if_pos hmissing, if_pos (by omega), State.bringing_silent, State.onTrack_const, ht, hmissing]
      · rw [if_neg hmissing, if_neg (by omega), State.goUp, ht, hselects rfl hstate hmissing, State.reportContact_eq]
        simp [State.bringing, State.onTrack_eq, contactItems, saysDown, State.touchedIf]
        rfl

end

end Sys2Proof.Machine
end

section
/-! PROOFS. The replies that are owed and the laws of the panels, through all that a touch panel does
(10 R164 to R167, R171 to R180). -/

namespace Sys2Proof.Machine

section
variable {s t : State} {p : Fin 4} {i : Fin 5} {f : Processing} {q : Panel}

/-! ## What a panel owes -/

/-- A panel owes its capture, its buffered injection and the injection in processing. -/
theorem Panel.owed_eq (q : Panel) : q.owed = q.capture.toList.length + q.bufferedTag.toList.length
    + (q.processing.bind (·.frame.inject)).toList.length := by
  have hinject (o : Option PanelFrame) : (match o with
      | some f => (match f.inject with | some _ => 1 | none => 0) | none => 0) = (o.bind (·.inject)).toList.length := by
    obtain - | ⟨samples, - | tag⟩ := o <;> rfl
  unfold Panel.owed Panel.bufferedTag
  refine congrArg₂ _ (congrArg₂ _ ?_ (hinject q.buffer)) ?_
  · cases q.capture <;> rfl
  · obtain - | f := q.processing
    · rfl
    · exact hinject (some f.frame)

/-- A frame that loses its part is owed its answer all the same (log entry 9). -/
theorem Panel.staleFrame_owed (q : Panel) : q.staleFrame.owed = q.owed := by
  rw [Panel.owed_eq, Panel.owed_eq]
  unfold Panel.staleFrame Panel.bufferedTag
  cases q.processing <;> rfl

/-- An answered injection is one reply, if there is one. -/
theorem injectAnswer_length (tag : Option Byte) (r : Byte) : (injectAnswer p tag r).length = tag.toList.length := by
  simp [injectAnswer]

/-- The reply of an abandoned capture is one, if there is one. -/
theorem State.captureReply_length : (s.captureReply p).toList.length = s.panels[p.val].capture.toList.length := by
  rw [State.captureReply_toList, List.length_map]

/-! ## The laws of one panel -/

/-- A panel whose tracks are all FREE is lawful where the rest of its laws hold (10 R171). -/
theorem Panel.law_of_free (htracks : q.tracks = .replicate 5 .free) (hcapture : q.capture.isSome = true ↔ q.state = .capturing)
    (hroles : ∀ f, q.processing = some f →
      (f.role = .detect → q.state = .running) ∧ (f.role = .capture → q.state = .capturing))
    (hdrift : q.drift ≤ 7) (hoff : q.state = .off ↔ q.config.enabled = false) : q.Law := by
  have hfree (k : Fin 5) : q.tracks[k.val] = Track.free := by rw [htracks, replicate_get]
  refine ⟨hcapture, fun _ => hfree, fun j k hj => ?_, fun k hk => ?_, hroles, hdrift, hoff⟩
  · rw [hfree] at hj
    cases hj
  · rw [hfree] at hk
    cases hk

/-- A frame that has lost its part needs no state of its panel. -/
theorem Panel.staleFrame_roles {m : PanelMode} : ∀ f, q.staleFrame.processing = some f →
    (f.role = .detect → m = .running) ∧ (f.role = .capture → m = .capturing) := by
  intro f hf
  obtain ⟨g, -, rfl⟩ := Option.map_eq_some_iff.mp hf
  exact ⟨nofun, nofun⟩

/-- A track replaced in RUNNING by one that is primary only as DOWN, and only where no other track is (10 R171, R174). -/
theorem Panel.Law.withTrack {x : Track} (h : q.Law) (hrunning : q.state = .running)
    (hx : x.primary = true → x.state = .down ∧ (q.tracks[i.val].primary = true ∨ q.leads i = true)) : (q.withTrack i x).Law := by
  obtain ⟨hcapture, -, hone, hdown, hroles, hdrift, hoff⟩ := h
  have hother (k : Fin 5) (hk : k ≠ i) (hprimary : x.primary = true) : q.tracks[k.val].primary = false := by
    obtain ⟨-, hold | hlead⟩ := hx hprimary
    · exact Bool.eq_false_iff.mpr fun hp => hk (hone k i hp hold)
    · exact of_decide_eq_true hlead k hk
  refine ⟨hcapture, fun hnot => absurd hrunning hnot, fun j k hj hk => ?_, fun k hk => ?_, hroles, hdrift, hoff⟩
  · rw [Panel.withTrack_get] at hj hk
    by_cases hji : j = i <;> by_cases hki : k = i
    · rw [hji, hki]
    · rw [if_pos hji] at hj
      rw [if_neg hki, hother k hki hj] at hk
      cases hk
    · rw [if_pos hki] at hk
      rw [if_neg hji, hother j hji hk] at hj
      cases hj
    · rw [if_neg hji] at hj
      rw [if_neg hki] at hk
      exact hone j k hj hk
  · rw [Panel.withTrack_get] at hk ⊢
    split at hk
    · next hki => rw [if_pos hki]; exact (hx hk).1
    · next hki => rw [if_neg hki]; exact hdown k hk

/-- The end of a frame for drift keeps the laws (10 R178). -/
theorem Panel.Law.drifted (h : q.Law) (f : Processing) : (q.drifted f).Law := by
  obtain ⟨hcapture, hfree, hone, hdown, hroles, hdrift, hoff⟩ := h
  obtain heq | ⟨-, hless, heq⟩ | ⟨-, -, heq⟩ := q.drifted_cases f <;> rw [heq]
  · exact ⟨hcapture, hfree, hone, hdown, hroles, Nat.zero_le 7, hoff⟩
  · exact ⟨hcapture, hfree, hone, hdown, hroles, Nat.le_of_lt_succ hless, hoff⟩
  · exact ⟨hcapture, hfree, hone, hdown, hroles, Nat.zero_le 7, hoff⟩

/-- A panel whose frame has been finished. -/
def Panel.idled (q : Panel) : Panel := { q with processing := none }

/-- A panel without a frame in processing keeps the laws. -/
theorem Panel.Law.idled (h : q.Law) : q.idled.Law := by
  obtain ⟨hcapture, hfree, hone, hdown, -, hdrift, hoff⟩ := h
  exact ⟨hcapture, hfree, hone, hdown, nofun, hdrift, hoff⟩

/-! ## Tracks brought forward (10 R172 to R174) -/

/-- A PENDING track that is tested is primary only as DOWN, and only where it takes the lead (10 R174). -/
theorem Track.tested_primary {x : Track} {lead : Bool} (hx : x.primary = false)
    (h : (x.tested f lead).1.primary = true) : (x.tested f lead).1.state = .down ∧ lead = true := by
  unfold Track.tested at h ⊢
  split at h
  · next hcounts =>
    rw [if_pos hcounts]
    exact ⟨rfl, h⟩
  · split at h
    · rw [hx] at h
      cases h
    · rw [hx] at h
      cases h

/-- A track that is brought forward is primary only as DOWN, and only where it was, or takes the lead (10 R174). -/
theorem Track.advanced_primary {x : Track} {lead : Bool} (hx : x.primary = true → x.state = .down) (c : Claim)
    (h : (x.advanced f lead c).1.primary = true) :
    (x.advanced f lead c).1.state = .down ∧ (x.primary = true ∨ lead = true) := by
  have hnot (hstate : x.state ≠ .down) : x.primary = false := Bool.eq_false_iff.mpr fun hp => hstate (hx hp)
  cases c with
  | opened k =>
    obtain ⟨hdown, hlead⟩ := Track.tested_primary rfl h
    exact ⟨hdown, .inr hlead⟩
  | matched k =>
    rw [Track.advanced] at h ⊢
    split at h
    · next hfree => exact absurd h (by simp [hnot (by simp [hfree])])
    · next hused =>
      rw [if_neg hused]
      cases hstate : x.state with
      | free => exact absurd hstate hused
      | pending =>
        rw [(Track.brought_pending hstate).2] at h ⊢
        obtain ⟨hdown, hlead⟩ := Track.tested_primary (x := x.countMatch f k) (hnot (by simp [hstate])) h
        exact ⟨hdown, .inr hlead⟩
      | suppressed =>
        rw [(Track.brought_suppressed hstate).2] at h
        exact absurd (hx h) (by simp [hstate])
      | down =>
        rw [(Track.brought_down hstate).2] at h ⊢
        by_cases hmoved : moved (x.follow k) f.config.move.toNat = true
        · rw [if_pos hmoved] at h ⊢
          exact ⟨hstate, .inl h⟩
        · rw [if_neg hmoved] at h ⊢
          exact ⟨hstate, .inl h⟩
  | nothing =>
    rw [Track.advanced] at h ⊢
    cases hstate : x.state with
    | free =>
      rw [(Track.brought_free hstate).1] at h
      exact absurd (hx h) (by simp [hstate])
    | pending =>
      rw [(Track.brought_pending hstate).1] at h
      cases h
    | suppressed =>
      rw [(Track.brought_suppressed hstate).1] at h
      cases h
    | down =>
      rw [(Track.brought_down hstate).1] at h ⊢
      split at h
      · next hmissing =>
        rw [if_pos hmissing]
        exact ⟨hstate, .inl h⟩
      · cases h

/-- A track that is replaced owes nothing. -/
theorem State.onTrack_keepsOwed (x : Track) (hlaw : s.panels[p.val].Law → (s.panels[p.val].withTrack i x).Law) :
    (s.onTrack p i fun _ => x).KeepsOwed 0 s :=
  .onPanel (f := fun q => q.withTrack i x) rfl hlaw

/-- A track brought forward by its report and its session. -/
theorem State.bringing_keepsOwed (x : Track × Option (Byte × (Nat × Nat)))
    (hlaw : s.panels[p.val].Law → (s.panels[p.val].withTrack i x.1).Law) : (s.bringing p i x).KeepsOwed 0 s := by
  have hbrought : ({ s with
      link := s.link.offering .contact (contactItems p i x.2)
      panels := s.panels.set p.val (s.panels[p.val].withTrack i x.1) } : State).KeepsOwed 0 s := by
    refine .of_panel ?_ ?_ hlaw
    · rw [LinkState.offering_eq]
      exact ⟨rfl, rfl, rfl⟩
    · rw [LinkState.offering_replies]
      rfl
  unfold State.bringing State.touchedIf
  split
  · exact hbrought.trans (State.touchSession_keepsOwed p)
  · exact hbrought

/-- The panel of a track brought forward. -/
theorem State.bringing_panels (x : Track × Option (Byte × (Nat × Nat))) :
    (s.bringing p i x).panels = s.panels.set p.val (s.panels[p.val].withTrack i x.1) := by
  unfold State.bringing State.touchedIf
  split <;> simp

/-- A track that goes up with a selection: the selection changes no panel (10 R176). -/
theorem State.goUp_keepsOwed (hrunning : s.panels[p.val].state = .running) : (s.goUp p i f).KeepsOwed 0 s
    ∧ (s.goUp p i f).panels = s.panels.set p.val (s.panels[p.val].withTrack i .free) := by
  have hfree (u : State) (hu : u.panels = s.panels) : (u.onTrack p i fun _ => .free).KeepsOwed 0 u
      ∧ (u.onTrack p i fun _ => .free).panels = s.panels.set p.val (s.panels[p.val].withTrack i .free) := by
    refine ⟨State.onTrack_keepsOwed .free fun h => h.withTrack (by rw [hu]; exact hrunning) nofun, ?_⟩
    simp only [State.onTrack_eq, hu]
  have hreport : (s.reportContact p i.val .up false (s.track p i).position).KeepsOwed 0 s :=
    State.offerReport_keepsOwed ..
  unfold State.goUp
  simp only
  split
  · obtain ⟨hkeeps, hpanels⟩ := hfree (s.reportContact p i.val .up false (s.track p i).position) (by simp)
    exact ⟨hreport.trans hkeeps, hpanels⟩
  · next h x _ =>
    obtain ⟨hkeeps, hpanels⟩ := hfree ((s.reportContact p i.val .up false (s.track p i).position).select p h
      f.pageNumber x.action) (by simp)
    exact ⟨(hreport.trans (State.select_keepsOwed ..)).trans hkeeps, hpanels⟩

/-- A track brought forward keeps the laws of its panel, and changes of the panels that track alone (10 R173). -/
theorem State.advanceTrack_keepsOwed (hlaw : s.PanelLaw) (hrunning : s.panels[p.val].state = .running) (c : Claim) :
    (s.advanceTrack p f i c).KeepsOwed 0 s
      ∧ ∃ x, (s.advanceTrack p f i c).panels = s.panels.set p.val (s.panels[p.val].withTrack i x) := by
  obtain ⟨-, -, -, hprimary, -⟩ := hlaw p
  by_cases hselects : c = .nothing ∧ (s.track p i).state = .down ∧ (s.track p i).missing ≠ 0
  · obtain ⟨rfl, hdown, hmissing⟩ := hselects
    have hup : s.advanceTrack p f i .nothing = s.goUp p i f := by
      unfold State.advanceTrack
      simp only [hdown]
      exact if_neg (by omega)
    rw [hup]
    obtain ⟨hkeeps, hpanels⟩ := State.goUp_keepsOwed (i := i) (f := f) hrunning
    exact ⟨hkeeps, _, hpanels⟩
  · rw [State.advanceTrack_eq c (hprimary i) fun hc hdown hmissing => absurd ⟨hc, hdown, hmissing⟩ hselects]
    exact ⟨State.bringing_keepsOwed _ fun h => h.withTrack hrunning fun hx =>
      Track.advanced_primary (hprimary i) c hx, _, State.bringing_panels _⟩

/-- A panel of which the tracks alone have changed. -/
def State.TracksMoved (p : Fin 4) (t s : State) : Prop := ∃ ts, t.panels[p.val] = { s.panels[p.val] with tracks := ts }

/-- All tracks brought forward keep the laws of their panel, and change of that panel the tracks alone (10 R173). -/
theorem State.advanceTracks_keepsOwed (xs : List (Fin 5 × Claim)) (hlaw : s.PanelLaw)
    (hrunning : s.panels[p.val].state = .running) :
    (xs.foldl (fun s x => s.advanceTrack p f x.1 x.2) s).KeepsOwed 0 s
      ∧ State.TracksMoved p (xs.foldl (fun s x => s.advanceTrack p f x.1 x.2) s) s := by
  induction xs generalizing s with
  | nil => exact ⟨.refl s, _, rfl⟩
  | cons x xs ih =>
    obtain ⟨hkeeps, y, hpanels⟩ := State.advanceTrack_keepsOwed (f := f) (i := x.1) hlaw hrunning x.2
    have hpanel : (s.advanceTrack p f x.1 x.2).panels[p.val] = s.panels[p.val].withTrack x.1 y := by
      rw [hpanels, Vector.getElem_set_self]
    obtain ⟨hrest, ts, hts⟩ := ih (hkeeps.panels hlaw) (by rw [hpanel]; exact hrunning)
    exact ⟨hkeeps.trans hrest, ts, by rw [List.foldl_cons, hts, hpanel]; rfl⟩

/-- The end of a frame for drift leaves the frames and the capture. -/
theorem Panel.drifted_frames (q : Panel) (f : Processing) :
    (q.drifted f).processing = q.processing ∧ (q.drifted f).owed = q.owed := by
  have howed (b : Vector Sample 960) (n : Nat) : ({ q with baseline := b, drift := n } : Panel).owed = q.owed := by
    rw [Panel.owed_eq, Panel.owed_eq]
    rfl
  obtain heq | ⟨-, -, heq⟩ | ⟨-, -, heq⟩ := q.drifted_cases f <;> rw [heq]
  · exact ⟨rfl, howed q.baseline 0⟩
  · exact ⟨rfl, howed q.baseline (q.drift + 1)⟩
  · exact ⟨rfl, howed _ 0⟩

/-- A detection by the claims that its peaks make (10 R172 to R178). -/
theorem State.detect_eq {cs : List Claim} {beyond : Bool} (h : matchPeaks s.panels[p.val].tracks.toList
      (peaksOf (strengths f.curve f.frame.samples f.baseline) f.config.low.toNat f.width f.height) = (cs, beyond)) :
    s.detect p f = ((s.onPanel p fun q => { q with overContact := q.overContact || beyond }).advanceTracks p f cs).onPanel p
      fun q => q.drifted f := by
  unfold State.detect
  simp only [h]

/-- A detection keeps the laws and the frame in processing (10 R172 to R178). -/
theorem State.detect_keepsOwed (hlaw : s.PanelLaw) (hrunning : s.panels[p.val].state = .running) :
    (s.detect p f).KeepsOwed 0 s ∧ (s.detect p f).panels[p.val].processing = s.panels[p.val].processing := by
  rw [State.detect_eq (Prod.eta _).symm]
  generalize matchPeaks s.panels[p.val].tracks.toList (peaksOf (strengths f.curve f.frame.samples f.baseline)
    f.config.low.toNat f.width f.height) = r
  have hover : (s.onPanel p fun q => { q with overContact := q.overContact || r.2 }).KeepsOwed 0 s :=
    .onPanel rfl fun ⟨hcapture, hfree, hone, hdown, hroles, hdrift, hoff⟩ =>
      ⟨hcapture, hfree, hone, hdown, hroles, hdrift, hoff⟩
  obtain ⟨htracks, ts, hts⟩ := State.advanceTracks_keepsOwed (f := f) (p := p) (fiveTracks.zip r.1) (hover.panels hlaw)
    (by simpa using hrunning)
  refine ⟨(hover.trans htracks).trans (.onPanel (Panel.drifted_frames _ f).2 fun h => h.drifted f), ?_⟩
  rw [State.onPanel_get, if_pos rfl, (Panel.drifted_frames _ f).1, State.advanceTracks, hts]
  simp

/-! ## Captures, and the end of a frame (10 R167, R179) -/

/-- One frame of a capture that is not yet its eighth (10 R179). -/
theorem State.accumulate_more {c : Capture} (hc : s.panels[p.val].capture = some c) (hcount : c.count < 7) :
    s.accumulate p f = { s with
      panels := s.panels.set p.val { s.panels[p.val] with capture := some (c.add f.frame) } } := by
  have hadd : (c.add f.frame).count < 8 := Nat.succ_lt_succ hcount
  simp only [State.accumulate, hc, if_pos hadd]
  rfl

/-- The eighth frame of a capture replaces the baseline and answers (10 R179). -/
theorem State.accumulate_last {c : Capture} (hc : s.panels[p.val].capture = some c) (hcount : ¬ c.count < 7) :
    s.accumulate p f = { s with
      link := s.link.replying [plainReply 0x12 c.tag [0, BitVec.ofNat 8 p.val]]
      panels := s.panels.set p.val { s.panels[p.val] with
        baseline := (c.add f.frame).average, capture := none, state := .running, drift := 0
        timer := s.panels[p.val].startTimer } } := by
  have hadd : ¬ (c.add f.frame).count < 8 := fun h => hcount (Nat.lt_of_succ_lt_succ h)
  have htag : (c.add f.frame).tag = c.tag := by simp only [Capture.add]
  have hok : ResultCode.ok.code = 0 := rfl
  simp only [State.accumulate, hc, if_neg hadd, State.reply, State.queueReply, State.onPanel, State.onLink,
    LinkState.replying, htag, hok]

/-- What a frame's role makes of the state before the frame is finished (10 R167). -/
def State.processed (s : State) (p : Fin 4) (f : Processing) : State :=
  match f.role with
  | .detect => s.detect p f
  | .capture => s.accumulate p f
  | .stale => s

/-- The end of a frame (10 R167). -/
theorem State.finishFrame_eq (hf : s.panels[p.val].processing = some f) : s.finishFrame p = { s.processed p f with
    link := (s.processed p f).link.replying (injectAnswer p f.frame.inject 0)
    panels := (s.processed p f).panels.set p.val (s.processed p f).panels[p.val].idled } := by
  simp only [State.finishFrame, hf, State.answerInject_eq, State.processed]
  rfl

/-- A frame that is finished pays its answer (10 R167). -/
theorem Panel.idled_owed (hf : q.processing = some f) :
    q.idled.owed + (injectAnswer p f.frame.inject 0).length = q.owed := by
  rw [injectAnswer_length, Panel.owed_eq, Panel.owed_eq, hf]
  rfl

/-- The end of a frame, which answers its injection (10 R167). -/
theorem State.finishFrame_keepsOwed (hlaw : s.PanelLaw) : (s.finishFrame p).KeepsOwed 0 s := by
  cases hf : s.panels[p.val].processing with
  | none =>
    have hsame : s.finishFrame p = s := by simp only [State.finishFrame, hf]
    rw [hsame]
    exact .refl s
  | some f =>
    have hend {u : State} (hu : u.panels[p.val].processing = some f) : ({ u with
        link := u.link.replying (injectAnswer p f.frame.inject 0)
        panels := u.panels.set p.val u.panels[p.val].idled } : State).KeepsOwed 0 u := by
      refine State.KeepsOwed.of_panel (k := 0) ⟨rfl, rfl, rfl⟩ ?_ Panel.Law.idled
      have hpaid := Panel.idled_owed (p := p) hu
      rw [LinkState.replying, List.length_append]
      omega
    obtain ⟨hcapture, hfree, hone, hdown, hroles, hdrift, hoff⟩ := hlaw p
    obtain ⟨hdetect, hcapturing⟩ := hroles f hf
    rw [State.finishFrame_eq hf, State.processed]
    cases hrole : f.role with
    | stale => exact hend hf
    | detect =>
      obtain ⟨hkeeps, hprocessing⟩ := State.detect_keepsOwed (f := f) hlaw (hdetect hrole)
      exact hkeeps.trans (hend (hprocessing.trans hf))
    | capture =>
      have hstate := hcapturing hrole
      obtain ⟨c, hc⟩ := Option.isSome_iff_exists.mp (hcapture.mpr hstate)
      have hon : s.panels[p.val].config.enabled ≠ false := fun h => by simp [hoff.mpr h] at hstate
      have howed : s.panels[p.val].owed = 1 + s.panels[p.val].bufferedTag.toList.length
          + (injectAnswer p f.frame.inject 0).length := by
        rw [Panel.owed_eq, hc, hf, injectAnswer_length]
        rfl
      by_cases hcount : c.count < 7
      · simp only [State.accumulate_more hc hcount, Vector.getElem_set_self, Vector.set_set]
        refine State.KeepsOwed.of_panel (k := 0) ⟨rfl, rfl, rfl⟩ ?_ fun _ => ?_
        · rw [howed, Panel.owed_eq, LinkState.replying, List.length_append]
          simp [Panel.idled, Panel.bufferedTag]
          omega
        · exact ⟨by simp [Panel.idled, hstate], hfree, hone, hdown, nofun, hdrift, hoff⟩
      · simp only [State.accumulate_last hc hcount, Vector.getElem_set_self, Vector.set_set]
        refine State.KeepsOwed.of_panel (k := 0) ⟨rfl, rfl, rfl⟩ ?_ fun _ => ?_
        · rw [howed, Panel.owed_eq, LinkState.replying, LinkState.replying, List.length_append, List.length_append]
          simp [Panel.idled, Panel.bufferedTag]
          omega
        · exact ⟨by simp [Panel.idled], fun h => absurd rfl h, hone, hdown, nofun, Nat.zero_le 7, by simp [Panel.idled, hon]⟩

end

end Sys2Proof.Machine
end

section
/-! PROOFS. The replies that are owed and the laws of the panels, through the requests and the events of the touch panels and
the tables written to them (01 R12 to R17, 10 R164 to R167, R177 to R180). -/

namespace Sys2Proof.Machine

section
variable {s t : State} {p : Fin 4} {f : Processing} {q : Panel} {tag : Byte}

/-! ## Frames (10 R165, R167) -/

/-- What a panel owes when its buffer alone changes. -/
theorem Panel.buffer_owed (q : Panel) (b : Option PanelFrame) :
    ({ q with buffer := b } : Panel).owed + q.bufferedTag.toList.length = q.owed + (b.bind (·.inject)).toList.length := by
  rw [Panel.owed_eq, Panel.owed_eq]
  simp only [Panel.bufferedTag]
  omega

/-- The answer to the frame that leaves a buffer is one reply, where that frame is injected. -/
theorem Panel.discardReply_length (q : Panel) : (q.discardReply p).length = q.bufferedTag.toList.length := by
  rw [Panel.discardReply_eq, injectAnswer_length]

/-- A frame that enters the buffer: an injected one is a request whose reply waits (10 R165, R167). -/
theorem State.bufferFrame_keepsOwed (f : PanelFrame) : (s.bufferFrame p f).KeepsOwed f.inject.toList.length s := by
  rw [State.bufferFrame_eq]
  refine .of_panel ⟨rfl, rfl, rfl⟩ ?_ fun ⟨hcapture, hfree, hone, hdown, hroles, hdrift, hoff⟩ =>
    ⟨hcapture, hfree, hone, hdown, hroles, hdrift, hoff⟩
  have howed := s.panels[p.val].buffer_owed (some f)
  have hlength := s.panels[p.val].discardReply_length (p := p)
  simp only [Option.bind_some] at howed
  simp only [LinkState.replying, List.length_append]
  omega

/-- A frame that is taken keeps its request in hand (10 R165, R166). -/
theorem State.takeFrame_keepsOwed : (s.takeFrame p).KeepsOwed 0 s := by
  by_cases hstays : s.panels[p.val].state = .off ∨ s.panels[p.val].processing ≠ none ∨ s.panels[p.val].buffer = none
  · rw [State.takeFrame_stays hstays]
    exact .refl s
  · rw [not_or, not_or, not_not] at hstays
    obtain ⟨hstate, hprocessing, hbuffer⟩ := hstays
    obtain ⟨f, hf⟩ := Option.ne_none_iff_exists'.mp hbuffer
    rw [State.takeFrame_eq hstate hprocessing hf]
    refine .of_panel ?_ ?_ fun ⟨hcapture, hfree, hone, hdown, _, hdrift, hoff⟩ => ?_
    · split
      · rw [LinkState.offering_eq]
        exact ⟨rfl, rfl, rfl⟩
      · exact ⟨rfl, rfl, rfl⟩
    · have howed : (s.panels[p.val].taking s.screens[p.val] f).owed = s.panels[p.val].owed := by
        rw [Panel.owed_eq, Panel.owed_eq, hprocessing]
        simp [Panel.taking, Panel.bufferedTag, hf, processingOf]
      rw [howed]
      split
      · rw [LinkState.offering_replies]
        rfl
      · rfl
    · have hon : s.panels[p.val].config.enabled ≠ false := fun h => hstate (hoff.mpr h)
      by_cases hcapturing : s.panels[p.val].state = .capturing
      · have hstates : (s.panels[p.val].taking s.screens[p.val] f).state = .capturing := if_pos hcapturing
        refine ⟨by rw [hstates]; exact iff_of_true (hcapture.mpr hcapturing) rfl, fun _ => hfree (by simp [hcapturing]),
          hone, hdown, ?_, hdrift, by rw [hstates]; exact iff_of_false nofun hon⟩
        rintro g ⟨⟩
        simp [processingOf, hcapturing, hstates]
      · have hstates : (s.panels[p.val].taking s.screens[p.val] f).state = .running := if_neg hcapturing
        refine ⟨by rw [hstates]; exact iff_of_false (fun h => hcapturing (hcapture.mp h)) nofun,
          fun h => absurd hstates h, hone, hdown, ?_, hdrift, by rw [hstates]; exact iff_of_false nofun hon⟩
        rintro g ⟨⟩
        simp [processingOf, hcapturing, hstates]

/-! ## The entry to another panel state (10 R164, R166, R177, R179) -/

/-- What a panel with its buffer and its capture emptied still owes: the frame in processing. -/
theorem Panel.owed_emptied (q : Panel) (hcapture : q.capture = none) (hbuffer : q.buffer = none) :
    q.staleFrame.owed = (q.processing.bind (·.frame.inject)).toList.length := by
  rw [Panel.staleFrame_owed, Panel.owed_eq, hcapture, Panel.bufferedTag, hbuffer]
  simp

/-- A panel whose frame timer can run is not OFF (10 R166). -/
theorem Panel.timed_on (h : q.timed = true) : q.state ≠ .off := by
  intro hoff
  simp [Panel.timed, hoff] at h

/-- The expiry of a frame timer answers the capture and the buffered injection (10 R166, R177, R179). -/
theorem State.frameTimeout_keepsOwed (hstate : s.panels[p.val].state ≠ .off) : (s.frameTimeout p).KeepsOwed 0 s := by
  rw [State.frameTimeout_eq]
  refine .of_panel ?_ ?_ fun ⟨_, _, _, _, _, _, hoff⟩ => ?_
  · rw [LinkState.offering_eq]
    simp only [LinkState.replying]
    rw [LinkState.offering_eq]
    exact ⟨rfl, rfl, rfl⟩
  · rw [Panel.owed_emptied _ rfl rfl, LinkState.offering_replies]
    simp only [LinkState.replying, LinkState.offering_replies, List.length_append, State.captureReply_length,
      Panel.discardReply_length, Panel.owed_eq]
    omega
  · have hon : s.panels[p.val].config.enabled ≠ false := fun h => hstate (hoff.mpr h)
    exact Panel.law_of_free rfl (iff_of_false nofun nofun) Panel.staleFrame_roles (Nat.zero_le 7) (iff_of_false nofun hon)

/-- An enabled panel that a PANEL_SET leaves in its state, or a panel that it takes to OFF or WAITING (10 R164). -/
theorem State.panelTransition_keepsOwed (hcapturing : s.panels[p.val].state ≠ .capturing) (c before : PanelConfig)
    (hlaw : s.PanelLaw) :
    ((s.onPanel p fun q => { q with config := c }).panelTransition p before).KeepsOwed 0 s := by
  obtain ⟨hcapture, hfree, hone, hdown, hroles, hdrift, hoff⟩ := hlaw p
  have hnone : s.panels[p.val].capture = none := Option.not_isSome_iff_eq_none.mp fun h => hcapturing (hcapture.mp h)
  have hself : (s.onPanel p fun q => { q with config := c }).panels[p.val] = { s.panels[p.val] with config := c } :=
    Vector.getElem_set_self ..
  have hleaves (m : PanelMode) (hm : m ≠ .capturing) (henabled : m = .off ↔ c.enabled = false) :
      ((s.onPanel p fun q => { q with config := c }).leaveRunning p m).KeepsOwed 0 s := by
    have heq := State.leaveRunning_configured (s := s) (rest := s.link.inbound) (p := p) c m
    have htaken : s.taken s.link.inbound = s := rfl
    rw [htaken] at heq
    rw [heq]
    refine .of_panel ?_ ?_ fun _ => ?_
    · rw [LinkState.offering_eq]
      exact ⟨rfl, rfl, rfl⟩
    · rw [Panel.staleFrame_owed, Panel.owed_eq, Panel.owed_eq]
      simp [Panel.discardReply_length, Panel.bufferedTag, hnone]
      omega
    · exact Panel.law_of_free rfl (iff_of_false (by simp [Panel.staleFrame, hnone]) hm) Panel.staleFrame_roles
        (Nat.zero_le 7) henabled
  by_cases henabled : c.enabled = false
  · rw [State.panelTransition_moves (m := .off) (.inr ⟨by rw [hself]; exact henabled, rfl⟩)]
    exact hleaves .off nofun (iff_of_true rfl henabled)
  · have hon : c.enabled = true := by simpa using henabled
    by_cases hmove : s.panels[p.val].state = .off ∨ c.source ≠ before.source
    · rw [State.panelTransition_moves (m := .waiting) (.inl ⟨by rw [hself]; exact hon, by rw [hself]; exact hmove, rfl⟩)]
      exact hleaves .waiting nofun (iff_of_false nofun henabled)
    · rw [not_or, not_not] at hmove
      obtain ⟨hstate, hsource⟩ := hmove
      rw [State.panelTransition_stays (by rw [hself]; exact hon) (by rw [hself]; exact hstate) (by rw [hself]; exact hsource)]
      exact .onPanel rfl fun _ => ⟨hcapture, hfree, hone, hdown, hroles, hdrift, iff_of_false hstate henabled⟩

/-- A capture that starts is a request whose reply waits (10 R179). -/
theorem State.startCapture_keepsOwed (hlaw : s.PanelLaw) (hrunning : s.panels[p.val].state = .running) (tag : Byte) :
    (s.startCapture p tag).KeepsOwed 1 s := by
  obtain ⟨hcapture, -, -, -, -, -, hoff⟩ := hlaw p
  have hnone : s.panels[p.val].capture = none :=
    Option.not_isSome_iff_eq_none.mp fun h => by simp [hcapture.mp h] at hrunning
  have hon : s.panels[p.val].config.enabled ≠ false := fun h => by simp [hoff.mpr h] at hrunning
  rw [State.startCapture_eq]
  refine .of_panel ?_ ?_ fun _ => ?_
  · rw [LinkState.offering_eq]
    exact ⟨rfl, rfl, rfl⟩
  · rw [Panel.staleFrame_owed, LinkState.offering_replies, Panel.owed_eq, Panel.owed_eq, hnone]
    simp [Panel.bufferedTag]
    omega
  · exact Panel.law_of_free rfl (iff_of_true rfl rfl) Panel.staleFrame_roles (Nat.zero_le 7) (iff_of_false nofun hon)

/-- RESET SESSIONS answers a capture and frees the tracks (10 R179, R180). -/
theorem State.resetPanel_keepsOwed (p : Fin 4) : (s.resetPanel p).KeepsOwed 0 s := by
  have hpanels : (s.resetPanel p).panels = s.panels.set p.val s.panels[p.val].sessionsReset := by
    ext1 i hi
    have hget := State.resetPanel_panels (s := s) p ⟨i, hi⟩
    by_cases hp : (⟨i, hi⟩ : Fin 4) = p
    · subst hp
      simpa using hget
    · rw [Vector.getElem_set_ne p.isLt hi fun e => hp (Fin.ext e.symm)]
      exact hget.trans (if_neg hp)
  have hreset : ({ s with
      link := s.link.replying (s.captureReply p).toList
      panels := s.panels.set p.val s.panels[p.val].sessionsReset } : State).KeepsOwed 0 s := by
    refine .of_panel ⟨rfl, rfl, rfl⟩ ?_ fun ⟨hcapture, _, _, _, hroles, _, hoff⟩ => ?_
    · have hframe : (s.panels[p.val].sessionsReset.processing.bind (·.frame.inject)) =
          s.panels[p.val].processing.bind (·.frame.inject) := by
        unfold Panel.sessionsReset
        simp only
        split
        · rfl
        · cases s.panels[p.val].processing <;> rfl
      rw [Panel.owed_eq, Panel.owed_eq, hframe, LinkState.replying, List.length_append, State.captureReply_length]
      simp [Panel.sessionsReset, Panel.bufferedTag]
      omega
    · have hstate : s.panels[p.val].sessionsReset.state =
          if s.panels[p.val].state = .capturing then .running else s.panels[p.val].state := rfl
      have hleft : s.panels[p.val].sessionsReset.state ≠ .capturing := by rw [hstate]; split <;> simp_all
      refine Panel.law_of_free rfl (iff_of_false nofun hleft) (fun g hg => ?_) (Nat.zero_le 7) ?_
      · by_cases hnone : s.panels[p.val].capture = none
        · have hprocessing : s.panels[p.val].processing = some g := by simpa [Panel.sessionsReset, hnone] using hg
          have hother : s.panels[p.val].state ≠ .capturing := fun h => by simp [hnone] at hcapture; exact hcapture h
          rw [hstate, if_neg hother]
          exact hroles g hprocessing
        · have hstale : s.panels[p.val].staleFrame.processing = some g := by
            simpa [Panel.sessionsReset, hnone, Panel.staleFrame] using hg
          exact Panel.staleFrame_roles g hstale
      · rw [hstate]
        split
        · next hcapturing =>
          have hon : ¬ s.panels[p.val].config.enabled = false := fun h => by simp [hoff.mpr h] at hcapturing
          exact iff_of_false nofun hon
        · exact hoff
  exact hreset.trans (.of_eq (State.resetPanel_link p) (by simp) (by simp) hpanels)

/-- One millisecond of a frame timer (10 R166). -/
theorem State.tickPanel_keepsOwed (p : Fin 4) : (s.tickPanel p).KeepsOwed 0 s := by
  unfold State.tickPanel
  simp only
  split
  · next htimed _ =>
    split
    · exact .onPanel rfl fun ⟨hcapture, hfree, hone, hdown, hroles, hdrift, hoff⟩ =>
        ⟨hcapture, hfree, hone, hdown, hroles, hdrift, hoff⟩
    · exact State.frameTimeout_keepsOwed (Panel.timed_on htimed)
  · exact .refl s

/-! ## Flags and tables (01 R12 to R17, 02 R36) -/

/-- The flags that a STATE_GET clears are no request's (02 R36). -/
theorem State.clearFlags_keepsOwed : s.clearFlags.KeepsOwed 0 s := by
  refine ⟨⟨rfl, rfl, rfl⟩, ?_, id, fun h i => ?_⟩
  · have howed : s.clearFlags.panels.toList.map Panel.owed = s.panels.toList.map Panel.owed := by
      simp only [State.clearFlags, Vector.toList_map, List.map_map]
      exact List.map_congr_left fun q _ => rfl
    rw [State.debts, howed]
    rfl
  · obtain ⟨hcapture, hfree, hone, hdown, hroles, hdrift, hoff⟩ := h i
    have hpanel : s.clearFlags.panels[i.val] = { s.panels[i.val] with badFrame := false, overContact := false } :=
      Vector.getElem_map ..
    rw [hpanel]
    exact ⟨hcapture, hfree, hone, hdown, hroles, hdrift, hoff⟩

/-- A baseline that is written cancels the drift adjustment of the frame in processing, and nothing of its request
(10 R178). -/
theorem State.setBaseline_keepsOwed (b : Panel → Vector Sample 960) :
    (s.onPanel p fun q => q.setBaseline (b q)).KeepsOwed 0 s := by
  refine .onPanel ?_ fun ⟨hcapture, hfree, hone, hdown, hroles, hdrift, hoff⟩ =>
    ⟨hcapture, hfree, hone, hdown, fun g hg => ?_, hdrift, hoff⟩
  · rw [Panel.owed_eq, Panel.owed_eq]
    unfold Panel.setBaseline Panel.bufferedTag
    cases s.panels[p.val].processing <;> rfl
  · obtain ⟨f, hf, rfl⟩ := Option.map_eq_some_iff.mp hg
    exact hroles f hf

/-- A curve that is written. -/
theorem State.setCurve_keepsOwed (curve : Panel → Vector Byte 256) :
    (s.onPanel p fun q => { q with curve := curve q }).KeepsOwed 0 s :=
  .onPanel rfl fun ⟨hcapture, hfree, hone, hdown, hroles, hdrift, hoff⟩ =>
    ⟨hcapture, hfree, hone, hdown, hroles, hdrift, hoff⟩

/-- Records written to a table (01 R14). -/
theorem State.writeTable_keepsOwed (x : TableId) (n : Nat) (rs : List (List Byte)) : (s.writeTable x n rs).KeepsOwed 0 s := by
  unfold State.writeTable
  cases x with
  | curve p => exact State.setCurve_keepsOwed _
  | baseline p =>
    simp only
    split
    · exact .refl s
    · exact State.setBaseline_keepsOwed _
  | _ => exact .of_eq rfl rfl rfl rfl

/-- A table that is cleared (01 R13). -/
theorem State.clearTable_keepsOwed (x : TableId) : (s.clearTable x).KeepsOwed 0 s := by
  unfold State.clearTable
  cases x with
  | curve p => exact State.setCurve_keepsOwed fun _ => identityCurve
  | baseline p => exact State.setBaseline_keepsOwed fun _ => .replicate 960 0
  | _ => exact .of_eq rfl rfl rfl rfl

/-- A LOAD_OPEN up to its reply (01 R12, R13). -/
theorem State.loadOpen_keepsOwed (payload : List Byte) : (s.loadOpen payload).1.KeepsOwed 0 s := by
  have hcursor (u : State) (x : TableId) (n : Nat) : (u.setCursor x n).KeepsOwed 0 u := .of_eq rfl rfl rfl rfl
  unfold State.loadOpen
  split
  · exact .refl s
  · split
    · exact .refl s
    · split
      · exact .refl s
      · split
        · split
          · exact (State.clearTable_keepsOwed _).trans (hcursor _ _ _)
          · exact hcursor _ _ _
        · exact hcursor _ _ _

/-- A LOAD_WRITE up to its reply (01 R14 to R17). -/
theorem State.loadWrite_keepsOwed (payload : List Byte) : (s.loadWrite payload).state.KeepsOwed 0 s := by
  have hcursor (u : State) (x : TableId) (n : Nat) : (u.setCursor x n).KeepsOwed 0 u := .of_eq rfl rfl rfl rfl
  unfold State.loadWrite
  split
  · exact .refl s
  · split
    · exact .refl s
    · simp only
      split
      · exact .refl s
      · split
        · exact hcursor _ _ _
        · exact (State.writeTable_keepsOwed _ _ _).trans (hcursor _ _ _)

end

end Sys2Proof.Machine
end

section
/-! PROOFS. Every slot is owed: mode control, the message link, and every step (02 R23 to R39, 11 R182 to R187). -/

namespace Sys2Proof.Machine

section
variable {s t : State} {k : Nat}

/-! ## Mode control (02 R23 to R39) -/

/-- An event of mode control, which no screen and no panel sees. -/
theorem State.KeepsOwed.of_control
    (hreception : t.link.inbound = s.link.inbound ∧ t.link.slotsUsed = s.link.slotsUsed ∧ t.link.sending = s.link.sending)
    (hcount : t.mod.commit.toList.length + t.mod.freezing.toList.length + t.link.replies.length =
      s.mod.commit.toList.length + s.mod.freezing.toList.length + s.link.replies.length + k)
    (hcheck : s.CheckInHand → t.CheckInHand) (hscreens : t.screens = s.screens) (hpanels : t.panels = s.panels) :
    t.KeepsOwed k s :=
  (State.KeepsOwed.of_mod (l := t.link) (m := t.mod) hreception hcount hcheck).trans (.of_eq rfl rfl hscreens hpanels)

/-- Sessions that end together leave their lists. -/
theorem State.endSessions_keepsOwed : ({ s with screens := s.screens.map Screen.endSession } : State).KeepsOwed 0 s := by
  refine .of_results ⟨rfl, rfl, rfl⟩ rfl rfl ?_
  have hhost : (s.screens.map Screen.endSession).toList.map Screen.hostEntries = s.screens.toList.map Screen.hostEntries := by
    rw [Vector.toList_map, List.map_map]
    exact List.map_congr_left fun c _ => rfl
  simp only [hhost]
  rfl

/-- A mode that is entered while no check is in hand. -/
theorem State.CheckInHand.leave (h : s.CheckInHand) (hmode : s.mod.mode ≠ .checking) (hcommit : t.mod.commit = s.mod.commit)
    (hleft : t.mod.mode ≠ .checking) : t.CheckInHand := by
  refine iff_of_false ?_ hleft
  rw [hcommit]
  exact fun hsome => hmode (h.mp hsome)

/-- A MODE_SET is answered, or waits for the running units (02 R23 to R25). -/
theorem State.modeSet_keepsOwed (hfreezing : s.mod.freezing = none) (tag : Byte) (n : Nat) : (s.modeSet tag n).KeepsOwed 1 s := by
  have hreply {u : State} (hu : u.KeepsOwed 0 s) (c : ResultCode) : (u.modeReply tag c).KeepsOwed 1 s :=
    hu.before (State.reply_keepsOwed ..)
  have hloading (hmode : s.mod.mode ≠ .checking) : s.enterLoading.KeepsOwed 0 s := by
    have hleft : ({ s with mod := { s.mod with mode := .loading, label := 0, findings := [], findingCount := 0 } } :
        State).KeepsOwed 0 s := .of_control ⟨rfl, rfl, rfl⟩ rfl (fun h => h.leave hmode rfl nofun) rfl rfl
    exact (hleft.trans State.abortWork_keepsOwed).trans (.of_eq rfl rfl rfl rfl)
  have hfrozen (hmode : s.mod.mode ≠ .checking) : (s.enterFrozen tag).KeepsOwed 1 s := by
    have hleft : ({ s with mod := { s.mod with mode := .frozen, freezing := some tag } } : State).KeepsOwed 1 s :=
      .of_control ⟨rfl, rfl, rfl⟩ (by simp [hfreezing]; omega) (fun h => h.leave hmode rfl nofun) rfl rfl
    exact hleft.trans State.answerFreezing_keepsOwed
  have hservice (hmode : s.mod.mode ≠ .checking) : s.returnToService.KeepsOwed 0 s := by
    have hleft : ({ s with
        mod := { s.mod with mode := .service }
        search := { s.search with units := s.search.units.map SearchUnit.unfreeze } } : State).KeepsOwed 0 s :=
      .of_control ⟨rfl, rfl, rfl⟩ rfl (fun h => h.leave hmode rfl nofun) rfl rfl
    exact hleft.trans (.of_eq (by simp) (by simp [State.returnToService]) (by simp) (by simp))
  unfold State.modeSet
  split
  case h_4 hmode | h_5 hmode => exact hreply (hloading (by simp [hmode])) _
  case h_7 hmode => exact hfrozen (by simp [hmode])
  case h_8 hmode => exact hreply (hservice (by simp [hmode])) _
  all_goals exact hreply (.refl s) _

/-- A MAP_COMMIT is a request whose reply waits for the end of the check (02 R27). -/
theorem State.mapCommit_keepsOwed (hcheck : s.CheckInHand) (hmode : s.mod.mode ≠ .checking) (c : Commit) :
    ({ s with mod := { s.mod with mode := .checking, findings := [], findingCount := 0, commit := some c } } :
      State).KeepsOwed 1 s := by
  have hnone : s.mod.commit = none := Option.not_isSome_iff_eq_none.mp fun h => hmode (hcheck.mp h)
  exact .of_control ⟨rfl, rfl, rfl⟩ (by simp [hnone]; omega) (fun _ => iff_of_true rfl rfl) rfl rfl

/-- The end of a map check answers the MAP_COMMIT (02 R33, R34). -/
theorem State.endCheck_keepsOwed : s.endCheck.KeepsOwed 0 s := by
  unfold State.endCheck
  split
  · next c _ hc =>
    split
    · refine (State.endSessions_keepsOwed (s := s)).trans (.of_control ⟨rfl, rfl, rfl⟩ ?_ (fun _ => iff_of_false nofun nofun)
        rfl rfl)
      simp [State.commitPasses, hc]
      omega
    · refine .of_control ⟨rfl, rfl, rfl⟩ ?_ (fun _ => iff_of_false nofun nofun) rfl rfl
      simp [State.commitFails, hc]
      omega
  · exact .refl s

/-- A map check that is abandoned answers the MAP_COMMIT (02 R35). -/
theorem State.abandonCheck_keepsOwed : s.abandonCheck.KeepsOwed 0 s := by
  unfold State.abandonCheck
  split
  · exact .refl s
  · next c hc =>
    refine .of_control ⟨rfl, rfl, rfl⟩ ?_ (fun _ => iff_of_false nofun nofun) rfl rfl
    simp [hc]
    omega

/-- RESET SESSIONS up to its reply (02 R39). -/
theorem State.resetSessions_keepsOwed : s.resetSessions.KeepsOwed 0 s := by
  have hscreen (u : State) (i : Fin 4) : (u.abortScreen i).KeepsOwed 0 u :=
    (State.markAll_keepsOwed fun e => (e.finish_keeps _).2.2.2).trans (State.release_keepsOwed i)
  exact (((State.abortWork_keepsOwed.trans (.foldl hscreen four _)).trans State.abandonCheck_keepsOwed).trans
    (.foldl (fun _ => State.resetPanel_keepsOwed) four _)).trans State.endSessions_keepsOwed

/-- A REPORT_MASK up to its reply (11 R189). -/
theorem State.unmask_keepsOwed (m : MaskKind) : (s.unmask m).KeepsOwed 0 s := by
  unfold State.unmask
  split
  · exact State.KeepsOwed.trans (.onLink ⟨rfl, rfl, rfl, rfl⟩) (State.queueReport_keepsOwed ..)
  · exact .refl s

/-- A millisecond answers what its expiries cancel (02 R37, 09 R149, 10 R166). -/
theorem State.tick_keepsOwed : s.tick.KeepsOwed 0 s := by
  have hscreen (u : State) (i : Fin 4) : (u.tickScreen i).KeepsOwed 0 u := by
    have hidle : (u.onScreen i fun c => { c with idle := c.idle.map (· + 1) }).KeepsOwed 0 u := .onSession rfl
    unfold State.tickScreen
    simp only
    split
    · exact hidle.trans (State.expire_keepsOwed i)
    · exact hidle
  have hgap : (s.onLink LinkState.tickGap).KeepsOwed 0 s := by
    refine .onLink ?_
    unfold LinkState.tickGap
    split
    · exact ⟨rfl, rfl, rfl, rfl⟩
    · split <;> exact ⟨rfl, rfl, rfl, rfl⟩
    · split <;> exact ⟨rfl, rfl, rfl, rfl⟩
  unfold State.tick
  split
  · exact .refl s
  · exact (hgap.trans (.foldl (fun _ => State.tickPanel_keepsOwed) four _)).trans (.foldl hscreen four _)

/-! ## The law through every command (11 R182 to R187) -/

/-- An event that keeps what is owed keeps the law. -/
theorem State.EverySlotOwed.keeps (h : s.EverySlotOwed) (hkeeps : t.KeepsOwed 0 s) : t.EverySlotOwed := by
  obtain ⟨hcheck, hpanels, hslots, hmax, hinbound⟩ := h
  obtain ⟨⟨kinbound, kslots, ksending⟩, kdebts, kcheck, kpanels⟩ := hkeeps
  rw [State.unanswered_eq] at hslots
  refine ⟨kcheck hcheck, kpanels hpanels, ?_, by omega, by rw [kinbound]; exact hinbound⟩
  rw [State.unanswered_eq, kslots, kinbound, kdebts, LinkState.sendingReply, ksending]
  exact hslots

/-- A request that leaves the inbound queue, and is answered or kept, keeps the law. -/
theorem State.EverySlotOwed.take {f : InFrame} {rest : List InFrame} (h : s.EverySlotOwed)
    (hinbound : s.link.inbound = f :: rest) (hkeeps : t.KeepsOwed 1 (s.taken rest)) : t.EverySlotOwed := by
  obtain ⟨hcheck, hpanels, hslots, hmax, hlength⟩ := h
  obtain ⟨⟨kinbound, kslots, ksending⟩, kdebts, kcheck, kpanels⟩ := hkeeps
  have hdebts : (s.taken rest).debts = s.debts := rfl
  have hcount : (s.taken rest).link.inbound = rest ∧ (s.taken rest).link.slotsUsed = s.link.slotsUsed
      ∧ (s.taken rest).link.sending = s.link.sending := ⟨rfl, rfl, rfl⟩
  obtain ⟨hrest, hused, hsending⟩ := hcount
  rw [hinbound, List.length_cons] at hlength
  rw [State.unanswered_eq, hinbound, List.length_cons, LinkState.sendingReply] at hslots
  refine ⟨kcheck hcheck, kpanels hpanels, ?_, by omega, by rw [kinbound, hrest]; omega⟩
  rw [State.unanswered_eq, kinbound, hrest, LinkState.sendingReply, ksending, hsending]
  omega

/-- A change of the link alone. -/
theorem State.EverySlotOwed.onLink {l : LinkState} (h : s.EverySlotOwed)
    (hslots : l.slotsUsed + (s.link.inbound.length + s.link.replies.length + s.link.sendingReply) =
      s.link.slotsUsed + (l.inbound.length + l.replies.length + l.sendingReply))
    (hmax : l.slotsUsed ≤ 24) (hinbound : l.inbound.length ≤ 8) : ({ s with link := l } : State).EverySlotOwed := by
  obtain ⟨hcheck, hpanels, hcount, -, -⟩ := h
  refine ⟨hcheck, hpanels, ?_, hmax, hinbound⟩
  rw [State.unanswered_eq, State.debts] at hcount ⊢
  simp only
  omega

/-- A reset leaves nothing owed (02 R37). -/
theorem State.everySlotOwed_of_reset {rate : BitVec 2} {reports : List OutItem}
    (hlink : s.link = { LinkState.reset rate with reports := reports })
    (hmod : s.mod.commit = none ∧ s.mod.freezing = none ∧ s.mod.mode = .loading)
    (hscreens : s.screens = .replicate 4 .reset) (hpanels : s.panels = .replicate 4 .reset) : s.EverySlotOwed := by
  obtain ⟨hcommit, hfreezing, hmode⟩ := hmod
  refine ⟨iff_of_false (by simp [hcommit]) (by simp [hmode]), fun p => ?_, ?_, ?_, ?_⟩
  · rw [hpanels, replicate_get]
    exact Panel.reset_law
  · rw [State.unanswered_eq, State.debts, hcommit, hfreezing, hscreens, hpanels, hlink]
    rfl
  · rw [hlink]
    exact Nat.zero_le 24
  · rw [hlink]
    exact Nat.zero_le 8

/-- A part right after a reset. -/
theorem State.started_everySlotOwed (rate : BitVec 2) (cause : Byte) (pending : List Instr) :
    ({ State.started rate cause with pending := pending } : State).EverySlotOwed :=
  State.everySlotOwed_of_reset (rate := rate) (reports := [startedReport cause]) rfl ⟨rfl, rfl, rfl⟩ rfl rfl

/-- A received byte: an accepted frame takes a slot and stands inbound (11 R182, R183). -/
theorem State.EverySlotOwed.receive (h : s.EverySlotOwed) (b : Byte) : (s.onLink fun l => l.receive b).EverySlotOwed := by
  obtain ⟨-, -, -, hmax, hinbound⟩ := id h
  obtain ⟨hunter, gap, heq | ⟨f, heq⟩⟩ := s.link.receive_cases b
  · rw [State.onLink, heq]
    exact h.onLink rfl hmax hinbound
  · obtain ⟨hroom, hfree, haccept⟩ | ⟨-, haccept⟩ :=
      LinkState.accept_cases { s.link with hunter := hunter, gap := gap } f <;> rw [State.onLink, heq, haccept]
    · exact h.onLink (by simp [LinkState.sendingReply]; omega) hfree (by simpa using hroom)
    · exact h.onLink rfl hmax hinbound

/-- Received bytes. -/
theorem State.EverySlotOwed.receiveAll (h : s.EverySlotOwed) (bytes : List Byte) :
    (s.onLink fun l => l.receiveAll bytes).EverySlotOwed := by
  induction bytes generalizing s with
  | nil => exact h
  | cons b bs ih => exact ih (h.receive b)

/-- The arbiter: a reply that it sends stays unanswered until it has been sent (11 R187). -/
theorem State.EverySlotOwed.arbitrate (h : s.EverySlotOwed) : (s.onLink LinkState.arbitrate).EverySlotOwed := by
  obtain ⟨-, -, -, hmax, hinbound⟩ := id h
  rw [State.onLink]
  obtain heq | ⟨hidle, a, as, hqueue, -, heq⟩ | ⟨hidle, a, as, hqueue, -, heq⟩ := s.link.arbitrate_cases <;> rw [heq]
  · exact h
  · rw [LinkState.send_replies]
    exact h.onLink (by simp [LinkState.sendingReply, hidle, hqueue]; omega) hmax hinbound
  · rw [LinkState.send_reports]
    exact h.onLink (by simp [LinkState.sendingReply, hidle]) hmax hinbound

/-- The end of a transmission: a reply that has been sent gives up its slot (11 R183). -/
theorem State.EverySlotOwed.sent {y : Sending} (h : s.EverySlotOwed) (hy : s.link.sending = some y) :
    (s.onLink fun l => l.sent y).EverySlotOwed := by
  obtain ⟨-, -, hslots, hmax, hinbound⟩ := id h
  rw [State.onLink, LinkState.sent]
  split
  · next hqueue =>
    have hone : s.link.sendingReply = 1 := by simp [LinkState.sendingReply, hy, hqueue]
    have hnone : ({ s.link with sending := none, slotsUsed := s.link.slotsUsed - 1 } : LinkState).sendingReply = 0 := rfl
    rw [State.unanswered_eq, hone] at hslots
    exact h.onLink (by rw [hnone, hone]; simp only; omega) (by simp only; omega) hinbound
  · next hqueue =>
    exact h.onLink (by simp [LinkState.sendingReply, hy, hqueue]) hmax hinbound

/-- What the pin gates keeps the law where its operation keeps what is owed. -/
theorem answers_keepsOwed (h : s.EverySlotOwed) {f : State → State} (hf : (f s).KeepsOwed 0 s) :
    Answers (whileRunning s f) State.EverySlotOwed :=
  answers_whileRunning h (h.keeps hf)

/-- A request keeps the law where its owner, on what the dispatcher lets pass, answers it or keeps it. -/
theorem request_keepsOwed (h : s.EverySlotOwed) {cls : Byte} {row : List Byte → Bool} {owner : Byte → List Byte → State → State}
    (howner : ∀ tag p u, u.CheckInHand → u.PanelLaw → u.mod.freezing = none → modeGate u.mod.mode cls = true →
      (owner tag p u).KeepsOwed 1 u) :
    Answers (whileRunning s fun s => s.dispatch cls row owner) State.EverySlotOwed := by
  refine answers_whileRunning h ?_
  obtain hd | ⟨tag, p, rest, -, hfreezing, hinbound, -, ⟨-, hd⟩ | ⟨-, -, hd⟩ | ⟨-, hgate, hd⟩⟩ :=
    s.dispatch_cases cls row owner <;> rw [hd]
  · exact h
  · exact h.take hinbound (State.reply_keepsOwed ..)
  · exact h.take hinbound (State.reply_keepsOwed ..)
  · obtain ⟨hcheck, hpanels, -⟩ := id h
    exact h.take hinbound (howner tag p _ hcheck hpanels hfreezing hgate)

/-- A request that answers a reply behind an event. -/
theorem request_reply_keepsOwed (h : s.EverySlotOwed) {cls : Byte} {row : List Byte → Bool}
    {owner : Byte → List Byte → State → State}
    (howner : ∀ tag p u, ∃ (v : State) (c : Byte) (payload : List Byte), owner tag p u = v.reply c tag payload
      ∧ v.KeepsOwed 0 u) :
    Answers (whileRunning s fun s => s.dispatch cls row owner) State.EverySlotOwed :=
  request_keepsOwed h fun tag p u _ _ _ _ => by
    obtain ⟨v, c, payload, heq, hkeeps⟩ := howner tag p u
    rw [heq]
    exact hkeeps.before (State.reply_keepsOwed ..)

end

end Sys2Proof.Machine
end

section
/-! PROOFS. Every slot is owed, in every state (11 R183, R185). -/

namespace Sys2Proof.Machine

section
variable {s : State}

/-- The requests of the touch panels (10 R164, R167, R175, R179). -/
theorem exec_panelRequest_everySlotOwed (h : s.EverySlotOwed) {c : Instr}
    (hc : c ∈ ([.hotspotsSet, .panelSet, .panelInject, .baselineCapture] : List Instr)) :
    Answers (exec c s) State.EverySlotOwed := by
  simp only [List.mem_cons, List.not_mem_nil, or_false] at hc
  obtain rfl | rfl | rfl | rfl := hc
  · refine request_keepsOwed h fun tag p u _ _ _ _ => ?_
    split
    · refine State.KeepsOwed.before ?_ (State.reply_keepsOwed ..)
      exact .onPanel rfl fun ⟨hcapture, hfree, hone, hdown, hroles, hdrift, hoff⟩ =>
        ⟨hcapture, hfree, hone, hdown, hroles, hdrift, hoff⟩
    · exact State.reply_keepsOwed ..
  · refine request_keepsOwed h fun tag p u _ hlaw _ _ => ?_
    split
    · exact State.reply_keepsOwed ..
    · split
      · exact State.reply_keepsOwed ..
      · split
        · exact State.reply_keepsOwed ..
        · next hcapturing =>
          exact (State.panelTransition_keepsOwed hcapturing _ _ hlaw).before (State.reply_keepsOwed ..)
  · refine request_keepsOwed h fun tag p u _ _ _ _ => ?_
    simp only
    split
    · exact State.reply_keepsOwed ..
    · split
      · exact State.reply_keepsOwed ..
      · split
        · exact State.reply_keepsOwed ..
        · exact State.bufferFrame_keepsOwed { samples := _, inject := some tag }
  · refine request_keepsOwed h fun tag p u _ hlaw _ _ => ?_
    split
    · exact State.reply_keepsOwed ..
    · split
      · exact State.reply_keepsOwed ..
      · exact State.reply_keepsOwed ..
      · exact State.reply_keepsOwed ..
      · exact State.reply_keepsOwed ..
      · next hrunning => exact State.startCapture_keepsOwed hlaw hrunning tag

/-- Every command keeps the law. -/
theorem exec_everySlotOwed (h : s.EverySlotOwed) (c : Instr) : Answers (exec c s) State.EverySlotOwed := by
  obtain ⟨-, hlaw, -, hmax, hinbound⟩ := id h
  cases c with
  | frameReceived cls tag payload check =>
    exact answers_whileRunning (f := fun s => s.onLink fun l => l.receiveAll (rawFrame cls tag payload check)) h
      (h.receiveAll _)
  | linkByteReceived b => exact answers_whileRunning (f := fun s => s.onLink fun l => l.receive b) h (h.receive b)
  | receiveGapTimeout =>
    exact answers_keepsOwed (f := fun s => s.onLink LinkState.gapTimeout) h (.onLink ⟨rfl, rfl, rfl, rfl⟩)
  | transmitStart => exact answers_whileRunning (f := fun s => s.onLink LinkState.arbitrate) h h.arbitrate
  | transmitComplete =>
    rw [exec, execTransmitComplete]
    refine answers_whileRunning h ?_
    split
    · exact h
    · next y hy =>
      split
      · exact State.started_everySlotOwed ..
      · exact h.sent hy
  | resetPinAssert =>
    exact ⟨_, rfl, State.everySlotOwed_of_reset (rate := s.link.rate) (reports := []) rfl ⟨rfl, rfl, rfl⟩ rfl rfl⟩
  | resetPinRelease straps =>
    refine ⟨_, rfl, ?_⟩
    split
    · exact State.started_everySlotOwed ..
    · exact h
  | sweepExamination => exact answers_keepsOwed (f := fun s => { s with rcc := s.rcc.examine }) h (.of_eq rfl rfl rfl rfl)
  | compositionEnd =>
    exact answers_keepsOwed (f := State.endComposition) h (.of_eq (by simp) (by simp) (by simp) (by simp))
  | routeFinalisation => exact answers_keepsOwed h State.finaliseNext_keepsOwed
  | directoryExamination => exact answers_keepsOwed h State.examineListing_keepsOwed
  | mapCheckEnd => exact answers_keepsOwed h State.endCheck_keepsOwed
  | settleStep u =>
    refine answers_keepsOwed h ?_
    split
    · exact (State.serve_keepsOwed.from_eq (by simp) (by simp) (by simp) (by simp)).trans State.answerFreezing_keepsOwed
    · exact .refl s
  | sessionExpiry i =>
    refine answers_keepsOwed h ?_
    split
    · exact State.expire_keepsOwed i
    · exact .refl s
  | frameTimerExpiry p =>
    refine answers_keepsOwed h ?_
    split
    · next htimed => exact State.frameTimeout_keepsOwed (Panel.timed_on htimed)
    · exact .refl s
  | panelFrameReceived p samples =>
    rw [exec, execPanelFrameReceived]
    refine answers_keepsOwed h ?_
    simp only
    split
    · exact .refl s
    · split
      · exact .onPanel rfl fun ⟨hcapture, hfree, hone, hdown, hroles, hdrift, hoff⟩ =>
          ⟨hcapture, hfree, hone, hdown, hroles, hdrift, hoff⟩
      · exact State.bufferFrame_keepsOwed { samples := frameOf samples, inject := none }
  | frameProcessingStart p => exact answers_keepsOwed (f := fun s => s.takeFrame p) h State.takeFrame_keepsOwed
  | frameProcessed p => exact answers_keepsOwed (f := fun s => s.finishFrame p) h (State.finishFrame_keepsOwed hlaw)
  | unknownClass =>
    rw [exec, execUnknownClass]
    refine answers_whileRunning h ?_
    split
    · exact h
    · next f t hd =>
      split
      · exact h
      · simp only [State.dispatchHead] at hd
        split at hd
        · cases hd
        · split at hd
          · cases hd
          · next hin =>
            cases hd
            exact h.take hin (State.queueReply_keepsOwed _)
  | stateGet => exact request_reply_keepsOwed h fun tag p u => ⟨_, _, _, rfl, State.clearFlags_keepsOwed⟩
  | loadOpen => exact request_reply_keepsOwed h fun tag p u => ⟨_, _, _, rfl, State.loadOpen_keepsOwed p⟩
  | loadWrite => exact request_reply_keepsOwed h fun tag p u => ⟨_, _, _, rfl, State.loadWrite_keepsOwed p⟩
  | loadRead | segmentSet | listingSet =>
    exact request_reply_keepsOwed h fun tag p u => ⟨_, _, _, rfl, .of_eq (by simp) (by simp) (by simp) (by simp)⟩
  | mapCommit =>
    refine request_keepsOwed h fun tag p u hcheck _ _ hgate => State.mapCommit_keepsOwed hcheck (fun hmode => ?_) _
    rw [hmode] at hgate
    cases hgate
  | modeSet => exact request_keepsOwed h fun tag p u _ _ hfreezing _ => State.modeSet_keepsOwed hfreezing tag _
  | reportMask =>
    refine request_keepsOwed h fun tag p u _ _ _ _ => ?_
    have hmask : (u.onLink fun l => { l with mask := BitVec.ofNat 6 (field p 0 1) }).KeepsOwed 0 u :=
      .onLink ⟨rfl, rfl, rfl, rfl⟩
    exact (hmask.trans (.foldl (fun _ => State.unmask_keepsOwed) MaskKind.all _)).before (State.reply_keepsOwed ..)
  | resetFull =>
    refine request_keepsOwed h fun tag p u _ _ _ _ => ?_
    split
    · have hasked : ({ u with mod := { u.mod with resetAsked := true } } : State).KeepsOwed 0 u :=
        .of_control ⟨rfl, rfl, rfl⟩ rfl id rfl rfl
      exact hasked.before (State.queueReply_keepsOwed _)
    · exact State.reply_keepsOwed ..
  | resetSessions =>
    refine request_keepsOwed h fun tag p u _ _ _ _ => ?_
    split
    · exact State.resetSessions_keepsOwed.before (State.reply_keepsOwed ..)
    · exact State.reply_keepsOwed ..
  | unitPeek =>
    refine request_keepsOwed h fun tag p u _ _ _ _ => ?_
    split
    · exact State.reply_keepsOwed ..
    · exact State.reply_keepsOwed ..
  | hotspotsSet | panelSet | panelInject | baselineCapture => exact exec_panelRequest_everySlotOwed h (by simp)
  | screenSet =>
    refine request_keepsOwed h fun tag p u _ _ _ _ => ?_
    split
    · exact State.reply_keepsOwed ..
    · split
      · exact State.reply_keepsOwed ..
      · exact (State.configureScreen_keepsOwed _ _).before (State.reply_keepsOwed ..)
  | routeAsk =>
    exact request_keepsOwed h fun tag p u _ _ _ _ => State.screenBound_keepsOwed fun _ _ => State.askRoute_keepsOwed tag p
  | directoryAsk =>
    exact request_keepsOwed h fun tag p u _ _ _ _ => State.screenBound_keepsOwed fun _ _ => State.askDirectory_keepsOwed tag p
  | fence =>
    refine request_keepsOwed h fun tag p u _ _ _ _ => State.screenBound_keepsOwed fun v i => ?_
    split
    · exact State.reply_keepsOwed ..
    · exact (State.join_keepsOwed tag _ _).trans (State.release_keepsOwed i)
  | cancel =>
    exact request_keepsOwed h fun tag p u _ _ _ _ => State.screenBound_keepsOwed fun v i =>
      ((State.cancelEntries_keepsOwed i false).trans State.serve_keepsOwed).before (State.reply_keepsOwed ..)

end

/-- Settles O60: every event passes a request on from where it is counted to where it is counted next (State.KeepsOwed), and
the link takes and gives up slots with the requests that it accepts and the replies that it has sent. -/
theorem everySlotOwedKept : Obligations.EverySlotOwedKept :=
  keptByEveryStep_of_exec (fun _ _ hu => hu) (fun c _ hu => exec_everySlotOwed hu c) fun _ hu => hu.keeps State.tick_keepsOwed

end Sys2Proof.Machine
end

section
/-! PROOFS. The strengths of a frame, its peaks in scan order, and their positions (10 R168 to R170). -/

namespace Sys2Proof.Machine

section
variable {m : Vector Nat 960} {low width height c r : Nat}

/-! ## Strengths (10 R168) -/

/-- The strength of a sample is the curve's value at its signal (10 R168). -/
theorem strengthOf_eq (curve : Vector Byte 256) (raw base : Sample) (k : Fin 256)
    (hk : k.val = (raw.toNat - base.toNat) / 16) : strengthOf curve raw base = curve[k.val].toNat := by
  have hindex : (Fin.ofNat 256 (signalOf raw base / 16)).val = k.val := by
    rw [signalOf, ← hk]
    exact Nat.mod_eq_of_lt k.isLt
  simp only [strengthOf, hindex]

/-- The strength at a cell of the grid is that of its sample (10 R167, R168). -/
theorem strengthAt_strengths (curve : Vector Byte 256) (samples base : Vector Sample 960) (k : Fin 960)
    (hk : k.val = 40 * r + c) :
    strengthAt (strengths curve samples base) c r = strengthOf curve samples[k.val] base[k.val] := by
  have hindex : Config.gridColumns * r + c = k.val := hk.symm
  rw [strengthAt, hindex, Array.getD_eq_getD_getElem?, Array.getElem?_eq_getElem (by simp)]
  simp [strengths]

/-! ## Windows (10 R169) -/

/-- The cells of a window. -/
theorem mem_window (x y : Nat) : (x, y) ∈ window c r ↔
    x < 40 ∧ y < 24 ∧ x ≤ c + 1 ∧ c ≤ x + 1 ∧ y ≤ r + 1 ∧ r ≤ y + 1 := by
  simp only [window, inGrid, Config.gridColumns, Config.gridRows, List.mem_map, List.mem_filter, List.mem_cons,
    List.not_mem_nil, or_false, Prod.exists, Prod.mk.injEq, Bool.and_eq_true, decide_eq_true_eq]
  constructor
  · rintro ⟨a, b, ⟨hmem, hone, hgrid⟩, rfl, rfl⟩
    omega
  · intro h
    refine ⟨x + 1, y + 1, ⟨?_, by omega, by simpa using ⟨h.1, h.2.1⟩⟩, rfl, rfl⟩
    omega

/-- A window holds each of its cells once. -/
theorem window_nodup (c r : Nat) : (window c r).Nodup := by
  refine List.Nodup.map_on (fun a ha b hb hab => ?_) (List.Nodup.filter _ ?_)
  · simp only [List.mem_filter, Bool.and_eq_true, decide_eq_true_eq] at ha hb
    obtain ⟨a1, a2⟩ := a
    obtain ⟨b1, b2⟩ := b
    simp only [Prod.mk.injEq] at hab ha hb ⊢
    omega
  · simp

/-! ## Peaks (10 R169) -/

/-- A cell of the grid stands before another in scan order where its place is lower. -/
theorem scanBefore_iff {x y : Nat} (hx : x < 40) (hc : c < 40) :
    scanBefore (x, y) (c, r) = true ↔ scanPlace (x, y) < scanPlace (c, r) := by
  simp only [scanBefore, scanPlace, Bool.or_eq_true, Bool.and_eq_true, decide_eq_true_eq, beq_iff_eq]
  omega

/-- The cells of the grid are those of the places in scan order. -/
theorem scanPlace_cell (i : Nat) : scanPlace (i % 40, i / 40) = i := Nat.div_add_mod i 40

/-- A peak reaches the low threshold, and no cell of its window is above it, or level with it and before it (10 R169). -/
theorem isPeak_iff (hc : c < 40) : isPeak m low c r = true ↔ low ≤ strengthAt m c r
    ∧ ∀ x y, x < 40 → y < 24 → x ≤ c + 1 → c ≤ x + 1 → y ≤ r + 1 → r ≤ y + 1 →
      strengthAt m x y ≤ strengthAt m c r
        ∧ (scanPlace (x, y) < scanPlace (c, r) → strengthAt m x y ≠ strengthAt m c r) := by
  rw [isPeak, Bool.and_eq_true, decide_eq_true_iff, List.all_eq_true]
  refine and_congr_right fun _ => ?_
  have hcell (x y : Nat) (hx : x < 40) : (decide (strengthAt m x y ≤ strengthAt m c r)
      && !(scanBefore (x, y) (c, r) && strengthAt m x y == strengthAt m c r)) = true ↔
      strengthAt m x y ≤ strengthAt m c r
        ∧ (scanPlace (x, y) < scanPlace (c, r) → strengthAt m x y ≠ strengthAt m c r) := by
    rw [Bool.and_eq_true, decide_eq_true_iff, Bool.not_eq_true', Bool.and_eq_false_imp, scanBefore_iff hx hc]
    simp
  constructor
  · intro h x y hx hy hxc hcx hyr hry
    exact (hcell x y hx).mp (h (x, y) ((mem_window x y).mpr ⟨hx, hy, hxc, hcx, hyr, hry⟩))
  · rintro h ⟨x, y⟩ hmem
    obtain ⟨hx, hy, hxc, hcx, hyr, hry⟩ := (mem_window x y).mp hmem
    exact (hcell x y hx).mpr (h x y hx hy hxc hcx hyr hry)

/-- The peaks of a frame stand in scan order (10 R169). -/
theorem peaksOf_pairwise (m : Vector Nat 960) (low width height : Nat) :
    (peaksOf m low width height).Pairwise fun a b => scanPlace a.cell < scanPlace b.cell := by
  refine List.Pairwise.filterMap (R := fun a b => scanPlace a < scanPlace b) _ (fun a b hab k hk l hl => ?_) ?_
  · split at hk
    · split at hl
      · cases hk
        cases hl
        exact hab
      · cases hl
    · cases hk
  · rw [List.pairwise_map]
    refine List.pairwise_lt_range.imp fun {a b} hab => ?_
    have hplace (i : Nat) : scanPlace (i % Config.gridColumns, i / Config.gridColumns) = i := scanPlace_cell i
    rwa [hplace, hplace]

/-- The peaks of a frame (10 R169). -/
theorem mem_peaksOf {k : Peak} : k ∈ peaksOf m low width height ↔ ∃ c r, c < 40 ∧ r < 24 ∧ isPeak m low c r = true
    ∧ k = { cell := (c, r), strength := strengthAt m c r, position := peakPosition m low width height c r } := by
  simp only [peaksOf, List.mem_filterMap, List.mem_map, List.mem_range, Config.cellCount, Config.gridColumns]
  constructor
  · rintro ⟨_, ⟨i, hi, rfl⟩, hk⟩
    split at hk
    · next hpeak => exact ⟨i % 40, i / 40, Nat.mod_lt _ (by decide), by omega, hpeak, (Option.some.inj hk).symm⟩
    · cases hk
  · rintro ⟨c, r, hc, hr, hpeak, rfl⟩
    refine ⟨(c, r), ⟨40 * r + c, by omega, ?_⟩, if_pos hpeak⟩
    rw [Prod.mk.injEq]
    omega

/-! ## Positions (10 R170) -/

/-- The position of a peak is the weighted mean of its window, in pixels (10 R170). -/
theorem peakPosition_eq {sum column row : Nat} {weight : Nat × Nat → Nat} (hc : c < 40) (hr : r < 24)
    (hlow : low ≤ strengthAt m c r)
    (hweight : ∀ n, weight n = if low ≤ strengthAt m n.1 n.2 then strengthAt m n.1 n.2 - low + 1 else 0)
    (hsum : sum = ((window c r).map weight).sum)
    (hcolumn : column = (2 * 16 * ((window c r).map fun n => weight n * n.1).sum + sum) / (2 * sum) + 8)
    (hrow : row = (2 * 16 * ((window c r).map fun n => weight n * n.2).sum + sum) / (2 * sum) + 8) :
    1 ≤ sum ∧ peakPosition m low width height c r =
      (min (column * width / 640) (width - 1), min (row * height / 384) (height - 1)) := by
  have hcell (n : Nat × Nat) : cellWeight low (strengthAt m n.1 n.2) = weight n := by rw [hweight, cellWeight]
  have hmem : (c, r) ∈ window c r := (mem_window c r).mpr (by omega)
  have hone : 1 ≤ weight (c, r) := by
    rw [hweight, if_pos hlow]
    exact Nat.le_add_left ..
  refine ⟨hsum ▸ hone.trans (List.single_le_sum (fun _ _ => Nat.zero_le _) _ (List.mem_map_of_mem hmem)), ?_⟩
  simp only [peakPosition, List.map_map, Function.comp_def, hcell, ← hsum, pixelOf, centroid, hcolumn, hrow, Nat.mul_assoc]

end

end Sys2Proof.Machine
end

section
/-! PROOFS. How the peaks of a frame go to the tracks (10 R172). -/

namespace Sys2Proof.Machine

/-! ## Lists -/

section
variable {α : Type}

/-- A member that stands at place `k` of a filtered list has `k` chosen members before it. -/
theorem countP_take_of_filter (P : α → Bool) {l : List α} (hnodup : l.Nodup) {k i : Nat} {a : α}
    (hfilter : (l.filter P)[k]? = some a) (hi : l[i]? = some a) : (l.take i).countP P = k := by
  induction l generalizing k i with
  | nil => cases hi
  | cons b l ih =>
    obtain ⟨hb, hnodup⟩ := List.nodup_cons.mp hnodup
    cases i with
    | zero =>
      obtain rfl : b = a := by simpa using hi
      rw [List.filter_cons] at hfilter
      split at hfilter
      · cases k with
        | zero => rfl
        | succ k => exact absurd (List.mem_of_mem_filter (List.mem_of_getElem? hfilter)) hb
      · exact absurd (List.mem_of_mem_filter (List.mem_of_getElem? hfilter)) hb
    | succ i =>
      have hi : l[i]? = some a := by simpa using hi
      have hne : b ≠ a := fun e => hb (e ▸ List.mem_of_getElem? hi)
      rw [List.take_succ_cons, List.countP_cons]
      rw [List.filter_cons] at hfilter
      split at hfilter
      · next hP =>
        cases k with
        | zero => exact absurd (by simpa using hfilter) hne
        | succ k => rw [ih hnodup (by simpa using hfilter) hi, if_pos hP]
      · next hP => rw [ih hnodup hfilter hi, if_neg hP, Nat.add_zero]

end

/-! ## The nearest peak -/

/-- The nearest peak within 3 cells, the first in scan order among equally near ones, or none (10 R172). -/
theorem nearest_spec (cell : Nat × Nat) {ps : List Peak} (hps : ps.Pairwise fun a b => scanPlace a.cell < scanPlace b.cell) :
    (nearest cell ps = none → ∀ k ∈ ps, 3 < cellsApart cell k.cell)
      ∧ ∀ k, nearest cell ps = some k → k ∈ ps ∧ cellsApart cell k.cell ≤ 3
        ∧ ∀ o ∈ ps, o ≠ k → cellsApart cell k.cell < cellsApart cell o.cell
          ∨ (cellsApart cell k.cell = cellsApart cell o.cell ∧ scanPlace k.cell < scanPlace o.cell) := by
  induction ps with
  | nil => exact ⟨nofun, nofun⟩
  | cons p ps ih =>
    obtain ⟨hfirst, hps⟩ := List.pairwise_cons.mp hps
    obtain ⟨hnone, hsome⟩ := ih hps
    have hdistance (a b : Nat × Nat) : chebyshev a b = cellsApart a b := rfl
    rw [nearest]
    simp only [hdistance]
    by_cases hnear : cellsApart cell p.cell ≤ 3
    · rw [if_pos hnear]
      cases hbest : nearest cell ps with
      | none =>
        refine ⟨nofun, ?_⟩
        rintro k ⟨⟩
        refine ⟨List.mem_cons_self, hnear, fun o ho hne => .inl ?_⟩
        have hfar := hnone hbest o ((List.mem_cons.mp ho).resolve_left hne)
        omega
      | some q =>
        obtain ⟨hq, hqnear, hqbest⟩ := hsome q hbest
        simp only
        by_cases hless : cellsApart cell p.cell ≤ cellsApart cell q.cell
        · rw [if_pos hless]
          refine ⟨nofun, ?_⟩
          rintro k ⟨⟩
          refine ⟨List.mem_cons_self, hnear, fun o ho hne => ?_⟩
          have ho := (List.mem_cons.mp ho).resolve_left hne
          have hbefore := hfirst o ho
          by_cases hoq : o = q
          · subst hoq
            omega
          · have hbetter := hqbest o ho hoq
            omega
        · rw [if_neg hless]
          refine ⟨nofun, ?_⟩
          rintro k ⟨⟩
          refine ⟨List.mem_cons_of_mem p hq, hqnear, fun o ho hne => ?_⟩
          obtain rfl | ho := List.mem_cons.mp ho
          · exact .inl (by omega)
          · exact hqbest o ho hne
    · rw [if_neg hnear]
      refine ⟨fun h => List.forall_mem_cons.mpr ⟨by omega, hnone h⟩, fun k hk => ?_⟩
      obtain ⟨hmem, hknear, hbest⟩ := hsome k hk
      refine ⟨List.mem_cons_of_mem p hmem, hknear, fun o ho hne => ?_⟩
      obtain rfl | ho := List.mem_cons.mp ho
      · exact .inl (by omega)
      · exact hbest o ho hne

/-! ## The claims of the tracks in use -/

/-- The peak that a claim gives its track. -/
def Claim.peak : Claim → Option Peak
  | .nothing => none
  | .matched k | .opened k => some k

/-- The claim of a track in use among these peaks (10 R172). -/
def claimOf (t : Track) (ps : List Peak) : Claim :=
  if t.state = .free then .nothing else match nearest t.cell ps with | none => .nothing | some k => .matched k

/-- The peaks that none of these claims has taken. -/
def peaksLeft (ps : List Peak) (cs : List Claim) : List Peak := ps.filter fun k => decide (k ∉ cs.filterMap Claim.peak)

/-- Peaks in scan order are told apart by their cells. -/
theorem peak_eq_of_cell {ps : List Peak} (hps : ps.Pairwise fun a b => scanPlace a.cell < scanPlace b.cell) {q k : Peak}
    (hq : q ∈ ps) (hk : k ∈ ps) (h : q.cell = k.cell) : q = k := by
  have hall : ps.Pairwise fun a b => a.cell = b.cell → a = b := hps.imp fun {a b} hless he => by
    rw [he] at hless
    exact absurd hless (Nat.lt_irrefl _)
  have hflip : ps.Pairwise (flip fun a b : Peak => a.cell = b.cell → a = b) := hall.imp fun {a b} hab he => (hab he.symm).symm
  exact List.Pairwise.forall_of_forall_of_flip (fun _ _ _ => rfl) hall hflip hq hk h

/-- A claim that takes a peak leaves the others. -/
theorem peaksLeft_cons_matched {ps : List Peak} (hps : ps.Pairwise fun a b => scanPlace a.cell < scanPlace b.cell) {k : Peak}
    (hk : k ∈ ps) (cs : List Claim) :
    peaksLeft ps (.matched k :: cs) = peaksLeft (ps.filter fun q => decide (q.cell ≠ k.cell)) cs := by
  rw [peaksLeft, peaksLeft, List.filter_filter]
  refine List.filter_congr fun q hq => ?_
  have hcells : q.cell ≠ k.cell ↔ q ≠ k := ⟨fun h e => h (congrArg Peak.cell e), fun h e => h (peak_eq_of_cell hps hq hk e)⟩
  have htaken : (Claim.matched k :: cs).filterMap Claim.peak = k :: cs.filterMap Claim.peak := rfl
  rw [htaken, Bool.eq_iff_iff, Bool.and_eq_true, decide_eq_true_iff, decide_eq_true_iff, decide_eq_true_iff, hcells,
    List.mem_cons, not_or, and_comm]

/-- Each track in use claims among the peaks that those before it have left (10 R172). -/
theorem claimPeaks_spec (ts : List Track) {ps : List Peak}
    (hps : ps.Pairwise fun a b => scanPlace a.cell < scanPlace b.cell) :
    (claimPeaks ts ps).1.length = ts.length
      ∧ (∀ n t, ts[n]? = some t → (claimPeaks ts ps).1[n]? = some (claimOf t (peaksLeft ps ((claimPeaks ts ps).1.take n))))
      ∧ (claimPeaks ts ps).2 = peaksLeft ps (claimPeaks ts ps).1 := by
  induction ts generalizing ps with
  | nil => exact ⟨rfl, nofun, by simp [claimPeaks, peaksLeft]⟩
  | cons t ts ih =>
    have hnothing (hclaim : claimOf t ps = .nothing)
        (heq : claimPeaks (t :: ts) ps = (.nothing :: (claimPeaks ts ps).1, (claimPeaks ts ps).2)) :
        (claimPeaks (t :: ts) ps).1.length = (t :: ts).length
          ∧ (∀ n x, (t :: ts)[n]? = some x → (claimPeaks (t :: ts) ps).1[n]? =
            some (claimOf x (peaksLeft ps ((claimPeaks (t :: ts) ps).1.take n))))
          ∧ (claimPeaks (t :: ts) ps).2 = peaksLeft ps (claimPeaks (t :: ts) ps).1 := by
      obtain ⟨hlength, hget, hleft⟩ := ih hps
      rw [heq]
      refine ⟨by simp [hlength], fun n x hx => ?_, hleft⟩
      cases n with
      | zero =>
        obtain rfl : t = x := by simpa using hx
        simp [peaksLeft, hclaim]
      | succ n => exact hget n x (by simpa using hx)
    by_cases hfree : t.state = .free
    · exact hnothing (by rw [claimOf, if_pos hfree]) (by rw [claimPeaks, if_pos hfree])
    · cases hnearest : nearest t.cell ps with
      | none =>
        refine hnothing (by rw [claimOf, if_neg hfree, hnearest]) ?_
        rw [claimPeaks, if_neg hfree, hnearest]
      | some k =>
        obtain ⟨hk, -⟩ := (nearest_spec t.cell hps).2 k hnearest
        obtain ⟨hlength, hget, hleft⟩ := ih (hps.filter fun q => decide (q.cell ≠ k.cell))
        have heq : claimPeaks (t :: ts) ps = (.matched k :: (claimPeaks ts (ps.filter fun q => decide (q.cell ≠ k.cell))).1,
            (claimPeaks ts (ps.filter fun q => decide (q.cell ≠ k.cell))).2) := by
          rw [claimPeaks, if_neg hfree, hnearest]
        rw [heq]
        refine ⟨congrArg (· + 1) hlength, fun n x hx => ?_, by rw [peaksLeft_cons_matched hps hk]; exact hleft⟩
        cases n with
        | zero =>
          obtain rfl : t = x := by simpa using hx
          simp [peaksLeft, claimOf, hfree, hnearest]
        | succ n =>
          rw [List.take_succ_cons, peaksLeft_cons_matched hps hk]
          exact hget n x (by simpa using hx)

/-! ## The tracks that are opened -/

/-- The FREE tracks take the peaks left in turn; the claims of the others stay (10 R172). -/
theorem openTracks_spec (ts : List Track) {cs : List Claim} {ps : List Peak} (hlength : cs.length = ts.length) :
    (openTracks ts cs ps).1.length = ts.length
      ∧ (∀ n t, ts[n]? = some t → (openTracks ts cs ps).1[n]? = if t.state = .free then
          (match ps[(ts.take n).countP fun t => decide (t.state = .free)]? with | some k => some (.opened k) | none => cs[n]?)
        else cs[n]?)
      ∧ (openTracks ts cs ps).2 = ps.drop (ts.countP fun t => decide (t.state = .free)) := by
  induction ts generalizing cs ps with
  | nil => exact ⟨hlength, nofun, by simp [openTracks]⟩
  | cons t ts ih =>
    cases cs with
    | nil => cases hlength
    | cons c cs =>
      have hlength : cs.length = ts.length := by simpa using hlength
      by_cases hfree : t.state = .free
      · cases ps with
        | nil =>
          rw [openTracks, if_pos hfree]
          refine ⟨by simp [hlength], fun n x _ => by simp, by simp⟩
        | cons k ps =>
          obtain ⟨hlen, hget, hleft⟩ := ih (ps := ps) hlength
          rw [openTracks, if_pos hfree]
          refine ⟨by simp [hlen], fun n x hx => ?_, by simp [hfree, hleft]⟩
          cases n with
          | zero =>
            obtain rfl : t = x := by simpa using hx
            simp [hfree]
          | succ n => simpa [hfree] using hget n x (by simpa using hx)
      · obtain ⟨hlen, hget, hleft⟩ := ih (ps := ps) hlength
        have heq : openTracks (t :: ts) (c :: cs) ps = (c :: (openTracks ts cs ps).1, (openTracks ts cs ps).2) := by
          simp only [openTracks, if_neg hfree]
        rw [heq]
        refine ⟨by simp [hlen], fun n x hx => ?_, by simp [hfree, hleft]⟩
        cases n with
        | zero =>
          obtain rfl : t = x := by simpa using hx
          simp [hfree]
        | succ n => simpa [hfree] using hget n x (by simpa using hx)

/-! ## The matching of a frame -/

/-- What five tracks are given, track by track. -/
theorem fiveTracks_getElem? {α : Type} (d : Fin 5 → α) (i : Fin 5) : (fiveTracks.map d)[i.val]? = some (d i) := by
  fin_cases i <;> rfl

/-- A list of five is given track by track. -/
theorem eq_map_fiveTracks {α : Type} {l : List α} (hl : l.length = 5) : ∃ d : Fin 5 → α, l = fiveTracks.map d :=
  match l, hl with
  | [a, b, c, d, e], _ => ⟨![a, b, c, d, e], rfl⟩

/-- What the lowest of five tracks are given. -/
theorem mem_take_fiveTracks {α : Type} (d : Fin 5 → α) (n : Nat) (x : α) :
    x ∈ (fiveTracks.map d).take n ↔ ∃ j : Fin 5, j.val < n ∧ d j = x := by
  rw [List.mem_iff_getElem?]
  constructor
  · rintro ⟨i, hi⟩
    rw [List.getElem?_take] at hi
    split at hi
    · next hless =>
      obtain ⟨hlength, -⟩ := List.getElem?_eq_some_iff.mp hi
      rw [fiveTracks_getElem? d ⟨i, hlength⟩] at hi
      exact ⟨⟨i, hlength⟩, hless, Option.some.inj hi⟩
    · cases hi
  · rintro ⟨j, hless, rfl⟩
    exact ⟨j.val, by rw [List.getElem?_take, if_pos hless, fiveTracks_getElem?]⟩

/-- The tracks of a panel one by one. -/
theorem tracks_eq_map (ts : Vector Track 5) : ts.toList = fiveTracks.map fun i => ts[i.val] := by
  obtain ⟨⟨l⟩, hl⟩ := ts
  match l, hl with
  | [a, b, c, d, e], _ => rfl

/-- A track that is FREE claims nothing. -/
theorem claimOf_free {t : Track} (h : t.state = .free) (ps : List Peak) : claimOf t ps = .nothing := if_pos h

/-- A track in use claims the nearest peak. -/
theorem claimOf_used {t : Track} (h : t.state ≠ .free) (ps : List Peak) :
    (claimOf t ps).peak = nearest t.cell ps ∧ ∀ k, claimOf t ps ≠ .opened k := by
  rw [claimOf, if_neg h]
  cases nearest t.cell ps with
  | none => exact ⟨rfl, nofun⟩
  | some k => exact ⟨rfl, nofun⟩

/-- The peaks that tracks in use leave for the tracks from the n-th on. -/
theorem peaksLeft_take (ps : List Peak) {ts : Vector Track 5} {d : Fin 5 → Claim}
    (hfree : ∀ i : Fin 5, ts[i.val].state = .free → d i = .nothing) (n : Nat) :
    peaksLeft ps ((fiveTracks.map d).take n) =
      ps.filter fun k => decide (∀ j : Fin 5, j.val < n → ts[j.val].state ≠ .free → (d j).peak ≠ some k) := by
  refine List.filter_congr fun k _ => decide_eq_decide.mpr ?_
  rw [List.mem_filterMap]
  constructor
  · exact fun h j hj _ hk => h ⟨d j, (mem_take_fiveTracks d n _).mpr ⟨j, hj, rfl⟩, hk⟩
  · rintro h ⟨x, hx, hk⟩
    obtain ⟨j, hj, rfl⟩ := (mem_take_fiveTracks d n x).mp hx
    refine h j hj (fun hstate => ?_) hk
    rw [hfree j hstate] at hk
    cases hk

/-- The claims of the tracks in use, track by track (10 R172). -/
theorem claimPeaks_tracks (ts : Vector Track 5) {ps : List Peak}
    (hps : ps.Pairwise fun a b => scanPlace a.cell < scanPlace b.cell) : ∃ d : Fin 5 → Claim,
      claimPeaks ts.toList ps = (fiveTracks.map d, unclaimed ps ts fun i => (d i).peak)
      ∧ ∀ i : Fin 5, d i = claimOf ts[i.val] (ps.filter fun k =>
          decide (∀ j : Fin 5, j < i → ts[j.val].state ≠ .free → (d j).peak ≠ some k)) := by
  obtain ⟨hlength, hget, hleft⟩ := claimPeaks_spec ts.toList hps
  obtain ⟨d, hd⟩ := eq_map_fiveTracks (hlength.trans (Vector.length_toList ..))
  rw [hd] at hget hleft
  have hclaim (i : Fin 5) : d i = claimOf ts[i.val] (peaksLeft ps ((fiveTracks.map d).take i.val)) := by
    have hi := hget i.val ts[i.val] (by rw [tracks_eq_map, fiveTracks_getElem?])
    rw [fiveTracks_getElem?] at hi
    exact Option.some.inj hi
  have hfree (i : Fin 5) (h : ts[i.val].state = .free) : d i = .nothing := by rw [hclaim, claimOf_free h]
  refine ⟨d, Prod.ext hd (hleft.trans ?_), fun i => (hclaim i).trans (by rw [peaksLeft_take ps hfree i.val]; rfl)⟩
  have hall : fiveTracks.map d = (fiveTracks.map d).take 5 := rfl
  rw [hall, peaksLeft_take ps hfree 5, unclaimed]
  exact List.filter_congr fun k _ => decide_eq_decide.mpr ⟨fun h j => h j j.isLt, fun h j _ => h j⟩

/-- The FREE tracks of a panel, counted. -/
theorem countP_free (ts : Vector Track 5) :
    (ts.toList.countP fun t => decide (t.state = .free)) = (freeNumbers ts).length := by
  rw [tracks_eq_map, List.countP_map, freeNumbers, ← List.countP_eq_length_filter]
  rfl

/-- The FREE track that stands n-th among the FREE ones has n of them below it. -/
theorem countP_take_free {ts : Vector Track 5} {n : Nat} {i : Fin 5} (h : (freeNumbers ts)[n]? = some i) :
    ((ts.toList.take i.val).countP fun t => decide (t.state = .free)) = n := by
  have hcount := countP_take_of_filter (fun i : Fin 5 => decide (ts[i.val].state = .free)) (List.nodup_finRange 5)
    (k := n) (i := i.val) (a := i) h (by simp)
  rw [tracks_eq_map, ← List.map_take, List.countP_map]
  exact hcount

/-- The claims of a frame, one for each track, and whether a peak found no FREE track (10 R172). -/
theorem matchPeaks_spec {ps : List Peak} (hps : ps.Pairwise fun a b => scanPlace a.cell < scanPlace b.cell)
    (ts : Vector Track 5) : ∃ c : Fin 5 → Claim,
      matchPeaks ts.toList ps = (fiveTracks.map c, decide ((freeNumbers ts).length
        < (unclaimed ps ts fun i => (c i).peak).length))
      ∧ Matching ps ts (fun i => (c i).peak)
      ∧ ∀ (i : Fin 5) f lead, ts[i.val].advanced f lead (c i) = ts[i.val].brought f lead (c i).peak := by
  obtain ⟨d, hclaims, hd⟩ := claimPeaks_tracks ts hps
  generalize hleft : (unclaimed ps ts fun i => (d i).peak) = left at hclaims
  obtain ⟨hlength, hget, hrest⟩ := openTracks_spec ts.toList (cs := fiveTracks.map d) (ps := left)
    (Vector.length_toList ..).symm
  obtain ⟨c, hc⟩ := eq_map_fiveTracks (hlength.trans (Vector.length_toList ..))
  have hopened (i : Fin 5) : c i = if ts[i.val].state = .free then
      (match left[(ts.toList.take i.val).countP fun t => decide (t.state = .free)]? with
        | some k => .opened k | none => d i) else d i := by
    have hi := hget i.val ts[i.val] (by rw [tracks_eq_map, fiveTracks_getElem?])
    rw [hc, fiveTracks_getElem?, fiveTracks_getElem?] at hi
    refine Option.some.inj (hi.trans ?_)
    split
    · split <;> rfl
    · rfl
  have hused (i : Fin 5) (h : ts[i.val].state ≠ .free) : c i = d i := by rw [hopened, if_neg h]
  have hfree (i : Fin 5) (h : ts[i.val].state = .free) :
      (c i).peak = left[(ts.toList.take i.val).countP fun t => decide (t.state = .free)]? ∧ ∀ k, c i ≠ .matched k := by
    rw [hopened, if_pos h, hd, claimOf_free h]
    split
    · next k hk => exact ⟨hk.symm, nofun⟩
    · next hk => exact ⟨hk.symm, nofun⟩
  have hsame (P : Fin 5 → Prop) (k : Peak) : (∀ j : Fin 5, P j → ts[j.val].state ≠ .free → (c j).peak ≠ some k) ↔
      ∀ j : Fin 5, P j → ts[j.val].state ≠ .free → (d j).peak ≠ some k :=
    forall_congr' fun j => imp_congr_right fun _ => forall_congr' fun hj => by rw [hused j hj]
  have hunclaimed : (unclaimed ps ts fun i => (c i).peak) = left := by
    rw [← hleft, unclaimed, unclaimed]
    exact List.filter_congr fun k _ => decide_eq_decide.mpr (by simpa using hsame (fun _ => True) k)
  refine ⟨c, ?_, ⟨fun i hi rest hrest => ?_, fun n i hn => ?_⟩, fun i f lead => ?_⟩
  · rw [matchPeaks, hclaims, hunclaimed, ← countP_free]
    refine Prod.ext hc ?_
    rw [hrest, Bool.eq_iff_iff]
    simp
  · have hbefore : rest = ps.filter fun k => decide (∀ j : Fin 5, j < i → ts[j.val].state ≠ .free → (d j).peak ≠ some k) :=
      hrest.trans (List.filter_congr fun k _ => decide_eq_decide.mpr (hsame (· < i) k))
    have hnearest : (c i).peak = nearest ts[i.val].cell rest := by
      rw [hused i hi, hd, (claimOf_used hi _).1, hbefore]
    have hpairs : rest.Pairwise fun a b => scanPlace a.cell < scanPlace b.cell := by
      rw [hbefore]
      exact hps.filter _
    simp only [hnearest]
    exact nearest_spec _ hpairs
  · have hstate : ts[i.val].state = .free := by
      have hmem := List.mem_of_getElem? hn
      simpa [freeNumbers] using hmem
    simp only [(hfree i hstate).1, countP_take_free hn, hunclaimed]
  · by_cases hi : ts[i.val].state = .free
    · obtain ⟨-, hnot⟩ := hfree i hi
      cases hci : c i with
      | nothing => rfl
      | matched k => exact absurd hci (hnot k)
      | opened k => exact ((Track.brought_free hi).2 k).symm
    · have hnot : ∀ k, c i ≠ .opened k := by
        rw [hused i hi, hd]
        exact (claimOf_used hi _).2
      cases hci : c i with
      | nothing => rfl
      | matched k => exact if_neg hi
      | opened k => exact absurd hci (hnot k)

end Sys2Proof.Machine
end

section
/-! PROOFS. The detection of a frame without a selection: all tracks brought forward together (10 R172 to R178). -/

namespace Sys2Proof.Machine

section
variable {s : State} {p : Fin 4} {i : Fin 5} {f : Processing}

/-! ## Tracks brought forward one after another -/

/-- A session that is touched twice is touched. -/
theorem Screen.touch_touch (c : Screen) : c.touch.touch = c.touch := by
  unfold Screen.touch
  split
  · simp
  · rfl

/-- A session that is touched, if so, changes its screen alone. -/
theorem State.touchedIf_eq (b : Bool) : s.touchedIf b p = { s with
    screens := s.screens.set p.val (if b then s.screens[p.val].touch else s.screens[p.val]) } := by
  unfold State.touchedIf
  cases b with
  | true => rfl
  | false => simp

/-- The state with tracks brought forward: each makes its report in turn, and the session is touched where one of these
says DOWN (10 R173, R174). -/
def State.broughtAll (s : State) (p : Fin 4) (xs : Fin 5 → Track × Option (Byte × (Nat × Nat))) (is : List (Fin 5)) : State :=
  ({ s with
    link := s.link.offering .contact (is.flatMap fun i => contactItems p i (xs i).2)
    panels := s.panels.set p.val { s.panels[p.val] with
      tracks := .ofFn fun j => if j ∈ is then (xs j).1 else s.panels[p.val].tracks[j.val] } } : State).touchedIf
        (is.any fun i => saysDown (xs i).2) p

/-- No track is brought forward. -/
theorem State.broughtAll_nil (xs : Fin 5 → Track × Option (Byte × (Nat × Nat))) : s.broughtAll p xs [] = s := by
  have htracks : Vector.ofFn (fun j : Fin 5 => if j ∈ ([] : List (Fin 5)) then (xs j).1 else s.panels[p.val].tracks[j.val]) =
      s.panels[p.val].tracks := by
    ext j hj
    simp
  have hsame : ({ s with panels := s.panels.set p.val s.panels[p.val] } : State) = s := by rw [Vector.set_getElem_self]
  rw [State.broughtAll, htracks, List.flatMap_nil, LinkState.offering_nil, List.any_nil]
  exact hsame

/-- A track is brought forward, and then the others. -/
theorem State.broughtAll_cons (xs : Fin 5 → Track × Option (Byte × (Nat × Nat))) {is : List (Fin 5)} (hi : i ∉ is) :
    (s.bringing p i (xs i)).broughtAll p xs is = s.broughtAll p xs (i :: is) := by
  have htracks : Vector.ofFn (fun j : Fin 5 => if j ∈ is then (xs j).1 else
      (s.panels[p.val].withTrack i (xs i).1).tracks[j.val]) =
      .ofFn fun j : Fin 5 => if j ∈ i :: is then (xs j).1 else s.panels[p.val].tracks[j.val] := by
    ext1 j hj
    rw [Vector.getElem_ofFn, Vector.getElem_ofFn, Panel.withTrack_get]
    by_cases hji : (⟨j, hj⟩ : Fin 5) = i
    · simp [hji, hi]
    · simp [hji]
  simp only [State.broughtAll, State.bringing, State.touchedIf_eq, LinkState.offering_append, Vector.getElem_set_self,
    Vector.set_set, List.flatMap_cons, List.any_cons, htracks]
  simp only [Panel.withTrack]
  cases saysDown (xs i).2 <;> cases is.any fun i => saysDown (xs i).2 <;> simp [Screen.touch_touch]

/-- The track of a panel after another has been brought forward. -/
theorem State.bringing_track (x : Track × Option (Byte × (Nat × Nat))) (j : Fin 5) :
    (s.bringing p i x).track p j = if j = i then x.1 else s.track p j := by
  rw [State.track, State.bringing_panels, Vector.getElem_set_self, Panel.withTrack_get]
  rfl

/-- Tracks brought forward one after another, each by its claim and with the lead that those before it leave (10 R173). -/
theorem State.foldl_advanceTrack {c : Fin 5 → Claim} {xs : Fin 5 → Track × Option (Byte × (Nat × Nat))} {is : List (Fin 5)}
    (hnodup : is.Nodup)
    (hxs : ∀ is₁ i is₂, is = is₁ ++ i :: is₂ → xs i = (s.track p i).advanced f
      (decide (∀ j : Fin 5, j ≠ i → (if j ∈ is₁ then (xs j).1 else s.track p j).primary = false)) (c i))
    (hprimary : ∀ i ∈ is, (s.track p i).primary = true → (s.track p i).state = .down)
    (hselects : ∀ i ∈ is, c i = .nothing → (s.track p i).state = .down → (s.track p i).missing ≠ 0 →
      selected f (s.track p i) = none) :
    is.foldl (fun s i => s.advanceTrack p f i (c i)) s = s.broughtAll p xs is := by
  induction is generalizing s with
  | nil => exact (State.broughtAll_nil xs).symm
  | cons i is ih =>
    obtain ⟨hi, hnodup⟩ := List.nodup_cons.mp hnodup
    obtain ⟨hfirst, hprimary⟩ := List.forall_mem_cons.mp hprimary
    obtain ⟨hselect, hselects⟩ := List.forall_mem_cons.mp hselects
    have hlead : s.panels[p.val].leads i = decide (∀ j : Fin 5, j ≠ i →
        (if j ∈ ([] : List (Fin 5)) then (xs j).1 else s.track p j).primary = false) := by
      simp [Panel.leads, State.track]
    have hstep : s.advanceTrack p f i (c i) = s.bringing p i (xs i) := by
      rw [State.advanceTrack_eq (c i) hfirst hselect, hlead, hxs [] i is rfl]
    have hother (j : Fin 5) (hj : j ∈ is) : (s.bringing p i (xs i)).track p j = s.track p j := by
      rw [State.bringing_track, if_neg fun e : j = i => hi (e ▸ hj)]
    rw [List.foldl_cons, hstep, ih hnodup ?_ (fun j hj => by rw [hother j hj]; exact hprimary j hj)
      (fun j hj => by rw [hother j hj]; exact hselects j hj), State.broughtAll_cons xs hi]
    intro is₁ j is₂ his
    have hj : j ∈ is := by rw [his]; simp
    rw [hother j hj, hxs (i :: is₁) j is₂ (by rw [his]; rfl)]
    congr 1
    refine decide_eq_decide.mpr (forall_congr' fun k => imp_congr_right fun _ => ?_)
    rw [State.bringing_track]
    by_cases hki : k = i
    · simp [hki]
    · simp [hki]

end

end Sys2Proof.Machine
end

section
/-! PROOFS. The end of a frame's processing (10 R167 to R179). -/

namespace Sys2Proof.Machine

section
variable {s : State} {p : Fin 4} {f : Processing} {q : Panel}

/-! ## The reports and the leads of a frame -/

/-- Five tracks stand in index order. -/
theorem fiveTracks_split {is₁ is₂ : List (Fin 5)} {i : Fin 5} (h : fiveTracks = is₁ ++ i :: is₂) (j : Fin 5) :
    j ∈ is₁ ↔ j < i := by
  have hsorted : fiveTracks.Pairwise (· < ·) := by decide
  have hj : j ∈ fiveTracks := by fin_cases j <;> decide
  rw [h, List.pairwise_append, List.pairwise_cons] at hsorted
  obtain ⟨-, ⟨hafter, -⟩, hbefore⟩ := hsorted
  rw [h, List.mem_append, List.mem_cons] at hj
  refine ⟨fun hmem => hbefore j hmem i List.mem_cons_self, fun hless => ?_⟩
  obtain hmem | rfl | hmem := hj
  · exact hmem
  · exact absurd hless (Fin.lt_irrefl j)
  · exact absurd hless (Fin.lt_asymm (hafter j hmem))

/-- A tested track says DOWN where it becomes DOWN. -/
theorem Track.tested_saysDown {t : Track} {lead : Bool} (ht : t.state ≠ .down) :
    saysDown (t.tested f lead).2 = true ↔ (t.tested f lead).1.state = .down := by
  unfold Track.tested
  split
  · exact iff_of_true rfl rfl
  · split
    · exact iff_of_false nofun nofun
    · exact iff_of_false nofun ht

/-- A track says DOWN where it was not DOWN and becomes so (10 R174). -/
theorem Track.brought_saysDown {t : Track} {lead : Bool} (k : Option Peak) : saysDown (t.brought f lead k).2 = true ↔
    (t.brought f lead k).1.state = .down ∧ t.state ≠ .down := by
  cases hstate : t.state with
  | free =>
    cases k with
    | none =>
      rw [(Track.brought_free hstate).1]
      exact iff_of_false nofun fun h => by simp [hstate] at h
    | some k =>
      rw [(Track.brought_free hstate).2, Track.tested_saysDown (by exact nofun)]
      simp
  | pending =>
    cases k with
    | none =>
      rw [(Track.brought_pending hstate).1]
      exact iff_of_false nofun fun h => nomatch h.1
    | some k =>
      have hpending : (t.countMatch f k).state ≠ .down := fun h => by
        have : t.state = .down := h
        simp [hstate] at this
      rw [(Track.brought_pending hstate).2, Track.tested_saysDown hpending]
      simp
  | suppressed =>
    cases k with
    | none =>
      rw [(Track.brought_suppressed hstate).1]
      exact iff_of_false nofun fun h => nomatch h.1
    | some k =>
      rw [(Track.brought_suppressed hstate).2]
      refine iff_of_false nofun fun h => ?_
      have : t.state = .down := h.1
      simp [hstate] at this
  | down =>
    refine iff_of_false ?_ fun h => h.2 rfl
    cases k with
    | none =>
      rw [(Track.brought_down hstate).1]
      split <;> exact nofun
    | some k =>
      rw [(Track.brought_down hstate).2]
      split <;> exact nofun

/-- The drift count after a frame that does not adjust the baseline (10 R178). -/
theorem Panel.drifted_count (h : f.driftCancelled = true ∨ (∃ i : Fin 5, q.tracks[i.val].state ≠ .free) ∨ q.drift < 7) :
    q.drifted f = { q with
      drift := if f.driftCancelled = true ∨ ∃ i : Fin 5, q.tracks[i.val].state ≠ .free then 0 else q.drift + 1 } := by
  have hall : (q.tracks.toList.all fun t => decide (t.state = .free)) = true ↔
      ¬ ∃ i : Fin 5, q.tracks[i.val].state ≠ .free := by
    rw [tracks_eq_map, List.all_map, List.all_eq_true]
    have hmem (i : Fin 5) : i ∈ fiveTracks := by fin_cases i <;> decide
    simp [hmem]
  unfold Panel.drifted
  by_cases hcancelled : f.driftCancelled = true
  · simp [hcancelled]
  · by_cases hused : ∃ i : Fin 5, q.tracks[i.val].state ≠ .free
    · rw [if_neg hcancelled, if_neg (fun hfree => hall.mp hfree hused), if_pos (.inr hused)]
    · have hless : q.drift < 7 := (h.resolve_left hcancelled).resolve_left hused
      rw [if_neg hcancelled, if_pos (hall.mpr hused), if_pos (by omega), if_neg (not_or.mpr ⟨hcancelled, hused⟩)]

/-! ## A detection without a selection (10 R172 to R178) -/

/-- FRAME_PROCESSED is the end of a frame (10 R172). -/
theorem exec_frameProcessed (h : s.resetLow = false) : exec (.frameProcessed p) s = .next (s.finishFrame p) := by
  change execFrameProcessed p s = _
  rw [execFrameProcessed, whileRunning_high h]

/-- The reports of the tracks of a frame, in index order. -/
def frameReports (p : Fin 4) (xs : Fin 5 → Track × Option (Byte × (Nat × Nat))) : List OutItem :=
  (List.finRange 5).filterMap fun i => (xs i).2.map fun x => contactItem p i x.1 0 x.2

/-- All five tracks brought forward. -/
theorem State.broughtAll_five {xs : Fin 5 → Track × Option (Byte × (Nat × Nat))} {v : Vector Track 5}
    (hv : ∀ i : Fin 5, v[i.val] = (xs i).1) : s.broughtAll p xs fiveTracks = { s with
      link := s.link.offering .contact (frameReports p xs)
      panels := s.panels.set p.val { s.panels[p.val] with tracks := v }
      screens := s.screens.set p.val
        (if fiveTracks.any fun i => saysDown (xs i).2 then s.screens[p.val].touch else s.screens[p.val]) } := by
  have htracks : Vector.ofFn (fun j : Fin 5 => if j ∈ fiveTracks then (xs j).1 else s.panels[p.val].tracks[j.val]) = v := by
    ext1 j hj
    have hmem : (⟨j, hj⟩ : Fin 5) ∈ fiveTracks := (mem_take_fiveTracks id 5 _).mpr ⟨⟨j, hj⟩, hj, rfl⟩
    rw [Vector.getElem_ofFn, if_pos hmem]
    exact (hv ⟨j, hj⟩).symm
  have hitems : (fiveTracks.flatMap fun i => contactItems p i (xs i).2) = frameReports p xs := by
    rw [frameReports, List.filterMap_eq_flatMap_toList]
    rfl
  rw [State.broughtAll, htracks, hitems, State.touchedIf_eq]

/-- The detection of a frame whose tracks are brought forward without a selection (10 R172 to R178). -/
theorem State.detect_brought {c : Fin 5 → Claim} {beyond : Bool} {v : Vector Track 5}
    {xs : Fin 5 → Track × Option (Byte × (Nat × Nat))}
    (hmatch : matchPeaks s.panels[p.val].tracks.toList (peaksOf (strengths f.curve f.frame.samples f.baseline)
      f.config.low.toNat f.width f.height) = (fiveTracks.map c, beyond))
    (hxs : ∀ i : Fin 5, xs i = (s.track p i).advanced f (takesLead s.panels[p.val].tracks v i) (c i))
    (hv : ∀ i : Fin 5, v[i.val] = (xs i).1)
    (hprimary : ∀ i : Fin 5, (s.track p i).primary = true → (s.track p i).state = .down)
    (hselects : ∀ i : Fin 5, c i = .nothing → (s.track p i).state = .down → (s.track p i).missing ≠ 0 →
      selected f (s.track p i) = none) :
    s.detect p f = { s with
      link := s.link.offering .contact (frameReports p xs)
      panels := s.panels.set p.val (({ s.panels[p.val] with
        overContact := s.panels[p.val].overContact || beyond, tracks := v } : Panel).drifted f)
      screens := s.screens.set p.val
        (if fiveTracks.any fun i => saysDown (xs i).2 then s.screens[p.val].touch else s.screens[p.val]) } := by
  have htrack (i : Fin 5) :
      (s.onPanel p fun q => { q with overContact := q.overContact || beyond }).track p i = s.track p i := by
    simp [State.track]
  have hfold : (s.onPanel p fun q => { q with overContact := q.overContact || beyond }).advanceTracks p f
      (fiveTracks.map c) = (s.onPanel p fun q => { q with overContact := q.overContact || beyond }).broughtAll p xs
        fiveTracks := by
    have hzip : fiveTracks.zip (fiveTracks.map c) = fiveTracks.map fun i => (i, c i) := rfl
    rw [State.advanceTracks, hzip, List.foldl_map]
    refine State.foldl_advanceTrack (by decide) (fun is₁ i is₂ his => ?_) (fun i _ => by rw [htrack]; exact hprimary i)
      fun i _ => by rw [htrack]; exact hselects i
    rw [hxs, htrack]
    congr 1
    rw [takesLead]
    refine decide_eq_decide.mpr (forall_congr' fun j => ?_)
    simp only [fiveTracks_split his, ← hv, State.track]
    obtain hless | rfl | hless := lt_trichotomy j i
    · simp [hless, hless.ne, hless.not_gt]
    · simp
    · simp [hless, hless.ne', hless.not_gt]
  rw [State.detect_eq hmatch, hfold, State.broughtAll_five hv]
  simp [State.onPanel]

end

end Sys2Proof.Machine
end

section
/-! PROOFS. The end of a frame by its role: a frame without a touch, a frame whose tracks are brought forward, and a frame of
a capture (10 R167 to R179). -/

namespace Sys2Proof.Machine

section
variable {s : State} {p : Fin 4} {f : Processing} {q : Panel}

/-! ## The end of a frame (10 R167) -/

/-- A frame ends by what its role makes of the state; then it is answered, where it was injected (10 R167). -/
theorem exec_frameProcessed_of_processed {u : State} (hhigh : s.resetLow = false)
    (hf : s.panels[p.val].processing = some f) (hu : s.processed p f = u) : exec (.frameProcessed p) s = .next { u with
      link := u.link.replying (f.frame.answer p 0)
      panels := u.panels.set p.val u.panels[p.val].idled } := by
  rw [exec_frameProcessed hhigh, State.finishFrame_eq hf, hu]
  rfl

/-- A frame that was not injected is not answered. -/
theorem PanelFrame.answer_sensor {g : PanelFrame} (h : g.inject = none) (r : Byte) : g.answer p r = [] := by
  rw [PanelFrame.answer, h]
  rfl

/-! ## A frame without a touch (10 R178) -/

/-- Five FREE tracks. -/
theorem tracks_all_free {ts : Vector Track 5} (h : ∀ k : Fin 5, ts[k.val] = Track.free) : ts = .replicate 5 .free := by
  ext1 i hi
  rw [Vector.getElem_replicate]
  exact h ⟨i, hi⟩

/-- A frame without a peak, whose panel has FREE tracks alone, changes what drift counts alone (10 R172, R178). -/
theorem State.detect_untouched (hfree : ∀ k : Fin 5, s.panels[p.val].tracks[k.val] = Track.free)
    (hlow : ∀ k : Fin 960, strengthOf f.curve f.frame.samples[k.val] f.baseline[k.val] < f.config.low.toNat) :
    s.detect p f = s.onPanel p fun q => q.drifted f := by
  have hmatch : matchPeaks s.panels[p.val].tracks.toList
      (peaksOf (strengths f.curve f.frame.samples f.baseline) f.config.low.toNat f.width f.height)
      = (List.replicate 5 .nothing, false) := by
    rw [peaksOf_eq_nil (strengthAt_lt hlow), matchPeaks_nil, Vector.length_toList]
  have hself : (s.onPanel p fun q => { q with overContact := q.overContact || false }) = s :=
    State.onPanel_same (by simp)
  rw [State.detect_eq hmatch, hself, State.advanceTracks_nothing, State.advanceTrack_free (hfree 0),
    State.advanceTracks_free [1, 2, 3, 4] fun k _ => hfree k]

/-- A cell of the baseline moves by one count toward a sample that differs by 1..16 (10 R178). -/
theorem driftCell_toNat (raw base : Sample) : (driftCell raw base).toNat =
    if base.toNat < raw.toNat ∧ raw.toNat ≤ base.toNat + 16 then base.toNat + 1
    else if raw.toNat < base.toNat ∧ base.toNat ≤ raw.toNat + 16 then base.toNat - 1
    else base.toNat := by
  unfold driftCell apart
  obtain hless | hsame | hless := lt_trichotomy base.toNat raw.toNat
  · rw [if_neg (fun h : raw.toNat < base.toNat ∧ _ => by omega)]
    by_cases hnear : raw.toNat ≤ base.toNat + 16
    · rw [if_neg (by omega), if_pos hless, if_pos ⟨hless, hnear⟩]
      bv_omega
    · rw [if_pos (by omega), if_neg (by omega)]
  · rw [if_pos (by omega), if_neg (by omega), if_neg (by omega)]
  · rw [if_neg (fun h : base.toNat < raw.toNat ∧ _ => by omega)]
    by_cases hnear : base.toNat ≤ raw.toNat + 16
    · rw [if_neg (by omega), if_neg (by omega), if_pos ⟨hless, hnear⟩]
      bv_omega
    · rw [if_pos (by omega), if_neg (by omega)]

/-- The eighth untouched frame in a row adjusts the baseline (10 R178). -/
theorem Panel.drifted_eighth {v : Vector Sample 960} (htracks : q.tracks = .replicate 5 .free) (hdrift : q.drift = 7)
    (hcancelled : f.driftCancelled = false)
    (hv : ∀ k : Fin 960, v[k.val].toNat = (driftCell f.frame.samples[k.val] q.baseline[k.val]).toNat) :
    q.drifted f = { q with drift := 0, baseline := v } := by
  have hall : q.tracks.toList.all (fun t => decide (t.state = .free)) = true := by
    rw [htracks]
    rfl
  have hbaseline : (.ofFn fun k : Fin 960 => driftCell f.frame.samples[k.val] q.baseline[k.val]) = v := by
    ext1 k hk
    rw [Vector.getElem_ofFn]
    exact (BitVec.eq_of_toNat_eq (hv ⟨k, hk⟩)).symm
  rw [Panel.drifted, if_neg (by simp [hcancelled]), if_pos hall, if_neg (by omega), hbaseline]

/-- The end of a frame without a touch (10 R178). -/
theorem exec_frameProcessed_untouched {q' : Panel} (hhigh : s.resetLow = false) (hf : s.panels[p.val].processing = some f)
    (hrole : f.role = .detect) (hsensor : f.frame.inject = none)
    (hfree : ∀ k : Fin 5, s.panels[p.val].tracks[k.val] = Track.free)
    (hlow : ∀ k : Fin 960, strengthOf f.curve f.frame.samples[k.val] f.baseline[k.val] < f.config.low.toNat)
    (hdrifted : s.panels[p.val].drifted f = q') :
    exec (.frameProcessed p) s = .next { s with panels := s.panels.set p.val q'.idled } := by
  have hprocessed : s.processed p f = s.onPanel p fun q => q.drifted f := by
    simp only [State.processed, hrole, State.detect_untouched hfree hlow]
  rw [exec_frameProcessed_of_processed hhigh hf hprocessed, PanelFrame.answer_sensor hsensor, LinkState.replying_nil]
  simp [State.onPanel, hdrifted]

/-! ## A frame whose tracks are brought forward (10 R172 to R178) -/

/-- A selection needs the primary's own hotspot under its UP, on the page that the frame shows (10 R176). -/
theorem selected_eq_none {t : Track} (h : t.primary = true → ∀ x, t.hotspot = some x → t.page = f.pageNumber →
    hitTest f.page t.position ≠ some x) : selected f t = none := by
  unfold selected
  cases hspot : t.hotspot with
  | none => rfl
  | some x => exact if_neg fun ⟨hprimary, hhit, hpage⟩ => h hprimary x hspot hpage hhit

/-- No track of a panel forms a selection in a frame (10 R176). -/
def Panel.NoSelection (q : Panel) (f : Processing) (m : Fin 5 → Option Peak) : Prop :=
  ∀ i : Fin 5, q.tracks[i.val].primary = true → q.tracks[i.val].missing ≠ 0 → m i = none →
    ∀ h, q.tracks[i.val].hotspot = some h → q.tracks[i.val].page = f.pageNumber →
      hitTest f.page q.tracks[i.val].position ≠ some h

/-- The tracks as a frame leaves them, with the reports that they make (10 R173, R174). -/
def Panel.broughtTo (q : Panel) (f : Processing) (m : Fin 5 → Option Peak) (v : Vector Track 5) (i : Fin 5) :
    Track × Option (Byte × (Nat × Nat)) :=
  q.tracks[i.val].brought f (takesLead q.tracks v i) (m i)

/-- A panel after a frame that did not adjust the baseline: its tracks, the drift count, and whether a peak found no track
(10 R172, R178). -/
def Panel.detected (q : Panel) (f : Processing) (v : Vector Track 5) (beyond : Bool) : Panel := { q with
  tracks := v
  drift := if f.driftCancelled = true ∨ ∃ i : Fin 5, v[i.val].state ≠ .free then 0 else q.drift + 1
  overContact := q.overContact || beyond }

/-- The screen of a panel whose tracks a frame has brought forward: a new DOWN touches its session (10 R174). -/
def State.screenAfter (s : State) (p : Fin 4) (v : Vector Track 5) : Screen :=
  if s.screens[p.val].enabled = true ∧ ∃ i : Fin 5, v[i.val].state = .down ∧ s.panels[p.val].tracks[i.val].state ≠ .down then
    { s.screens[p.val] with active := true, idle := some 0 }
  else s.screens[p.val]

/-- The session is touched just where a track becomes DOWN (10 R174). -/
theorem State.screenAfter_eq {m : Fin 5 → Option Peak} {v : Vector Track 5}
    (hv : ∀ i : Fin 5, v[i.val] = (s.panels[p.val].broughtTo f m v i).1) :
    (if fiveTracks.any fun i => saysDown (s.panels[p.val].broughtTo f m v i).2 then s.screens[p.val].touch
      else s.screens[p.val]) = s.screenAfter p v := by
  have hmem (i : Fin 5) : i ∈ fiveTracks := by fin_cases i <;> decide
  have hdown : (fiveTracks.any fun i => saysDown (s.panels[p.val].broughtTo f m v i).2) = true ↔
      ∃ i : Fin 5, v[i.val].state = .down ∧ s.panels[p.val].tracks[i.val].state ≠ .down := by
    rw [List.any_eq_true]
    refine exists_congr fun i => ?_
    rw [hv, Panel.broughtTo, Track.brought_saysDown, and_iff_right (hmem i)]
  simp only [State.screenAfter, Screen.touch, hdown]
  by_cases henabled : s.screens[p.val].enabled = true
  · simp only [henabled, true_and, if_true]
  · simp [henabled]

/-- The peaks of a frame go to the tracks, and where none of these forms a selection, each is brought forward
(10 R172 to R178). -/
theorem State.exists_matching (hprimary : ∀ i : Fin 5, s.panels[p.val].tracks[i.val].primary = true →
      s.panels[p.val].tracks[i.val].state = .down) {peaks : List Peak}
    (hpeaks : peaks = peaksOf (strengths f.curve f.frame.samples f.baseline) f.config.low.toNat f.width f.height) :
    ∃ m, Matching peaks s.panels[p.val].tracks m ∧ (s.panels[p.val].NoSelection f m → ∀ v : Vector Track 5,
      (∀ i : Fin 5, v[i.val] = (s.panels[p.val].broughtTo f m v i).1) →
      f.driftCancelled = true ∨ (∃ i : Fin 5, v[i.val].state ≠ .free) ∨ s.panels[p.val].drift < 7 →
      s.detect p f = { s with
        link := s.link.offering .contact (frameReports p (s.panels[p.val].broughtTo f m v))
        panels := s.panels.set p.val (s.panels[p.val].detected f v (decide ((freeNumbers s.panels[p.val].tracks).length
          < (unclaimed peaks s.panels[p.val].tracks m).length)))
        screens := s.screens.set p.val (s.screenAfter p v) }) := by
  have hordered := peaksOf_pairwise (strengths f.curve f.frame.samples f.baseline) f.config.low.toNat f.width f.height
  rw [← hpeaks] at hordered
  obtain ⟨c, hmatch, hmatching, hadvanced⟩ := matchPeaks_spec hordered s.panels[p.val].tracks
  refine ⟨fun i => (c i).peak, hmatching, fun hnone v hv hdrift => ?_⟩
  rw [hpeaks] at hmatch
  have hselects (i : Fin 5) (hc : c i = .nothing) (_ : (s.track p i).state = .down) (hmissing : (s.track p i).missing ≠ 0) :
      selected f (s.track p i) = none :=
    selected_eq_none fun hp => hnone i hp hmissing (congrArg Claim.peak hc)
  rw [State.detect_brought hmatch (fun i => (hadvanced i f _).symm) hv hprimary hselects, ← State.screenAfter_eq hv, hpeaks,
    Panel.drifted_count hdrift]
  rfl

/-- The end of a frame whose tracks are brought forward without a selection (10 R172 to R178). -/
theorem exec_frameProcessed_detected {x : LinkState} {v : Vector Track 5} {beyond : Bool} (hhigh : s.resetLow = false)
    (hf : s.panels[p.val].processing = some f) (hrole : f.role = .detect)
    (hdetect : s.detect p f = { s with
      link := x
      panels := s.panels.set p.val (s.panels[p.val].detected f v beyond)
      screens := s.screens.set p.val (s.screenAfter p v) }) :
    exec (.frameProcessed p) s = .next { s with
      link := x.replying (f.frame.answer p 0)
      panels := s.panels.set p.val (s.panels[p.val].detected f v beyond).idled
      screens := s.screens.set p.val (s.screenAfter p v) } := by
  have hprocessed : s.processed p f = s.detect p f := by simp only [State.processed, hrole]
  rw [exec_frameProcessed_of_processed hhigh hf (hprocessed.trans hdetect)]
  simp only [Vector.getElem_set_self, Vector.set_set]

/-! ## A frame of a capture (10 R179) -/

/-- The sums of a capture with a frame added. -/
theorem Capture.add_eq {c : Capture} {g : PanelFrame} {sums : Vector Nat 960}
    (hsums : ∀ k : Fin 960, sums[k.val] = c.sums[k.val] + g.samples[k.val].toNat) :
    c.add g = { c with sums := sums, count := c.count + 1 } := by
  have hadded : (.ofFn fun k : Fin 960 => c.sums[k.val] + g.samples[k.val].toNat) = sums := by
    ext1 k hk
    rw [Vector.getElem_ofFn]
    exact (hsums ⟨k, hk⟩).symm
  simp only [Capture.add, hadded]

end

end Sys2Proof.Machine
end

section
/-! PROOFS. A frame with one strong new peak, and what the end of a frame's processing does (10 R168 to R179). -/

namespace Sys2Proof.Machine

section
variable {s : State} {p : Fin 4} {f : Processing} {q : Panel} {k : Peak} {m : Fin 5 → Option Peak}

/-! ## One strong new peak (10 R172 to R174) -/

/-- The track of a new peak that one frame takes to DOWN (10 R173, R174). -/
def strongTrack (f : Processing) (k : Peak) : Track :=
  { state := .down, cell := k.cell, position := k.position, reported := k.position, lowCount := 1
    highCount := 1, missing := 0, hotspot := hitTest f.page k.position, page := f.pageNumber, primary := true }

/-- One peak among FREE tracks opens track 0 (10 R172). -/
theorem Matching.single {ts : Vector Track 5} (hfree : ∀ i : Fin 5, ts[i.val] = Track.free) (h : Matching [k] ts m) :
    unclaimed [k] ts m = [k] ∧ m 0 = some k ∧ ∀ i : Fin 5, i ≠ 0 → m i = none := by
  have hstate (i : Fin 5) : ts[i.val].state = .free := by rw [hfree]; rfl
  have hnumbers : freeNumbers ts = [0, 1, 2, 3, 4] := by
    rw [tracks_all_free hfree]
    rfl
  have hleft : unclaimed [k] ts m = [k] := by simp [unclaimed, hstate]
  obtain ⟨-, hopened⟩ := h
  simp only [hnumbers, hleft] at hopened
  refine ⟨hleft, hopened 0 0 rfl, fun i hi => ?_⟩
  obtain ⟨n, hn⟩ : ∃ n, i.val = n + 1 := Nat.exists_eq_succ_of_ne_zero fun h => hi (Fin.ext h)
  have hget : ([0, 1, 2, 3, 4] : List (Fin 5))[n + 1]? = some i := by
    rw [← hn]
    fin_cases i <;> rfl
  rw [hopened (n + 1) i hget]
  rfl

/-- The tracks and reports of a frame whose one peak is new, strong, and enough (10 R173, R174). -/
theorem Panel.broughtTo_strong (hfree : ∀ i : Fin 5, q.tracks[i.val] = Track.free) (hstrong : f.config.high.toNat ≤ k.strength)
    (hlow : f.config.nLo ≤ 1) (hhigh : f.config.nHi ≤ 1) (hfirst : m 0 = some k) (hrest : ∀ i : Fin 5, i ≠ 0 → m i = none)
    (v : Vector Track 5) : q.broughtTo f m v 0 = (strongTrack f k, some (0, k.position)) ∧
      ∀ i : Fin 5, i ≠ 0 → q.broughtTo f m v i = (Track.free, none) := by
  have hstate (i : Fin 5) : q.tracks[i.val].state = .free := by rw [hfree]; rfl
  constructor
  · have hlead : takesLead q.tracks v 0 = true :=
      decide_eq_true fun j => ⟨fun h => absurd h (Fin.not_lt_zero j), fun _ => by rw [hfree]; rfl⟩
    have hcount : (k.strong f).toNat = 1 := by rw [Peak.strong_toNat, if_pos hstrong]
    rw [Panel.broughtTo, hfirst, hlead, (Track.brought_free (hstate 0)).2, openedTrack, hcount, Track.tested,
      if_pos ⟨hlow, hhigh⟩]
    rfl
  · intro i hi
    rw [Panel.broughtTo, hrest i hi, (Track.brought_free (hstate i)).1, hfree]

/-- The end of a frame whose one peak is new, strong, and enough (10 R173, R174). -/
theorem exec_frameProcessed_strong (hhigh : s.resetLow = false) (hf : s.panels[p.val].processing = some f)
    (hrole : f.role = .detect) (hsensor : f.frame.inject = none)
    (hfree : ∀ i : Fin 5, s.panels[p.val].tracks[i.val] = Track.free)
    (hpeaks : peaksOf (strengths f.curve f.frame.samples f.baseline) f.config.low.toNat f.width f.height = [k])
    (hstrong : f.config.high.toNat ≤ k.strength) (hnLo : f.config.nLo ≤ 1) (hnHi : f.config.nHi ≤ 1)
    (hreports : s.reportsFreely .contact) : exec (.frameProcessed p) s = .next { s with
      panels := s.panels.set p.val { s.panels[p.val] with
        processing := none, drift := 0, tracks := s.panels[p.val].tracks.set 0 (strongTrack f k) }
      link := { s.link with reports := s.link.reports ++ [contactItem p 0 0 0 k.position] }
      screens := s.screens.set p.val s.screens[p.val].touch } := by
  have hidle (i : Fin 5) : s.panels[p.val].tracks[i.val].primary ≠ true := by rw [hfree]; exact nofun
  obtain ⟨m, hmatching, hdetect⟩ := State.exists_matching (fun i h => absurd h (hidle i)) hpeaks.symm
  obtain ⟨hleft, hfirst, hrest⟩ := hmatching.single hfree
  obtain ⟨v, hv⟩ : ∃ v, s.panels[p.val].tracks.set 0 (strongTrack f k) = v := ⟨_, rfl⟩
  obtain ⟨hopened, hothers⟩ := Panel.broughtTo_strong hfree hstrong hnLo hnHi hfirst hrest v
  have htracks (i : Fin 5) : v[i.val] = (s.panels[p.val].broughtTo f m v i).1 := by
    by_cases hi : i = 0
    · rw [hi, hopened, ← hv]
      exact Vector.getElem_set_self ..
    · rw [hothers i hi, ← hfree i, ← hv]
      exact Vector.getElem_set_ne (by omega) i.isLt fun h => hi (Fin.ext h.symm)
  have hdown : v[(0 : Fin 5).val].state = .down := by
    rw [htracks, hopened]
    rfl
  have hused : ∃ i : Fin 5, v[i.val].state ≠ .free := ⟨0, by rw [hdown]; exact nofun⟩
  have hbecomes : ∃ i : Fin 5, v[i.val].state = .down ∧ s.panels[p.val].tracks[i.val].state ≠ .down :=
    ⟨0, hdown, by rw [hfree]; exact nofun⟩
  have hitems : frameReports p (s.panels[p.val].broughtTo f m v) = [contactItem p 0 0 0 k.position] := by
    have hfive : List.finRange 5 = [0, 1, 2, 3, 4] := rfl
    simp [frameReports, hfive, hopened, hothers]
  have hscreen : s.screenAfter p v = s.screens[p.val].touch := by
    simp only [State.screenAfter, Screen.touch, and_iff_left hbecomes]
  have hbeyond : decide ((freeNumbers s.panels[p.val].tracks).length <
      (unclaimed [k] s.panels[p.val].tracks m).length) = false := by
    rw [hleft, tracks_all_free hfree]
    rfl
  have hdetected := hdetect (fun i h => absurd h (hidle i)) v htracks (.inr (.inl hused))
  rw [exec_frameProcessed_detected hhigh hf hrole hdetected, hitems, LinkState.offering_free hreports.1 hreports.2, hscreen,
    PanelFrame.answer_sensor hsensor, LinkState.replying_nil, hv]
  simp only [Panel.detected, Panel.idled, hbeyond, Bool.or_false, if_pos (Or.inr hused)]

/-! ## The obligation -/

/-- The PLAIN selection of a frame whose UP leaves a report slot (09 R156, 10 R176). -/
theorem exec_frameProcessed_plain {h : Nat} {x : Hotspot} (hselects : s.selectsOn p f h x) (hplain : x.action = .plain) :
    exec (.frameProcessed p) s =
      .next (s.afterSelection p f h x 0 { s.screens[p.val] with active := true, idle := some 0 }) := by
  obtain ⟨hforms, henabled, hslots⟩ := hselects
  have hout : (s.upReported p).carryOut p x.action = plainOutcome (s.acting p s.screens[p.val].selecting) := by
    rw [State.carryOut_enabled rfl henabled, hplain]
    rfl
  exact (exec_frameProcessed_of_no_request (c := s.screens[p.val].selecting) hforms rfl hout).1 hslots

/-- A frame without a touch: the drift count rises, at the eighth the baseline moves, and a baseline write in between
returns the count to 0 (10 R178). -/
theorem exec_frameProcessed_drift (hhigh : s.resetLow = false) (hf : s.panels[p.val].processing = some f)
    (hrole : f.role = .detect) (hsensor : f.frame.inject = none)
    (hfree : ∀ i : Fin 5, s.panels[p.val].tracks[i.val] = Track.free)
    (hlow : ∀ k : Fin 960, strengthOf f.curve f.frame.samples[k.val] f.baseline[k.val] < f.config.low.toNat) :
    (s.panels[p.val].drift < 7 → f.driftCancelled = false → exec (.frameProcessed p) s = .next { s with
      panels := s.panels.set p.val { s.panels[p.val] with processing := none, drift := s.panels[p.val].drift + 1 } })
    ∧ (∀ v : Vector Sample 960, s.panels[p.val].drift = 7 → f.driftCancelled = false →
      (∀ k : Fin 960, v[k.val].toNat = (driftCell f.frame.samples[k.val] s.panels[p.val].baseline[k.val]).toNat) →
      exec (.frameProcessed p) s = .next { s with
        panels := s.panels.set p.val { s.panels[p.val] with processing := none, drift := 0, baseline := v } })
    ∧ (f.driftCancelled = true → exec (.frameProcessed p) s = .next { s with
      panels := s.panels.set p.val { s.panels[p.val] with processing := none, drift := 0 } }) := by
  have htracks := tracks_all_free hfree
  have hexec {q' : Panel} (hdrifted : s.panels[p.val].drifted f = q') :=
    exec_frameProcessed_untouched hhigh hf hrole hsensor hfree hlow hdrifted
  exact ⟨fun hdrift hcancelled => hexec (Panel.drifted_free htracks hdrift hcancelled),
    fun v hdrift hcancelled hv => hexec (Panel.drifted_eighth htracks hdrift hcancelled hv),
    fun hcancelled => hexec (Panel.drifted_cancelled _ hcancelled)⟩

/-- A frame of a capture: it is added, and the eighth replaces the baseline and answers (10 R179). -/
theorem exec_frameProcessed_capture {c : Capture} {sums : Vector Nat 960} (hhigh : s.resetLow = false)
    (hf : s.panels[p.val].processing = some f) (hrole : f.role = .capture) (hc : s.panels[p.val].capture = some c)
    (hsums : ∀ k : Fin 960, sums[k.val] = c.sums[k.val] + f.frame.samples[k.val].toNat) :
    (c.count < 7 → exec (.frameProcessed p) s = .next { s with
      panels := s.panels.set p.val { s.panels[p.val] with
        processing := none, capture := some { c with sums := sums, count := c.count + 1 } }
      link := s.link.replying (f.frame.answer p 0) })
    ∧ (c.count = 7 → exec (.frameProcessed p) s = .next { s with
      panels := s.panels.set p.val { s.panels[p.val] with
        processing := none, capture := none, state := .running, drift := 0
        baseline := sums.map fun n => BitVec.ofNat 12 (n / 8), timer := s.panels[p.val].startTimer }
      link := (s.link.replying [plainReply 0x12 c.tag [0, BitVec.ofNat 8 p.val]]).replying (f.frame.answer p 0) }) := by
  have hprocessed : s.processed p f = s.accumulate p f := by simp only [State.processed, hrole]
  constructor
  · intro hcount
    have hmore := State.accumulate_more (f := f) hc hcount
    rw [Capture.add_eq hsums] at hmore
    rw [exec_frameProcessed_of_processed hhigh hf (hprocessed.trans hmore)]
    simp only [Vector.getElem_set_self, Vector.set_set, Panel.idled]
  · intro hcount
    have hlast := State.accumulate_last (f := f) hc (by omega)
    rw [Capture.add_eq hsums] at hlast
    rw [exec_frameProcessed_of_processed hhigh hf (hprocessed.trans hlast)]
    simp only [Vector.getElem_set_self, Vector.set_set, Panel.idled, Capture.average]

end

/-- Settles O49: the measures of a frame are read off their definitions; its peaks go to the tracks by the matching that the
model makes, each track is brought forward by its state and the peak it got, and the panel, the screen and the link are then
put together from what the five made of them. -/
theorem frameProcessed : Obligations.FrameProcessed := by
  unfold Obligations.FrameProcessed
  refine ⟨strengthOf_eq, ?_, ?_, ?_, ?_, ?_⟩
  · exact fun curve samples base c r k _ _ hk => strengthAt_strengths curve samples base k hk
  · refine fun m low width height => ⟨peaksOf_pairwise m low width height, fun k => mem_peaksOf.trans ?_⟩
    refine exists_congr fun c => exists_congr fun r => and_congr_right fun hc => and_congr_right fun _ => ?_
    rw [isPeak_iff hc, and_assoc]
  · exact fun c r _ _ => ⟨window_nodup c r, fun x y => mem_window x y⟩
  · exact fun m low width height c r sum column row weight hc hr hlow _ _ hweight hsum hcolumn hrow =>
      peakPosition_eq hc hr hlow hweight hsum hcolumn hrow
  · intro s p q f hhigh hq hf
    subst hq
    refine ⟨fun hrole => ?_, fun hrole hsensor hfree hlow => ?_, fun peaks hrole hpeaks hprimary => ?_, ?_, ?_, ?_⟩
    · have hprocessed : s.processed p f = s := by simp only [State.processed, hrole]
      exact exec_frameProcessed_of_processed hhigh hf hprocessed
    · obtain ⟨hcount, heighth, hwritten⟩ := exec_frameProcessed_drift hhigh hf hrole hsensor hfree hlow
      exact ⟨hcount, fun v hdrift hcancelled hv => heighth v hdrift hcancelled fun k => by rw [hv, driftCell_toNat],
        hwritten⟩
    · obtain ⟨m, hmatching, hdetect⟩ := State.exists_matching hprimary hpeaks
      refine ⟨m, hmatching, fun hnone v t hv hdrift ht => ?_⟩
      rw [exec_frameProcessed_detected hhigh hf hrole (hdetect hnone v hv hdrift), ht, State.offered_eq, LinkState.replying,
        LinkState.offering_replies]
      rfl
    · exact fun k hrole hsensor hfree hpeaks hstrong hnLo hnHi hreports =>
        exec_frameProcessed_strong hhigh hf hrole hsensor hfree hpeaks hstrong hnLo hnHi hreports
    · exact fun h x hselects hplain => exec_frameProcessed_plain hselects hplain
    · exact fun c sums hrole hc hsums => exec_frameProcessed_capture hhigh hf hrole hc hsums

end Sys2Proof.Machine
end
